-- ==== Sys2Proof/Word.lean ====
section
/-! DEFINITION. The plain word types of the hub: bytes of frames and messages, hub time, and the saturating count of
spec 00_scope 4.3. -/

namespace Sys2Proof

/-- One byte of a frame, a record or a port-line message. -/
abbrev Byte := BitVec 8

/-- Hub time: a 32-bit count of milliseconds since reset that wraps (00_scope 5, 4.3). -/
abbrev Time := BitVec 32

/-- A counter that saturates at `top` (00_scope 4.3: counters saturate at their largest value). -/
def satAdd (top n k : Nat) : Nat := min top (n + k)

end Sys2Proof
end

