-- ==== Sys2Proof/Syntax.lean ====
section
/-! DEFINITION. The syntax of the hub: the names of its links, ports and voices, the operands of its commands, and
`Instr`, the one type of commands, with one constructor for each row of spec/opcode_table.json. -/

namespace Sys2Proof

/-- The two links (00_scope 4.1). Their wire codes are 0 RADIO and 1 CONTROLLER (R189, R197). -/
inductive Link where
  | radio
  | controller
  deriving DecidableEq, Repr

/-- The six device ports (00_scope 4.1). Their wire codes are 0 to 5 (R197). -/
inductive Port where
  | a | b | c | d | e | f
  deriving DecidableEq, Repr

/-- A channel within a link, 0 to 15 (00_scope 4.1). -/
abbrev Channel := Fin 16

/-- An ID band, 0 to 7 (R41). -/
abbrev Band := Fin 8

/-- A voice, 0 to 3 (00_scope 4.1). -/
abbrev VoiceId := Fin 4

/-- A raw value of a port's 12-bit ADC, 0 to 4095 (R66). -/
abbrev RawSample := Fin 4096

/-- One value for each link. -/
structure PerLink (α : Type) where
  radio : α
  controller : α
  deriving DecidableEq, Repr

/-- One value for each port. -/
structure PerPort (α : Type) where
  a : α
  b : α
  c : α
  d : α
  e : α
  f : α
  deriving DecidableEq, Repr

/-- One value for each of four: the cells of a port, the system cells, the voices, the wavetables. -/
structure Quad (α : Type) where
  q0 : α
  q1 : α
  q2 : α
  q3 : α
  deriving DecidableEq, Repr

/-- A link and a channel of it: where a notice, an event or a report goes. -/
structure Endpoint where
  link : Link
  channel : Channel
  deriving DecidableEq, Repr

/-- Where a command or a request came from: its ingress link, its channel and its frame tag (R30, R187). -/
structure Origin where
  link : Link
  channel : Channel
  tag : Byte
  deriving DecidableEq, Repr

/-- A segment record as its 19 bytes carry it (R198), before the checks and the clamps of R96. A reflex record stores
its segment in this form (R164). -/
structure RawSegment where
  kind : Byte
  endAction : Byte
  speed : BitVec 32
  position : BitVec 32
  duty : BitVec 16
  accel : BitVec 16
  duration : BitVec 16
  routeLink : Byte
  routeChannel : Byte
  tag : Byte
  deriving DecidableEq, Repr

/-- A note record as its 12 bytes carry it (R198), before the checks and the clamps of R139. A reflex record stores its
note in this form (R164). -/
structure RawNote where
  kind : Byte
  wavetable : Byte
  envelope : Byte
  frequency : BitVec 16
  gain : BitVec 16
  duration : BitVec 16
  routeLink : Byte
  routeChannel : Byte
  tag : Byte
  deriving DecidableEq, Repr

/-- A message that a smart device sent on a port line: its payload, whose length is its length byte, and its two check bytes
(R51). A length above 250 stands for a length byte that begins no message and the bytes that follow it (R52). -/
structure LineReply where
  payload : List Byte
  sum1 : Byte
  sum2 : Byte
  deriving DecidableEq, Repr

/-- What the hub's input pins show as it leaves a reset: PRDY of each link (R18) and the ID band of each port (R63). -/
structure ResetPins where
  prdy : PerLink Bool
  bands : PerPort Band
  deriving DecidableEq, Repr

/-- The commands of the hub, one for each row of spec/opcode_table.json, with what the event brings from outside:
the bytes that arrived, or the level or reading of a pin. Rows that are management requests carry the request's origin
and operands. -/
inductive Instr where
  /-- POWER_ON. -/
  | powerOn (pins : ResetPins)
  /-- RESET_N_ASSERT. -/
  | resetNAssert
  /-- RESET_N_RELEASE. -/
  | resetNRelease (pins : ResetPins)
  /-- LINK_DOWN: PRDY of the link falls. -/
  | linkDown (l : Link)
  /-- LINK_UP: PRDY of the link rises. -/
  | linkUp (l : Link)
  /-- RECEIVE_HEADER: the four header bytes of R196. -/
  | receiveHeader (l : Link) (b1 b2 b3 b4 : Byte)
  /-- SKIP_COUNT_SPENT. -/
  | skipCountSpent (l : Link)
  /-- RECEIVE_FRAME_END: the payload bytes and the two CRC bytes. -/
  | receiveFrameEnd (l : Link) (payload : List Byte) (crcLow crcHigh : Byte)
  /-- WAITING_HEAD_HANDOVER. -/
  | waitingHeadHandover (l : Link)
  /-- TRANSMIT_START, with the level of CTS. -/
  | transmitStart (l : Link) (cts : Bool)
  /-- FRAME_TRANSMITTED. -/
  | frameTransmitted (l : Link)
  /-- ATTN_PULSE_END. -/
  | attnPulseEnd
  /-- ATTN_PULSE_GAP_END. -/
  | attnPulseGapEnd
  /-- MGMT_HEAD_CONSIDERATION, with the ID band and the analog reading of the port the request names. -/
  | mgmtHeadConsideration (band : Band) (raw : RawSample)
  /-- IDENTIFY. -/
  | identify (o : Origin)
  /-- LOAD_ROUTE. -/
  | loadRoute (o : Origin) (index : Byte) (record : List Byte)
  /-- LOAD_MOTOR_CLASS. -/
  | loadMotorClass (o : Origin) (index : Byte) (record : List Byte)
  /-- LOAD_MOTOR_SETTINGS. -/
  | loadMotorSettings (o : Origin) (index : Byte) (record : List Byte)
  /-- LOAD_PORT_SETTINGS. -/
  | loadPortSettings (o : Origin) (index : Byte) (record : List Byte)
  /-- LOAD_CALIBRATION. -/
  | loadCalibration (o : Origin) (index : Byte) (record : List Byte)
  /-- LOAD_WAVETABLE. -/
  | loadWavetable (o : Origin) (index : Byte) (record : List Byte)
  /-- LOAD_ENVELOPE. -/
  | loadEnvelope (o : Origin) (index : Byte) (record : List Byte)
  /-- LOAD_REFLEX. -/
  | loadReflex (o : Origin) (index : Byte) (record : List Byte)
  /-- LOAD_SUBSCRIPTION. -/
  | loadSubscription (o : Origin) (index : Byte) (record : List Byte)
  /-- LOAD_SUPPLY_SETTINGS. -/
  | loadSupplySettings (o : Origin) (index : Byte) (record : List Byte)
  /-- LOAD_SOUND_SETTINGS. -/
  | loadSoundSettings (o : Origin) (index : Byte) (record : List Byte)
  /-- LOAD_LINK_SETTINGS. -/
  | loadLinkSettings (o : Origin) (index : Byte) (record : List Byte)
  /-- LOAD_EVENT_ROUTES. -/
  | loadEventRoutes (o : Origin) (index : Byte) (record : List Byte)
  /-- READ. -/
  | read (o : Origin) (table index : Byte)
  /-- READ_VOICE. -/
  | readVoice (o : Origin) (index : Byte)
  /-- READ_MIXER. -/
  | readMixer (o : Origin) (index : Byte)
  /-- PORT_RESET, with the ID band the port then reads. -/
  | portReset (o : Origin) (port : Byte) (band : Band)
  /-- PORT_SUSPEND. -/
  | portSuspend (o : Origin) (port : Byte)
  /-- PORT_RESUME, with the analog reading of a passive port. -/
  | portResume (o : Origin) (port : Byte) (raw : RawSample)
  /-- SELECT_MODE. -/
  | selectMode (o : Origin) (port mode : Byte)
  /-- MOTOR_UNLOCK. -/
  | motorUnlock (o : Origin) (port : Byte)
  /-- REFLEX_ARM. -/
  | reflexArm (o : Origin) (index : Byte)
  /-- READ_FLAGS. -/
  | readFlags (o : Origin) (port : Byte)
  /-- READ_ATTENTION. -/
  | readAttention (o : Origin)
  /-- SET_ATTENTION. -/
  | setAttention (o : Origin) (mask : BitVec 16) (mode : Byte)
  /-- READ_COUNTERS. -/
  | readCounters (o : Origin) (link : Byte)
  /-- SET_FLAG_MASK. -/
  | setFlagMask (o : Origin) (port mask : Byte)
  /-- HUB_RESET. -/
  | hubReset (o : Origin)
  /-- HUB_REINITIALISATION, with the ID bands the ports then read. -/
  | hubReinitialisation (bands : PerPort Band)
  /-- ID_BAND_READ of one port. -/
  | idBandRead (p : Port) (band : Band)
  /-- DEBOUNCE_EXPIRY, with the analog reading of a passive port. -/
  | debounceExpiry (p : Port) (raw : RawSample)
  /-- BAND_WATCH_EXPIRY. -/
  | bandWatchExpiry (p : Port)
  /-- FAULT_RECOVERY_EXPIRY, with the ID band read at that moment. -/
  | faultRecoveryExpiry (p : Port) (band : Band)
  /-- LINE_BREAK_END. -/
  | lineBreakEnd (p : Port)
  /-- QUERY_RETRY. -/
  | queryRetry (p : Port)
  /-- IDENTIFY_TIMEOUT. -/
  | identifyTimeout (p : Port)
  /-- DESCRIPTION_RECEIVED. -/
  | descriptionReceived (p : Port) (m : LineReply)
  /-- CONFIGURE_ACCEPT. -/
  | configureAccept (p : Port) (m : LineReply)
  /-- CONFIGURE_TIMEOUT. -/
  | configureTimeout (p : Port)
  /-- SELECT_DEFERRED_SEND. -/
  | selectDeferredSend (p : Port)
  /-- SELECT_ACCEPT. -/
  | selectAccept (p : Port) (m : LineReply)
  /-- SELECT_TIMEOUT. -/
  | selectTimeout (p : Port)
  /-- ANALOG_SAMPLE. -/
  | analogSample (p : Port) (raw : RawSample)
  /-- POLL_DUE. -/
  | pollDue (p : Port)
  /-- SAMPLE_RECEIVED. -/
  | sampleReceived (p : Port) (m : LineReply)
  /-- HOLD_RECEIVED. -/
  | holdReceived (p : Port) (m : LineReply)
  /-- PORT_LINE_MESSAGE_REJECTED: a message of the given kind code. -/
  | portLineMessageRejected (p : Port) (kind : Byte) (m : LineReply)
  /-- POLL_WINDOW_CLOSE. -/
  | pollWindowClose (p : Port)
  /-- SAMPLE_WATCHDOG_EXPIRY. -/
  | sampleWatchdogExpiry (p : Port)
  /-- SUBSCRIPTION_PERIOD_EXPIRY. -/
  | subscriptionPeriodExpiry (i : Fin 24)
  /-- SUBSCRIPTION_INTERVAL_END. -/
  | subscriptionIntervalEnd (i : Fin 24)
  /-- APPEND. -/
  | append (p : Port) (o : Origin) (seg : RawSegment)
  /-- REPLACE. -/
  | replace (p : Port) (o : Origin) (seg : RawSegment)
  /-- ABORT, with its end action code. -/
  | abort (p : Port) (o : Origin) (endAction : Byte)
  /-- ZERO. -/
  | zero (p : Port) (o : Origin)
  /-- ENCODER_STEP, forward or reverse. -/
  | encoderStep (p : Port) (forward : Bool)
  /-- MOTOR_CONTROL_PERIOD, with the current sensed, in mA. -/
  | motorControlPeriod (p : Port) (current : Int)
  /-- SETTLE_TIMEOUT. -/
  | settleTimeout (p : Port)
  /-- SEGMENT_DURATION_END. -/
  | segmentDurationEnd (p : Port)
  /-- STALL_DETECTED. -/
  | stallDetected (p : Port)
  /-- SUPPLY_MEASUREMENT: the battery voltage, 0 to 12000 mV, and the current drawn, 0 to 20000 mA. -/
  | supplyMeasurement (voltage : Fin 12001) (current : Fin 20001)
  /-- SUPPLY_FALL_TO_LOW. -/
  | supplyFallToLow
  /-- SUPPLY_FALL_TO_CRITICAL. -/
  | supplyFallToCritical
  /-- SUPPLY_RISE. -/
  | supplyRise
  /-- QUEUE. -/
  | queue (v : VoiceId) (o : Origin) (note : RawNote)
  /-- PLAY. -/
  | play (v : VoiceId) (o : Origin) (note : RawNote)
  /-- STOP_RELEASE. -/
  | stopRelease (v : VoiceId) (o : Origin)
  /-- STOP_CUT. -/
  | stopCut (v : VoiceId) (o : Origin)
  /-- SET_GAIN. -/
  | setGain (v : VoiceId) (o : Origin) (gain : BitVec 16)
  /-- SET_LOOP, with its mode code. -/
  | setLoop (v : VoiceId) (o : Origin) (mode : Byte)
  /-- AMP_WARMUP_COMPLETE. -/
  | ampWarmupComplete
  /-- AMP_IDLE_OFF. -/
  | ampIdleOff
  /-- ENVELOPE_STEP. -/
  | envelopeStep (v : VoiceId)
  /-- NOTE_DURATION_END. -/
  | noteDurationEnd (v : VoiceId)
  /-- OUTPUT_SAMPLE. -/
  | outputSample
  /-- STARVED_TIMEOUT. -/
  | starvedTimeout (v : VoiceId)
  /-- SYNC_BYTE_RECEIVED. -/
  | syncByteReceived (l : Link)
  /-- CREDIT_FRAME_SENT. -/
  | creditFrameSent (l : Link)
  deriving DecidableEq, Repr

end Sys2Proof
end

