-- ==== Sys2Proof/Decode.lean ====
section
/-! DEFINITION. The table words. No row of spec/opcode_table.json gives bits: the hub takes frames, pin levels and timer
expiries, and has no encoding of a command as one word. -/

namespace Sys2Proof

/-- The command that a word of `nbits` bits spells by the table's bits: none, since no row of the table gives bits. -/
def decodeTableWord (_nbits _w : Nat) : Option Instr := none

end Sys2Proof
end

