-- ==== Sys2Proof/Config.lean ====
section
/-! DEFINITION. The free values of the model: constants with no body, so that no proof can see what they are. Each
stands for one value that the spec leaves unstated while it gives the command its effect; each has a log entry. -/

namespace Sys2Proof.Config

/-- What a cell (signed 32 bits, R81) holds after a value write of a number outside its range. The spec states no such
result (a measured speed of R116 is the one number that can leave the range). DESIGN CHOICE: free value, log entry 9. -/
opaque cellOverflow : Int → BitVec 32

/-- The channel of a segment's notice route whose channel byte is above 15: R96 neither clamps nor refuses it. DESIGN
CHOICE: free value of the byte, log entry 10. -/
opaque segmentChannel : BitVec 8 → Fin 16

/-- The command code that a REFUSED notice carries when the refused motor or sound command has an empty payload and so no
code byte (R97, R141 say 'the command code as received'). DESIGN CHOICE: free value, log entry 11. -/
opaque absentCommandCode : BitVec 8

end Sys2Proof.Config
end

