-- ==== Sys2Proof/Machine/State.lean ====
section
/-! DEFINITION. The state of the hub as plain data: every table, queue, record, timer, counter and pin the spec gives it,
the queue of commands that wait, the reasons a step can stop, and the state after reset. -/

namespace Sys2Proof.Machine

/-! ## Why a step can stop -/

/-- Faults. The spec names no condition that stops the hub: a command that does not apply is refused by a notice or a
reply, which is an effect on the state. So there is no fault. -/
inductive Fault where
  deriving DecidableEq, Repr

/-- Refusals. -/
inductive Refusal where
  /-- Raised by `exec` alone, for a command that has no meaning in this model. Safe: the machine stops. -/
  | notModelled (mnemonic : String)
  deriving DecidableEq, Repr

/-! ## Frames -/

/-- Frame kinds (02 2.3). `unassigned n` is the code 8 + n. -/
inductive FrameKind where
  | data | stream | mgmtRequest | mgmtReply | report | notice | event | credit
  | unassigned (n : Fin 8)
  deriving DecidableEq, Repr

/-- The header of a frame as a receiver takes it (R196): its length lies within 0 to 248 once it is accepted. -/
structure Header where
  channel : Channel
  kind : FrameKind
  flags : Byte
  length : Nat
  tag : Byte
  deriving DecidableEq, Repr

/-- A stored frame (R1): its header fields and its payload. Its length field is the length of the payload. -/
structure Frame where
  channel : Channel
  kind : FrameKind
  flags : Byte
  tag : Byte
  payload : List Byte
  deriving DecidableEq, Repr

/-! ## Link units -/

/-- The receiver's states (02 2.2). In `payload` the receive assembly holds the chain of an accepted header. -/
inductive Receiver where
  | hunting
  | header
  | payload (h : Header)
  | skipping (count : Nat)
  deriving DecidableEq, Repr

/-- The two transmit queues of a link (R35). -/
inductive TxQueue where
  | urgent
  | normal
  deriving DecidableEq, Repr

/-- The destination that a waiting hold-list head keeps (R27, R32). A PASS head waits for a queue of the other link. -/
inductive Waiting where
  | management
  | pass (queue : TxQueue) (out : Channel)
  deriving DecidableEq, Repr

/-- What a SENDING transmitter sends (R36): a CREDIT frame, or the head of a queue, and the bytes it puts on the line
(R20). -/
inductive SendSource where
  | credit
  | queue (q : TxQueue)
  deriving DecidableEq, Repr

/-- A frame in transmission. -/
structure Sending where
  source : SendSource
  bytes : List Byte
  deriving DecidableEq, Repr

/-- The nine counters of a link, 16 bits each, saturating (R40). -/
structure LinkCounters where
  framesReceived : Nat
  formatErrors : Nat
  crcErrors : Nat
  overruns : Nat
  badKindDrops : Nat
  routeDrops : Nat
  downLinkDrops : Nat
  lostNotices : Nat
  framesTransmitted : Nat
  deriving DecidableEq, Repr

/-- A link unit (chapter 02) with the pool's figures for the link (chapter 01). The link's reservation equals its
outstanding credit at all times (R6), so `outstanding` holds both. -/
structure LinkUnit where
  up : Bool
  receiver : Receiver
  hold : List Frame
  waiting : Option Waiting
  urgent : List Frame
  normal : List Frame
  sending : Option Sending
  cts : Bool
  ceiling : Nat
  outstanding : Nat
  pendingCredit : Nat
  restart : Bool
  counters : LinkCounters
  deriving DecidableEq, Repr

/-- A route entry (02 2.5). The fields a destination does not use are not held: they read as 0. -/
inductive Route where
  | drop
  | management
  | motor (p : Port)
  | sound (v : VoiceId)
  | pass (out : Channel)
  deriving DecidableEq, Repr

/-! ## Ports -/

/-- Port states (R43). -/
inductive PortState where
  | empty | detecting | identifying | configuring | active | suspended | fault
  deriving DecidableEq, Repr

/-- The motor classes (R93). -/
inductive MotorClass where
  | s | m | l
  deriving DecidableEq, Repr

/-- Device classes (R41). `noClass` is NONE. -/
inductive DeviceClass where
  | short | touch | light | smart
  | motor (c : MotorClass)
  | noClass
  deriving DecidableEq, Repr

/-- Port-line rates (R51): 9600, 57600, 115200 baud. -/
inductive LineRate where
  | r9600 | r57600 | r115200
  deriving DecidableEq, Repr

/-- Why a port last entered FAULT (R43). -/
inductive FaultReason where
  | noReason | short | identifyTimeout | configureTimeout | selectTimeout | sampleTimeout
  deriving DecidableEq, Repr

/-- Raw formats of a smart mode (R55). -/
inductive RawFormat where
  | int8 | int16 | int32
  deriving DecidableEq, Repr

/-- One mode of a smart device (R55). -/
structure Mode where
  valueCount : Nat
  format : RawFormat
  rawMin : Int
  rawMax : Int
  siMin : Int
  siMax : Int
  minInterval : Nat
  deriving DecidableEq, Repr

/-- A description record (R55). Its mode count is the length of `modes`. -/
structure Description where
  typeCode : Nat
  highestRate : Nat
  defaultMode : Nat
  modes : List Mode
  deriving DecidableEq, Repr

/-- Rounding modes of a conversion (R75). -/
inductive Rounding where
  | nearestEven | towardZero | down | up
  deriving DecidableEq, Repr

/-- Range policies (R78). -/
inductive RangePolicy where
  | saturate | indefinite
  deriving DecidableEq, Repr

/-- The port settings record (R44). -/
structure PortSettings where
  analogInterval : Nat
  pollInterval : Nat
  mode : Option Nat
  calibration : Option (Fin 6)
  rounding : Rounding
  policy : RangePolicy
  eventRoute : Option Endpoint
  deriving DecidableEq, Repr

/-- A band that a debounce or a band watch is timing, and when its timer started (R42, R45). -/
structure Candidate where
  band : Band
  start : Time
  deriving DecidableEq, Repr

/-- The response windows of the port manager (R52). CONFIGURE's holds the rate it sent (R57). -/
inductive PortWindow where
  | query
  | configure (rate : LineRate)
  | select
  deriving DecidableEq, Repr

/-- An open response window, when it opened, and whether a length byte above 250 has come in it, after which the receiver
discards every byte until the window closes (R52). -/
structure OpenWindow where
  kind : PortWindow
  start : Time
  deaf : Bool := false
  deriving DecidableEq, Repr

/-- A port record (R43), with the settings of R44, the timer of the line break (R53), when the ID band is read next (R42) and
the bytes of the last message the hub sent on the port line (R51, R201). -/
structure PortRec where
  state : PortState
  band : Band
  cls : DeviceClass
  description : Option Description
  selectedMode : Nat
  lineRate : LineRate
  queryCount : Nat
  modeChange : Option Nat
  faultReason : FaultReason
  debounce : Option Candidate
  bandWatch : Option Candidate
  lineBreak : Option Time
  identification : Option Time
  window : Option OpenWindow
  recovery : Option Time
  nextReading : Time
  settings : PortSettings
  lineSent : List Byte
  deriving DecidableEq, Repr

/-! ## Acquisition -/

/-- What the acquisition unit does for a port (R64). -/
inductive Schedule where
  | stopped | analog | poll
  deriving DecidableEq, Repr

/-- An open POLL window: when it closes (R69), and whether its receiver discards every byte until then (R52). -/
structure PollWindow where
  closes : Time
  deaf : Bool := false
  deriving DecidableEq, Repr

/-- An acquisition record (R64). -/
structure Acquisition where
  schedule : Schedule
  nextDue : Time
  pollInterval : Nat
  pollWindow : Option PollWindow
  missCount : Nat
  watchdog : Option Time
  deriving DecidableEq, Repr

/-- A breakpoint of a calibration table (R77). -/
structure Breakpoint where
  raw : Nat
  val : Int
  deriving DecidableEq, Repr

/-! ## The value table -/

/-- The 28 cells: A0 to F3 and S0 to S3 (05 5.1). -/
inductive CellId where
  | port (p : Port) (i : Fin 4)
  | sys (i : Fin 4)
  deriving DecidableEq, Repr

/-- Cell tags (R81). -/
inductive CellTag where
  | empty | valid | stale | range
  deriving DecidableEq, Repr

/-- Cell writers (R81). -/
inductive Writer where
  | nobody | sensor | motor | supply | pool
  deriving DecidableEq, Repr

/-- A cell (R81). -/
structure Cell where
  value : Int
  tag : CellTag
  writer : Writer
  timestamp : Time
  updateCount : BitVec 8
  deriving DecidableEq, Repr

/-- A write that waits for its observers, with the record it left (R83). -/
structure Write where
  cell : CellId
  left : Cell
  deriving DecidableEq, Repr

/-- The flag record of a port (R88): bit 0 RANGE, 1 STALE, 2 PROTOCOL, 3 MODE_FAIL, 4 MOTOR_FAULT; a mask bit of 1 is
unmasked (R197). -/
structure FlagRec where
  flags : BitVec 5
  mask : BitVec 5
  due : BitVec 5
  deriving DecidableEq, Repr

/-! ## Motors -/

/-- An entry of the motor class table (R93). -/
structure ClassEntry where
  countsPerRev : Nat
  ratedMax : Nat
  kp : Nat
  ki : Nat
  kf : Nat
  deriving DecidableEq, Repr

/-- The motor class table (R93). -/
structure PerClass where
  s : ClassEntry
  m : ClassEntry
  l : ClassEntry
  deriving DecidableEq, Repr

/-- Link-loss actions (R94). -/
inductive LossAction where
  | noAction | coast | brake
  deriving DecidableEq, Repr

/-- Which link a motor watches (R94). -/
inductive WatchedLink where
  | radio | controller | either
  deriving DecidableEq, Repr

/-- A motor settings record (R94). -/
structure MotorSettings where
  kp : Nat
  ki : Nat
  kf : Nat
  integralLimit : Nat
  dutyMax : Nat
  currentLimit : Nat
  stallDuty : Nat
  stallSpeed : Nat
  stallTime : Nat
  tolerance : Nat
  settleTimeout : Nat
  compensation : Bool
  lossAction : LossAction
  watched : WatchedLink
  lowWater : Nat
  noticeRoute : Option Endpoint
  deriving DecidableEq, Repr

/-- Segment kinds (R96). -/
inductive SegmentKind where
  | runSpeed | runTo | runBy | runDuty
  deriving DecidableEq, Repr

/-- End actions (R96, R107). -/
inductive EndAction where
  | coast | brake | hold
  deriving DecidableEq, Repr

/-- A segment record as the queue holds it, checked and clamped (R96). -/
structure Segment where
  kind : SegmentKind
  endAction : EndAction
  speed : Int
  position : Int
  duty : Int
  accel : Nat
  duration : Nat
  route : Option Endpoint
  tag : Byte
  deriving DecidableEq, Repr

/-- The states of an attached motor (R95). The state DETACHED is the absence of the motor. -/
inductive MotionState where
  | idle | running | settling | holding | stalled | locked
  deriving DecidableEq, Repr

/-- Motor outputs (R95). -/
inductive MotorOutput where
  | coast | brake | driven
  deriving DecidableEq, Repr

/-- An attached motor: its motion record (R95), its settings (R94) with a loaded record that its next control period
brings into force, and its loop record (R114) with the bridge it drives (R124) and the hub time at which its next control
period falls (R114). -/
structure Motor where
  cls : MotorClass
  state : MotionState
  output : MotorOutput
  queue : List Segment
  v : Int
  acc : Nat
  p : Int
  target : Option Int
  periodsRun : Nat
  settlePeriods : Nat
  holdAccel : Nat
  offset : Int
  settings : MotorSettings
  loaded : Option MotorSettings
  encoder : Int
  x : Int
  ring : List Int
  speed : Int
  integral : Int
  foldback : Nat
  stallTimer : Nat
  duty : Int
  discardNoted : Bool
  limitSet : Bool
  bridge : MotorOutput
  nextPeriod : Time
  deriving DecidableEq, Repr

/-! ## Supply -/

/-- Supply states (R128). -/
inductive SupplyState where
  | normal | low | critical
  deriving DecidableEq, Repr

/-- The supply settings record (R130). -/
structure SupplySettings where
  low : Nat
  critical : Nat
  hysteresis : Nat
  nominal : Nat
  deriving DecidableEq, Repr

/-- The supply record (R128). The ring is empty until the first measurement after a reset. -/
structure Supply where
  ring : List Nat
  state : SupplyState
  fallTimer : Option Time
  criticalTimer : Option Time
  riseTimer : Option Time
  nextMeasurement : Time
  settings : SupplySettings
  eventRoute : Option Endpoint
  deriving DecidableEq, Repr

/-! ## Sound -/

/-- An envelope record (R137). -/
structure Envelope where
  attack : Nat
  decay : Nat
  sustain : Nat
  release : Nat
  deriving DecidableEq, Repr

/-- The sound settings record (R138). -/
structure SoundSettings where
  masterGain : Nat
  idleOff : Nat
  deriving DecidableEq, Repr

/-- Note kinds (R139). -/
inductive NoteKind where
  | tone | stream | rest
  deriving DecidableEq, Repr

/-- A note record as the queue holds it, checked and clamped (R139). -/
structure Note where
  kind : NoteKind
  wavetable : Fin 4
  envelope : Fin 8
  frequency : Nat
  gain : Nat
  duration : Nat
  route : Option Endpoint
  tag : Byte
  deriving DecidableEq, Repr

/-- Voice states (R140). -/
inductive VoiceState where
  | idle | waitingAmp | playing | releasing | starved
  deriving DecidableEq, Repr

/-- Envelope phases (R140). -/
inductive EnvPhase where
  | attack | decay | sustain | release
  deriving DecidableEq, Repr

/-- A voice record (R140), with the hub time of its next envelope step (R152). The play position is a sample index and
whether its first use is past. -/
structure Voice where
  state : VoiceState
  notes : List Note
  stream : List Frame
  loopOn : Bool
  stopMarker : Bool
  elapsed : Nat
  nextStep : Time
  envPhase : EnvPhase
  level : Nat
  phase : BitVec 32
  increment : BitVec 32
  playIndex : Nat
  secondUse : Bool
  starvedSince : Time
  overflows : Nat
  underruns : Nat
  formatErrors : Nat
  deriving DecidableEq, Repr

/-- Amplifier states (R159), WARMING with the start of its warm-up timer. -/
inductive Amp where
  | off
  | warming (start : Time)
  | on
  deriving DecidableEq, Repr

/-! ## Reflexes -/

/-- Reflex conditions (R164). -/
inductive Condition where
  | above | below | riseThrough | fallThrough | inside | outside | notValid
  deriving DecidableEq, Repr

/-- Reflex modes (R164). -/
inductive ReflexMode where
  | once | rearm
  deriving DecidableEq, Repr

/-- Reflex actions with their parameters (R164). -/
inductive ReflexAction where
  | motorReplace (p : Port) (seg : RawSegment)
  | motorStop (p : Port) (endAction : EndAction) (lock : Bool)
  | voicePlay (v : VoiceId) (note : RawNote)
  | voiceStop (v : VoiceId) (cut : Bool)
  | sendEvent (target : Endpoint)
  deriving DecidableEq, Repr

/-- Reflex states (R164). -/
inductive ReflexState where
  | disabled | armed | fired
  deriving DecidableEq, Repr

/-- Statuses of replies and codes of refusals (R187, R197). -/
inductive Status where
  | ok | badFormat | badTable | badIndex | badValue | inUse | noDevice | wrongState | locked | full
  deriving DecidableEq, Repr

/-- Last outcomes of a reflex (R164). -/
inductive ReflexOutcome where
  | nothing | done | noTarget
  | refused (code : Status)
  deriving DecidableEq, Repr

/-- A reflex record (R164). -/
structure Reflex where
  cell : CellId
  condition : Condition
  t : Int
  t2 : Int
  hysteresis : Nat
  mode : ReflexMode
  action : ReflexAction
  eventOnFire : Option Endpoint
  state : ReflexState
  lastValue : Int
  lastTag : CellTag
  fireCount : Nat
  lastOutcome : ReflexOutcome
  deriving DecidableEq, Repr

/-! ## Subscriptions -/

/-- Subscription modes (R177). -/
inductive SubMode where
  | periodic | change | both
  deriving DecidableEq, Repr

/-- A subscription record (R177). `attemptDue` holds that an attempt is due at the interval end (R181). -/
structure Subscription where
  cell : CellId
  target : Endpoint
  mode : SubMode
  period : Nat
  deadband : Nat
  minInterval : Nat
  active : Bool
  lastValue : Int
  lastTag : CellTag
  lastReport : Option Time
  nextExpiry : Option Time
  pending : Bool
  skipped : Nat
  attemptDue : Bool
  deriving DecidableEq, Repr

/-! ## Management and attention -/

/-- A request in the management queue, with the link it arrived on (R29, R186). -/
structure MgmtEntry where
  link : Link
  frame : Frame
  deriving DecidableEq, Repr

/-- The management unit: its queue, whether the queue's head was considered and waits for a release of pages before it is
considered again, the link of the request in progress while that request is carried out (R186), and a HUB_RESET that was
taken and whose re-initialisation is still to come (R192). -/
structure Mgmt where
  queue : List MgmtEntry
  headWaits : Bool
  inProgress : Option Link
  resetTaken : Option Origin
  deriving DecidableEq, Repr

/-- Line modes of ATTN_N (R193). -/
inductive LineMode where
  | level | pulse
  deriving DecidableEq, Repr

/-- Where the pulse generator stands: no pulse, a 100 µs pulse in progress, or the 100 µs high gap after one (R195). -/
inductive PulsePhase where
  | quiet | low | gap
  deriving DecidableEq, Repr

/-- The attention latches: bits 0 to 5 PORT_CHANGE A to F, 6 PORT_FLAG, 7 SUPPLY_CHANGE, 8 LINK_CHANGE, 9 LINK_ERROR,
10 POOL_LOW, 11 REFLEX_FIRED; a mask bit of 1 is unmasked (R193, R197). -/
structure Attention where
  latches : BitVec 12
  mask : BitVec 12
  mode : LineMode
  pulse : PulsePhase
  owed : Nat
  deriving DecidableEq, Repr

/-! ## The hub -/

/-- The state of the hub. -/
structure State where
  /-- RESET_N is asserted. -/
  inReset : Bool
  /-- Hub time. -/
  hubTime : Time
  /-- The pool's free count (R3). -/
  free : Nat
  /-- The two link units. -/
  links : PerLink LinkUnit
  /-- The route table (02 2.5). -/
  routes : PerLink (Vector Route 16)
  /-- The port records. -/
  ports : PerPort PortRec
  /-- The acquisition records. -/
  acq : PerPort Acquisition
  /-- The calibration tables. -/
  calibration : Vector (List Breakpoint) 6
  /-- The port cells. -/
  cells : PerPort (Quad Cell)
  /-- The system cells S0 to S3. -/
  sys : Quad Cell
  /-- Writes that wait for their observers (R83); empty between commands. -/
  unobserved : List Write
  /-- The port flag records. -/
  flags : PerPort FlagRec
  /-- The motor class table. -/
  classes : PerClass
  /-- The attached motors; none is DETACHED. -/
  motors : PerPort (Option Motor)
  /-- The supply record. -/
  supply : Supply
  /-- The voices. -/
  voices : Quad Voice
  /-- The wavetables. -/
  wavetables : Quad (Vector Int 64)
  /-- The envelopes. -/
  envelopes : Vector Envelope 8
  /-- The sound settings. -/
  sound : SoundSettings
  /-- The amplifier. -/
  amp : Amp
  /-- The idle timer, with its start (R160). -/
  idleTimer : Option Time
  /-- The clip counter (R158). -/
  clips : Nat
  /-- The last output sample handed to the amplifier (R158). -/
  speaker : Int
  /-- The reflex records. -/
  reflexes : Vector Reflex 16
  /-- The subscription records. -/
  subs : Vector Subscription 24
  /-- The management unit. -/
  mgmt : Mgmt
  /-- The attention latches and the ATTN_N line. -/
  attention : Attention
  /-- The commands that wait, first in, first out. -/
  pending : List Instr
  deriving DecidableEq, Repr

/-! ## Reset values -/

/-- All nine counters at 0 (R40). -/
def LinkCounters.zero : LinkCounters :=
  { framesReceived := 0, formatErrors := 0, crcErrors := 0, overruns := 0, badKindDrops := 0, routeDrops := 0
    downLinkDrops := 0, lostNotices := 0, framesTransmitted := 0 }

/-- A link unit as R18 leaves it, DOWN: ceiling 32, everything else 0 or empty. -/
def LinkUnit.reset : LinkUnit :=
  { up := false, receiver := .hunting, hold := [], waiting := none, urgent := [], normal := [], sending := none
    cts := false, ceiling := 32, outstanding := 0, pendingCredit := 0, restart := false
    counters := LinkCounters.zero }

/-- The default routes of one link (R34): channel 0 MANAGEMENT, every other channel PASS to the same channel. -/
def Route.defaults : Vector Route 16 :=
  Vector.ofFn fun c => if c.val = 0 then .management else .pass c

/-- The default port settings (R44). -/
def PortSettings.defaults : PortSettings :=
  { analogInterval := 10, pollInterval := 0, mode := none, calibration := none, rounding := .nearestEven
    policy := .saturate, eventRoute := none }

/-- A port record after a reset at hub time `now` (R43). The port reads its band at the reset (R63), and next 5 ms later
(R42; log entry 20). -/
def PortRec.reset (now : Time) : PortRec :=
  { state := .empty, band := 7, cls := .noClass, description := none, selectedMode := 0, lineRate := .r9600
    queryCount := 0, modeChange := none, faultReason := .noReason, debounce := none, bandWatch := none
    lineBreak := none, identification := none, window := none, recovery := none
    nextReading := now + 5, settings := PortSettings.defaults, lineSent := [] }

/-- An acquisition record after a reset (R64). The spec gives no reset value for the next-due time and the poll
interval: DESIGN CHOICE 0 and 5, log entry 3. -/
def Acquisition.reset : Acquisition :=
  { schedule := .stopped, nextDue := 0, pollInterval := 5, pollWindow := none, missCount := 0, watchdog := none }

/-- A cell after a re-initialisation at hub time `now` (R87). -/
def Cell.reset (now : Time) : Cell :=
  { value := 0, tag := .empty, writer := .nobody, timestamp := now, updateCount := 0 }

/-- A flag record after a reset (R88): flags clear, all masked, nothing due. -/
def FlagRec.reset : FlagRec := { flags := 0, mask := 0, due := 0 }

/-- The default motor class table (R93). -/
def PerClass.defaults : PerClass :=
  { s := { countsPerRev := 180, ratedMax := 1500, kp := 300, ki := 16, kf := 24000 }
    m := { countsPerRev := 360, ratedMax := 1000, kp := 400, ki := 32, kf := 36000 }
    l := { countsPerRev := 360, ratedMax := 900, kp := 500, ki := 40, kf := 41000 } }

/-- The default supply settings (R130). -/
def SupplySettings.defaults : SupplySettings :=
  { low := 6300, critical := 5600, hysteresis := 200, nominal := 7200 }

/-- The supply record after a reset at hub time `now` (R128). -/
def Supply.reset (now : Time) : Supply :=
  { ring := [], state := .normal, fallTimer := none, criticalTimer := none, riseTimer := none
    nextMeasurement := now + 10, settings := SupplySettings.defaults, eventRoute := none }

/-- The default envelope (R137). -/
def Envelope.defaults : Envelope := { attack := 5, decay := 0, sustain := 255, release := 20 }

/-- A voice after a reset (R162). The spec gives no reset value for elapsed, the envelope phase, the increment, the play
position, the time of the next step and starved since: DESIGN CHOICE ATTACK, and 0 for each other one, log entry 3. -/
def Voice.reset : Voice :=
  { state := .idle, notes := [], stream := [], loopOn := false, stopMarker := false, elapsed := 0
    nextStep := 0, envPhase := .attack, level := 0, phase := 0, increment := 0, playIndex := 0, secondUse := false
    starvedSince := 0, overflows := 0, underruns := 0, formatErrors := 0 }

/-- Wavetable 0, the sine (R136): round(32767 × sin(2π i / 64)). -/
def sineTable : Vector Int 64 :=
  #v[0, 3212, 6393, 9512, 12539, 15446, 18204, 20787, 23170, 25329, 27245, 28898, 30273, 31356, 32137, 32609,
     32767, 32609, 32137, 31356, 30273, 28898, 27245, 25329, 23170, 20787, 18204, 15446, 12539, 9512, 6393, 3212,
     0, -3212, -6393, -9512, -12539, -15446, -18204, -20787, -23170, -25329, -27245, -28898, -30273, -31356,
     -32137, -32609, -32767, -32609, -32137, -31356, -30273, -28898, -27245, -25329, -23170, -20787, -18204,
     -15446, -12539, -9512, -6393, -3212]

/-- Wavetable 1, the square (R136). -/
def squareTable : Vector Int 64 := Vector.ofFn fun i => if i.val < 32 then 32767 else -32767

/-- Wavetable 2, the triangle (R136). -/
def triangleTable : Vector Int 64 :=
  Vector.ofFn fun i =>
    if i.val < 16 then 2048 * (i.val : Int)
    else if i.val = 16 then 32767
    else if i.val < 48 then 2048 * (32 - (i.val : Int))
    else 2048 * ((i.val : Int) - 64)

/-- Wavetable 3, the sawtooth (R136). -/
def sawtoothTable : Vector Int 64 := Vector.ofFn fun i => 1024 * (i.val : Int) - 32768

/-- A reflex record after a reset (R165). -/
def Reflex.reset : Reflex :=
  { cell := .port .a 0, condition := .above, t := 0, t2 := 0, hysteresis := 0, mode := .once
    action := .sendEvent { link := .radio, channel := 0 }, eventOnFire := none, state := .disabled
    lastValue := 0, lastTag := .empty, fireCount := 0, lastOutcome := .nothing }

/-- A subscription record after a reset (R177). -/
def Subscription.reset : Subscription :=
  { cell := .port .a 0, target := { link := .radio, channel := 0 }, mode := .change, period := 1000, deadband := 0
    minInterval := 10, active := false, lastValue := 0, lastTag := .empty, lastReport := none, nextExpiry := none
    pending := false, skipped := 0, attemptDue := false }

/-- The attention record after a reset (R193). -/
def Attention.reset : Attention := { latches := 0, mask := 0, mode := .level, pulse := .quiet, owed := 0 }

/-- One value in all six places. -/
def everyPort {α : Type} (x : α) : PerPort α := { a := x, b := x, c := x, d := x, e := x, f := x }

/-- One value in all four places. -/
def everyQuad {α : Type} (x : α) : Quad α := { q0 := x, q1 := x, q2 := x, q3 := x }

/-- One value for both links. -/
def everyLink {α : Type} (x : α) : PerLink α := { radio := x, controller := x }

/-- Every block re-initialised at hub time `now` (R18, R34, R43, R63, R64, R87, R88, R93, R95, R128, R136 to R138, R162,
R165, R177, R193), both links DOWN, before the pool writes S3. -/
def State.blank (now : Time) : State :=
  { inReset := false, hubTime := now, free := 128
    links := everyLink LinkUnit.reset
    routes := everyLink Route.defaults
    ports := everyPort (PortRec.reset now)
    acq := everyPort Acquisition.reset
    calibration := Vector.replicate 6 []
    cells := everyPort (everyQuad (Cell.reset now))
    sys := everyQuad (Cell.reset now)
    unobserved := []
    flags := everyPort FlagRec.reset
    classes := PerClass.defaults
    motors := everyPort none
    supply := Supply.reset now
    voices := everyQuad Voice.reset
    wavetables := { q0 := sineTable, q1 := squareTable, q2 := triangleTable, q3 := sawtoothTable }
    envelopes := Vector.replicate 8 Envelope.defaults
    sound := { masterGain := 256, idleOff := 2000 }
    amp := .off, idleTimer := none, clips := 0, speaker := 0
    reflexes := Vector.replicate 16 Reflex.reset
    subs := Vector.replicate 24 Subscription.reset
    mgmt := { queue := [], headWaits := false, inProgress := none, resetTaken := none }
    attention := Attention.reset
    pending := [] }

/-- S3 as the pool's re-initialisation leaves it: written once with 128 (R4, R18, R87). -/
def resetFreeCell (now : Time) : Cell :=
  { value := 128, tag := .valid, writer := .pool, timestamp := now, updateCount := 1 }

/-- The hub right after power-on with nothing attached: every block at its reset values, hub time 0, S3 written with 128,
both PRDY inputs low, so that both links are DOWN, and every ID pin open. The levels of the pins are a DESIGN CHOICE, log
entry 2; POWER_ON and RESET_N_RELEASE carry other levels. -/
def State.reset : State :=
  { State.blank 0 with sys := { (State.blank 0).sys with q3 := resetFreeCell 0 } }

end Sys2Proof.Machine
end

