-- ==== Sys2Proof/Machine/Access.lean ====
section
/-! DEFINITION. Reading and replacing one link, port, cell, voice, reflex or subscription of the state: the one home of
each access. -/

namespace Sys2Proof

/-- The link other than `l` (R31). -/
def Link.other : Link → Link
  | .radio => .controller
  | .controller => .radio

/-- The wire code of a link (R197). -/
def Link.code : Link → Nat
  | .radio => 0
  | .controller => 1

/-- The link of a wire code (R197). -/
def Link.ofCode : Nat → Option Link
  | 0 => some .radio
  | 1 => some .controller
  | _ => none

/-- The wire code of a port (R197). -/
def Port.code : Port → Nat
  | .a => 0 | .b => 1 | .c => 2 | .d => 3 | .e => 4 | .f => 5

/-- The port of a wire code (R197). -/
def Port.ofCode : Nat → Option Port
  | 0 => some .a | 1 => some .b | 2 => some .c | 3 => some .d | 4 => some .e | 5 => some .f
  | _ => none

/-- The six ports in order. -/
def allPorts : List Port := [.a, .b, .c, .d, .e, .f]

/-- The four voices in order; also the four cells of a port. -/
def allVoices : List VoiceId := [0, 1, 2, 3]

/-- The value of link `l`. -/
def PerLink.get {α : Type} (x : PerLink α) : Link → α
  | .radio => x.radio
  | .controller => x.controller

/-- `x` with the value of link `l` replaced. -/
def PerLink.set {α : Type} (x : PerLink α) (l : Link) (v : α) : PerLink α :=
  match l with
  | .radio => { x with radio := v }
  | .controller => { x with controller := v }

/-- The value of port `p`. -/
def PerPort.get {α : Type} (x : PerPort α) : Port → α
  | .a => x.a
  | .b => x.b
  | .c => x.c
  | .d => x.d
  | .e => x.e
  | .f => x.f

/-- `x` with the value of port `p` replaced. -/
def PerPort.set {α : Type} (x : PerPort α) (p : Port) (v : α) : PerPort α :=
  match p with
  | .a => { x with a := v }
  | .b => { x with b := v }
  | .c => { x with c := v }
  | .d => { x with d := v }
  | .e => { x with e := v }
  | .f => { x with f := v }

/-- The value at place `i`. -/
def Quad.get {α : Type} (x : Quad α) (i : Fin 4) : α :=
  match i with
  | 0 => x.q0
  | 1 => x.q1
  | 2 => x.q2
  | 3 => x.q3

/-- `x` with the value at place `i` replaced. -/
def Quad.set {α : Type} (x : Quad α) (i : Fin 4) (v : α) : Quad α :=
  match i with
  | 0 => { x with q0 := v }
  | 1 => { x with q1 := v }
  | 2 => { x with q2 := v }
  | 3 => { x with q3 := v }

namespace Machine

/-- The link unit of `l`. -/
def State.link (s : State) (l : Link) : LinkUnit := s.links.get l

/-- `s` with the link unit of `l` replaced. -/
def State.setLink (s : State) (l : Link) (u : LinkUnit) : State := { s with links := s.links.set l u }

/-- The record of port `p`. -/
def State.port (s : State) (p : Port) : PortRec := s.ports.get p

/-- `s` with the record of port `p` replaced. -/
def State.setPort (s : State) (p : Port) (r : PortRec) : State := { s with ports := s.ports.set p r }

/-- The acquisition record of port `p`. -/
def State.acquisition (s : State) (p : Port) : Acquisition := s.acq.get p

/-- `s` with the acquisition record of port `p` replaced. -/
def State.setAcq (s : State) (p : Port) (r : Acquisition) : State := { s with acq := s.acq.set p r }

/-- The flag record of port `p`. -/
def State.flag (s : State) (p : Port) : FlagRec := s.flags.get p

/-- `s` with the flag record of port `p` replaced. -/
def State.setFlagRec (s : State) (p : Port) (r : FlagRec) : State := { s with flags := s.flags.set p r }

/-- The motor of port `p`; none is DETACHED. -/
def State.motor (s : State) (p : Port) : Option Motor := s.motors.get p

/-- `s` with the motor of port `p` replaced. -/
def State.setMotor (s : State) (p : Port) (m : Option Motor) : State := { s with motors := s.motors.set p m }

/-- Voice `v`. -/
def State.voice (s : State) (v : VoiceId) : Voice := s.voices.get v

/-- `s` with voice `v` replaced. -/
def State.setVoice (s : State) (v : VoiceId) (r : Voice) : State := { s with voices := s.voices.set v r }

/-- The cell `c`. -/
def State.cell (s : State) : CellId → Cell
  | .port p i => (s.cells.get p).get i
  | .sys i => s.sys.get i

/-- `s` with the record of cell `c` replaced. -/
def State.setCell (s : State) (c : CellId) (r : Cell) : State :=
  match c with
  | .port p i => { s with cells := s.cells.set p ((s.cells.get p).set i r) }
  | .sys i => { s with sys := s.sys.set i r }

/-- Reflex record `i`. -/
def State.reflex (s : State) (i : Fin 16) : Reflex := s.reflexes.get i

/-- `s` with reflex record `i` replaced. -/
def State.setReflex (s : State) (i : Fin 16) (r : Reflex) : State := { s with reflexes := s.reflexes.set i.val r i.isLt }

/-- Subscription record `i`. -/
def State.sub (s : State) (i : Fin 24) : Subscription := s.subs.get i

/-- `s` with subscription record `i` replaced. -/
def State.setSub (s : State) (i : Fin 24) (r : Subscription) : State := { s with subs := s.subs.set i.val r i.isLt }

/-- The route entry of link `l` and channel `c`. -/
def State.route (s : State) (l : Link) (c : Channel) : Route := (s.routes.get l).get c

/-- `s` with the route entry of link `l` and channel `c` replaced. -/
def State.setRoute (s : State) (l : Link) (c : Channel) (r : Route) : State :=
  { s with routes := s.routes.set l ((s.routes.get l).set c.val r c.isLt) }

/-- The entry of motor class `c` (R93). -/
def PerClass.get (x : PerClass) : MotorClass → ClassEntry
  | .s => x.s
  | .m => x.m
  | .l => x.l

/-- `x` with the entry of motor class `c` replaced. -/
def PerClass.set (x : PerClass) (c : MotorClass) (e : ClassEntry) : PerClass :=
  match c with
  | .s => { x with s := e }
  | .m => { x with m := e }
  | .l => { x with l := e }

/-- The milliseconds of hub time that have run since `start`, across the wrap (R181). -/
def elapsedSince (now start : Time) : Nat := (now - start).toNat

/-- Hub time `due` has been reached: `now` is `due` or lies less than half a wrap after it. -/
def reached (now due : Time) : Bool := (now - due).toNat < 2147483648

/-- The timer started at `t` runs and has run for at least `ms`. -/
def timerReached (now : Time) (t : Option Time) (ms : Nat) : Bool :=
  match t with
  | some start => ms ≤ elapsedSince now start
  | none => false

/-- `x` replaced by the nearer bound of `lo` to `hi` when it lies outside (00_scope 4.3). -/
def clampInt (lo hi x : Int) : Int := max lo (min hi x)

/-- `x` replaced by the nearer bound of `lo` to `hi` when it lies outside (00_scope 4.3). -/
def clampNat (lo hi x : Nat) : Nat := max lo (min hi x)

end Machine

end Sys2Proof
end

