-- ==== Sys2Proof/Machine/Bytes.lean ====
section
/-! DEFINITION. Bytes on the wire: little-endian fields (R197), the pages of a chain (R1), the link CRC (R21), the link
frame (R196), the check bytes of a port-line message (R51) and the codes of R197. -/

namespace Sys2Proof.Machine

/-- One byte that holds `n` modulo 256. -/
def u8 (n : Nat) : Byte := BitVec.ofNat 8 n

/-- Two bytes of `n`, low byte first (R197). -/
def le16 (n : Nat) : List Byte := [u8 n, u8 (n / 256)]

/-- Four bytes of a 32-bit word, low byte first (R197). -/
def le32 (w : BitVec 32) : List Byte :=
  [u8 w.toNat, u8 (w.toNat / 256), u8 (w.toNat / 65536), u8 (w.toNat / 16777216)]

/-- Four bytes of a signed number in two's complement (R197). -/
def leInt (n : Int) : List Byte := le32 (BitVec.ofInt 32 n)

/-- The byte at offset `i`, 0 beyond the end. -/
def byteAt (bs : List Byte) (i : Nat) : Byte := bs.getD i 0

/-- The number at offset `i`, one byte. -/
def num8 (bs : List Byte) (i : Nat) : Nat := (byteAt bs i).toNat

/-- The 16-bit word at offset `i`, low byte first. -/
def word16 (bs : List Byte) (i : Nat) : BitVec 16 := BitVec.ofNat 16 (num8 bs i + 256 * num8 bs (i + 1))

/-- The number at offset `i`, two bytes, low byte first. -/
def num16 (bs : List Byte) (i : Nat) : Nat := (word16 bs i).toNat

/-- The 32-bit word at offset `i`, low byte first. -/
def word32 (bs : List Byte) (i : Nat) : BitVec 32 :=
  BitVec.ofNat 32 (num8 bs i + 256 * num8 bs (i + 1) + 65536 * num8 bs (i + 2) + 16777216 * num8 bs (i + 3))

/-- The signed number at offset `i`, four bytes in two's complement. -/
def int32 (bs : List Byte) (i : Nat) : Int := (word32 bs i).toInt

/-- The pages of a chain that holds a frame with `len` payload bytes: ceil((4 + len) / 32) (R1). -/
def pagesOf (len : Nat) : Nat := (4 + len + 31) / 32

/-- The pages of a stored frame (R1). -/
def Frame.pages (f : Frame) : Nat := pagesOf f.payload.length

/-- The pages of a list of stored frames. -/
def pagesOfAll (fs : List Frame) : Nat := (fs.map Frame.pages).sum

/-- The code of a frame kind (02 2.3). -/
def FrameKind.code : FrameKind → Nat
  | .data => 0
  | .stream => 1
  | .mgmtRequest => 2
  | .mgmtReply => 3
  | .report => 4
  | .notice => 5
  | .event => 6
  | .credit => 7
  | .unassigned n => 8 + n.val

/-- The frame kind of a 4-bit code (02 2.3). -/
def FrameKind.ofCode (c : Fin 16) : FrameKind :=
  match c with
  | 0 => .data
  | 1 => .stream
  | 2 => .mgmtRequest
  | 3 => .mgmtReply
  | 4 => .report
  | 5 => .notice
  | 6 => .event
  | 7 => .credit
  | ⟨n + 8, h⟩ => .unassigned ⟨n, by omega⟩

/-- The flag URGENT, bit 0 (R196). -/
def flagUrgent : Byte := 1

/-- The flag END, bit 1 (R196). -/
def flagEnd : Byte := 2

/-- The flag RESTART, bit 2 (R196). -/
def flagRestart : Byte := 4

/-- The frame's URGENT flag (R26). -/
def Frame.isUrgent (f : Frame) : Bool := f.flags.getLsbD 0

/-- The frame's END flag (R26). -/
def Frame.isEnd (f : Frame) : Bool := f.flags.getLsbD 1

/-- The SYNC byte (02 2.1). -/
def syncByte : Byte := 0xC3

/-- The header that four header bytes spell (R196). -/
def headerOf (b1 b2 b3 b4 : Byte) : Header :=
  { channel := ⟨b1.toNat % 16, by omega⟩
    kind := FrameKind.ofCode ⟨b1.toNat / 16, by have := b1.isLt; omega⟩
    flags := b2
    length := b3.toNat
    tag := b4 }

/-- The four header bytes of a header (R196). -/
def Header.bytes (h : Header) : List Byte := [u8 (h.channel.val + 16 * h.kind.code), h.flags, u8 h.length, h.tag]

/-- The header of a stored frame. -/
def Frame.header (f : Frame) : Header :=
  { channel := f.channel, kind := f.kind, flags := f.flags, length := f.payload.length, tag := f.tag }

/-- The frame that an accepted header and its payload make. -/
def Header.frame (h : Header) (payload : List Byte) : Frame :=
  { channel := h.channel, kind := h.kind, flags := h.flags, tag := h.tag, payload := payload }

/-- One bit of the CRC register: x^16 + x^12 + x^5 + 1, most significant bit first (R21). -/
def crcShift (r : BitVec 16) : BitVec 16 := if r.msb then (r <<< 1) ^^^ 0x1021 else r <<< 1

/-- The CRC register after one more byte (R21). -/
def crcByte (r : BitVec 16) (b : Byte) : BitVec 16 := Nat.repeat crcShift 8 (r ^^^ (b.zeroExtend 16 <<< 8))

/-- The link CRC of the header and payload bytes, from 0xFFFF, with no final inversion (R21). -/
def linkCrc (bs : List Byte) : BitVec 16 := bs.foldl crcByte 0xFFFF

/-- The bytes the transmitter puts on the line for a frame (R20, R196): SYNC, header, payload, CRC low byte first. -/
def wireBytes (f : Frame) : List Byte :=
  let body := f.header.bytes ++ f.payload
  syncByte :: (body ++ le16 (linkCrc body).toNat)

/-- One byte of the two running sums of a port-line message (R51). -/
def checkStep (sums : Nat × Nat) (b : Byte) : Nat × Nat :=
  let s1 := (sums.1 + b.toNat) % 255
  (s1, (sums.2 + s1) % 255)

/-- The two sums over the length byte, the kind byte and the payload (R51). -/
def lineCheck (kind : Byte) (payload : List Byte) : Nat × Nat :=
  (u8 payload.length :: kind :: payload).foldl checkStep (0, 0)

/-- The bytes of a port-line message that the hub sends (R51, R201). -/
def lineMessage (kind : Byte) (payload : List Byte) : List Byte :=
  u8 payload.length :: kind :: (payload ++ [u8 (lineCheck kind payload).1, u8 (lineCheck kind payload).2])

/-- The check bytes of a message from a device agree with its bytes (R51). -/
def replyGood (kind : Byte) (m : LineReply) : Bool :=
  m.sum1 = u8 (lineCheck kind m.payload).1 && m.sum2 = u8 (lineCheck kind m.payload).2

/-! ## Kind codes of the port line (R201) -/

/-- QUERY. -/
def kindQuery : Byte := 0x01
/-- CONFIGURE. -/
def kindConfigure : Byte := 0x02
/-- POLL. -/
def kindPoll : Byte := 0x03
/-- SELECT. -/
def kindSelect : Byte := 0x04
/-- DESCRIPTION. -/
def kindDescription : Byte := 0x11
/-- ACCEPT. -/
def kindAccept : Byte := 0x12
/-- SAMPLE. -/
def kindSample : Byte := 0x13
/-- HOLD. -/
def kindHold : Byte := 0x14

/-! ## Codes of enumerations (R197): from 0 in the order the owning rule lists the values, or as chapter 13 gives them -/

/-- The code of a port state (R197). -/
def PortState.code : PortState → Nat
  | .empty => 0 | .detecting => 1 | .identifying => 2 | .configuring => 3 | .active => 4 | .suspended => 5 | .fault => 6

/-- The code of a device class: its ID band (R41, R197). -/
def DeviceClass.code : DeviceClass → Nat
  | .short => 0 | .touch => 1 | .light => 2 | .smart => 3
  | .motor .s => 4 | .motor .m => 5 | .motor .l => 6
  | .noClass => 7

/-- The device class of an ID band (R41). -/
def DeviceClass.ofBand (b : Band) : DeviceClass :=
  match b with
  | 0 => .short
  | 1 => .touch
  | 2 => .light
  | 3 => .smart
  | 4 => .motor .s
  | 5 => .motor .m
  | 6 => .motor .l
  | 7 => .noClass

/-- The rate code of a line rate (R51). -/
def LineRate.code : LineRate → Nat
  | .r9600 => 0 | .r57600 => 1 | .r115200 => 2

/-- The line rate of a rate code; codes above 2 stand for 115200, the highest the hub uses (R56). -/
def LineRate.ofCode : Nat → LineRate
  | 0 => .r9600
  | 1 => .r57600
  | _ => .r115200

/-- The code of a fault reason (R43, R197). -/
def FaultReason.code : FaultReason → Nat
  | .noReason => 0 | .short => 1 | .identifyTimeout => 2 | .configureTimeout => 3 | .selectTimeout => 4
  | .sampleTimeout => 5

/-- The code of a raw format (R201). -/
def RawFormat.code : RawFormat → Nat
  | .int8 => 0 | .int16 => 1 | .int32 => 2

/-- The raw format of a code (R201). -/
def RawFormat.ofCode : Nat → Option RawFormat
  | 0 => some .int8 | 1 => some .int16 | 2 => some .int32
  | _ => none

/-- The bytes of one raw value (R201). -/
def RawFormat.size : RawFormat → Nat
  | .int8 => 1 | .int16 => 2 | .int32 => 4

/-- The code of a rounding mode (R44, R197). -/
def Rounding.code : Rounding → Nat
  | .nearestEven => 0 | .towardZero => 1 | .down => 2 | .up => 3

/-- The rounding mode of a code. -/
def Rounding.ofCode : Nat → Option Rounding
  | 0 => some .nearestEven | 1 => some .towardZero | 2 => some .down | 3 => some .up
  | _ => none

/-- The code of a range policy (R44, R197). -/
def RangePolicy.code : RangePolicy → Nat
  | .saturate => 0 | .indefinite => 1

/-- The range policy of a code. -/
def RangePolicy.ofCode : Nat → Option RangePolicy
  | 0 => some .saturate | 1 => some .indefinite
  | _ => none

/-- The code of a cell (R197). -/
def CellId.code : CellId → Nat
  | .port p i => 4 * p.code + i.val
  | .sys i => 24 + i.val

/-- The cell of a code (R197). -/
def CellId.ofCode (n : Nat) : Option CellId :=
  if n < 24 then (Port.ofCode (n / 4)).map fun p => .port p ⟨n % 4, by omega⟩
  else if h : n < 28 then some (.sys ⟨n - 24, by omega⟩)
  else none

/-- The code of a cell tag (R197). -/
def CellTag.code : CellTag → Nat
  | .empty => 0 | .valid => 1 | .stale => 2 | .range => 3

/-- The code of a writer (R81, R197). -/
def Writer.code : Writer → Nat
  | .nobody => 0 | .sensor => 1 | .motor => 2 | .supply => 3 | .pool => 4

/-- The code of a status or refusal (R197). -/
def Status.code : Status → Nat
  | .ok => 0 | .badFormat => 1 | .badTable => 2 | .badIndex => 3 | .badValue => 4 | .inUse => 5 | .noDevice => 6
  | .wrongState => 7 | .locked => 8 | .full => 9

/-- The code of a motion state, cell 3 of a motor port (R95); a DETACHED motor has code 0. -/
def MotionState.code : MotionState → Nat
  | .idle => 1 | .running => 2 | .settling => 3 | .holding => 4 | .stalled => 5 | .locked => 6

/-- The code of a motor output (R95, R197). -/
def MotorOutput.code : MotorOutput → Nat
  | .coast => 0 | .brake => 1 | .driven => 2

/-- The code of an end action (R96, R197). -/
def EndAction.code : EndAction → Nat
  | .coast => 0 | .brake => 1 | .hold => 2

/-- The end action of a code. -/
def EndAction.ofCode : Nat → Option EndAction
  | 0 => some .coast | 1 => some .brake | 2 => some .hold
  | _ => none

/-- The code of a supply state (R86). -/
def SupplyState.code : SupplyState → Nat
  | .normal => 0 | .low => 1 | .critical => 2

/-- The code of a note kind (R139, R197). -/
def NoteKind.code : NoteKind → Nat
  | .tone => 0 | .stream => 1 | .rest => 2

/-- The code of a voice state (R140, R197). -/
def VoiceState.code : VoiceState → Nat
  | .idle => 0 | .waitingAmp => 1 | .playing => 2 | .releasing => 3 | .starved => 4

/-- The code of an amplifier state (R159, R197). -/
def Amp.code : Amp → Nat
  | .off => 0 | .warming _ => 1 | .on => 2

/-- The code of a link-loss action (R94, R197). -/
def LossAction.code : LossAction → Nat
  | .noAction => 0 | .coast => 1 | .brake => 2

/-- The link-loss action of a code. -/
def LossAction.ofCode : Nat → Option LossAction
  | 0 => some .noAction | 1 => some .coast | 2 => some .brake
  | _ => none

/-- The code of a watched link (R94, R197). -/
def WatchedLink.code : WatchedLink → Nat
  | .radio => 0 | .controller => 1 | .either => 2

/-- The watched link of a code. -/
def WatchedLink.ofCode : Nat → Option WatchedLink
  | 0 => some .radio | 1 => some .controller | 2 => some .either
  | _ => none

/-- The code of a reflex condition (R164, R197). -/
def Condition.code : Condition → Nat
  | .above => 0 | .below => 1 | .riseThrough => 2 | .fallThrough => 3 | .inside => 4 | .outside => 5 | .notValid => 6

/-- The reflex condition of a code. -/
def Condition.ofCode : Nat → Option Condition
  | 0 => some .above | 1 => some .below | 2 => some .riseThrough | 3 => some .fallThrough | 4 => some .inside
  | 5 => some .outside | 6 => some .notValid
  | _ => none

/-- The code of a reflex mode (R164, R197). -/
def ReflexMode.code : ReflexMode → Nat
  | .once => 0 | .rearm => 1

/-- The reflex mode of a code. -/
def ReflexMode.ofCode : Nat → Option ReflexMode
  | 0 => some .once | 1 => some .rearm
  | _ => none

/-- The code of a reflex state (R164, R197). -/
def ReflexState.code : ReflexState → Nat
  | .disabled => 0 | .armed => 1 | .fired => 2

/-- The outcome code of a reflex (R199). -/
def ReflexOutcome.code : ReflexOutcome → Nat
  | .nothing => 0 | .done => 1 | .noTarget => 2 | .refused _ => 3

/-- The refusal code of a reflex outcome: 0 unless REFUSED (R199). -/
def ReflexOutcome.refusal : ReflexOutcome → Nat
  | .refused c => c.code
  | _ => 0

/-- The code of a subscription mode (R177, R197). -/
def SubMode.code : SubMode → Nat
  | .periodic => 0 | .change => 1 | .both => 2

/-- The subscription mode of a code. -/
def SubMode.ofCode : Nat → Option SubMode
  | 0 => some .periodic | 1 => some .change | 2 => some .both
  | _ => none

/-- The code of an ATTN_N line mode (R200). -/
def LineMode.code : LineMode → Nat
  | .level => 0 | .pulse => 1

/-- The line mode of a code (R200). -/
def LineMode.ofCode : Nat → Option LineMode
  | 0 => some .level | 1 => some .pulse
  | _ => none

/-- A code for a Bool: 1 when it holds. -/
def boolCode (b : Bool) : Nat := if b then 1 else 0

/-- The two bytes of an optional route: 255 and 0 when absent (R197). -/
def routeBytes : Option Endpoint → List Byte
  | some e => [u8 e.link.code, u8 e.channel.val]
  | none => [255, 0]

/-- The optional route of two bytes: none of the outer option where the link code is not 0, 1 or 255, or where a present
route has a channel above 15 (R197). -/
def routeOf (link channel : Byte) : Option (Option Endpoint) :=
  if link = 255 then some none
  else match Link.ofCode link.toNat with
    | some l => if h : channel.toNat < 16 then some (some { link := l, channel := ⟨channel.toNat, h⟩ }) else none
    | none => none

/-- The byte of an optional one-byte field: 255 when absent (R197). -/
def optByte : Option Nat → Byte
  | some n => u8 n
  | none => 255

/-- The five bytes of a hub time that may be none (R197). -/
def optTime : Option Time → List Byte
  | some t => 1 :: le32 t
  | none => [0, 0, 0, 0, 0]

end Sys2Proof.Machine
end

