-- ==== Sys2Proof/Machine/Ops.lean ====
section
/-! DEFINITION. The shared operations under every block: attention latches and ATTN_N (chapter 12), the write of a cell
before its observers (R82), and the frame pool with its credit manager (chapter 01). -/

namespace Sys2Proof.Machine

/-! ## Attention latches (R193 to R195) -/

/-- The latch PORT_CHANGE of a port. -/
def latchPortChange (p : Port) : Nat := p.code
/-- The latch PORT_FLAG. -/
def latchPortFlag : Nat := 6
/-- The latch SUPPLY_CHANGE. -/
def latchSupplyChange : Nat := 7
/-- The latch LINK_CHANGE. -/
def latchLinkChange : Nat := 8
/-- The latch LINK_ERROR. -/
def latchLinkError : Nat := 9
/-- The latch POOL_LOW. -/
def latchPoolLow : Nat := 10
/-- The latch REFLEX_FIRED. -/
def latchReflexFired : Nat := 11

/-- One pulse is due in PULSE mode: it begins at once, or the owed count rises (R195). -/
def Attention.pulseDue (a : Attention) : Attention :=
  if a.pulse = .quiet && a.owed = 0 then { a with pulse := .low }
  else { a with owed := satAdd 255 a.owed 1 }

/-- Latch `k` is set; a latch already set stays set and does nothing more (R193, R195). -/
def Attention.setLatch (a : Attention) (k : Nat) : Attention :=
  if a.latches.getLsbD k then a
  else
    let a' := { a with latches := a.latches ||| (1#12 <<< k) }
    if a.mode = .pulse && a.mask.getLsbD k then a'.pulseDue else a'

/-- The ATTN_N line is low (R194, R195). -/
def Attention.lineLow (a : Attention) : Bool :=
  match a.mode with
  | .level => (a.latches &&& a.mask) != 0
  | .pulse => a.pulse = .low

/-- Attention latch `k` of the hub is set (R193). -/
def setLatch (k : Nat) (s : State) : State := { s with attention := s.attention.setLatch k }

/-! ## Cells (R81, R82) -/

/-- The number a cell holds after a value write of `v`: `v` itself within the signed 32-bit range, else a free value
(R81; log entry 9). -/
def cellNumber (v : Int) : Int :=
  if -2147483648 ≤ v ∧ v ≤ 2147483647 then v else (Config.cellOverflow v).toInt

/-- The record that a value write leaves (R82). -/
def Cell.valueWrite (c : Cell) (now : Time) (value : Int) (tag : CellTag) (writer : Writer) : Cell :=
  { value := cellNumber value, tag := tag, writer := writer, timestamp := now, updateCount := c.updateCount + 1 }

/-- The record that a re-tag leaves (R82). -/
def Cell.retag (c : Cell) (now : Time) : Cell :=
  { c with tag := .stale, timestamp := now, updateCount := c.updateCount + 1 }

/-- The record that an emptying leaves (R82). -/
def Cell.emptied (c : Cell) (now : Time) : Cell :=
  { value := 0, tag := .empty, writer := .nobody, timestamp := now, updateCount := c.updateCount + 1 }

/-! ## The frame pool (chapter 01) -/

/-- The credit manager writes S3 with free; the write waits for its observers (R4, R83). -/
def writeFree (s : State) : State :=
  let left := (s.cell (.sys 3)).valueWrite s.hubTime s.free .valid .pool
  let s' := s.setCell (.sys 3) left
  { s' with unobserved := s'.unobserved ++ [{ cell := .sys 3, left := left }] }

/-- What a link lacks to its ceiling (R7). -/
def LinkUnit.deficit (u : LinkUnit) : Nat := u.ceiling - u.outstanding

/-- The grant a review makes with `free` pages free: 0 where a condition of R7 fails. -/
def LinkUnit.grant (u : LinkUnit) (free : Nat) : Nat :=
  if u.up && (4 ≤ u.deficit || (u.restart && 1 ≤ u.deficit)) && 9 ≤ free then min u.deficit (free - 8) else 0

/-- A credit review of one link (R7, R10). -/
def review (l : Link) (s : State) : State :=
  let u := s.link l
  let g := u.grant s.free
  { s.setLink l { u with outstanding := u.outstanding + g, pendingCredit := satAdd 255 u.pendingCredit g }
    with free := s.free - g }

/-- The link that is reviewed first: the smaller outstanding credit, RADIO when equal (R9). -/
def firstReviewed (s : State) : Link :=
  if (s.link .radio).outstanding ≤ (s.link .controller).outstanding then .radio else .controller

/-- The reviews of both links in the order of R9. -/
def reviewBoth (s : State) : State := review (firstReviewed s).other (review (firstReviewed s) s)

/-- S3 is written if the operation from `before` to `s` moved a page out of free (R4). -/
def writeFreeIfMoved (before s : State) : State := if s.free = before.free then s else writeFree s

/-- A review of one link as one pool operation (R4, R17). -/
def reviewOperation (l : Link) (s : State) : State := writeFreeIfMoved s (review l s)

/-- The reviews of both links as one pool operation (R4, R18). -/
def reviewBothOperation (s : State) : State := writeFreeIfMoved s (reviewBoth s)

/-- `n` pages go to free, and a head of the management queue that waits is to be considered again (R15, R186). -/
def freePages (n : Nat) (s : State) : State :=
  { s with free := s.free + n, mgmt := { s.mgmt with headWaits := false } }

/-- The release of `n` pages to free with the reviews it starts; the chain has left its place (R15). -/
def release (n : Nat) (s : State) : State :=
  if n = 0 then s else writeFree (reviewBoth (freePages n s))

/-- One link's counters changed. -/
def modCounters (l : Link) (f : LinkCounters → LinkCounters) (s : State) : State :=
  s.setLink l { s.link l with counters := f (s.link l).counters }

/-- A counter of a link raised by one, saturating at 65535 (R40). -/
def bump (n : Nat) : Nat := satAdd 65535 n 1

/-- The urgent queue of a link has room for one more frame, beside the place kept for the reply of a request in progress
(R35; log entry 12). -/
def urgentRoom (l : Link) (s : State) : Bool :=
  (s.link l).urgent.length + (if s.mgmt.inProgress = some l then 1 else 0) < 8

/-- What became of a frame handed to the credit manager (R12). -/
inductive Placement where
  | placed
  | down
  | dropped
  deriving DecidableEq, Repr

/-- A frame joins the tail of a link's urgent queue. -/
def pushUrgent (l : Link) (f : Frame) (s : State) : State :=
  s.setLink l { s.link l with urgent := (s.link l).urgent ++ [f] }

/-- A frame joins the tail of a link's normal queue. -/
def pushNormal (l : Link) (f : Frame) (s : State) : State :=
  s.setLink l { s.link l with normal := (s.link l).normal ++ [f] }

/-- What would become of a notice or event for the link now (R12). -/
def urgentPlacement (l : Link) (s : State) : Placement :=
  if (s.link l).up then
    if 1 ≤ s.free && urgentRoom l s then .placed else .dropped
  else .down

/-- A notice or event is handed to the credit manager for its link (R12). Every notice and event fits one page (R1,
R199). -/
def placeUrgent (l : Link) (f : Frame) (s : State) : State :=
  match urgentPlacement l s with
  | .down => modCounters l (fun c => { c with downLinkDrops := bump c.downLinkDrops }) s
  | .dropped =>
    setLatch latchPoolLow (modCounters l (fun c => { c with lostNotices := bump c.lostNotices }) s)
  | .placed => writeFree (pushUrgent l f { s with free := s.free - 1 })

/-- A frame of kind NOTICE for an endpoint, with a header tag (R26). -/
def noticeFrame (e : Endpoint) (tag : Byte) (payload : List Byte) : Frame :=
  { channel := e.channel, kind := .notice, flags := flagUrgent, tag := tag, payload := payload }

/-- A frame of kind EVENT for an endpoint: tag 0 (R26, R48). -/
def eventFrame (e : Endpoint) (payload : List Byte) : Frame :=
  { channel := e.channel, kind := .event, flags := flagUrgent, tag := 0, payload := payload }

/-- A notice is handed over if its route is present. -/
def sendNotice (route : Option Endpoint) (tag : Byte) (payload : List Byte) (s : State) : State :=
  match route with
  | some e => placeUrgent e.link (noticeFrame e tag payload) s
  | none => s

/-- An event is handed over if its route is present. -/
def sendEvent (route : Option Endpoint) (payload : List Byte) (s : State) : State :=
  match route with
  | some e => placeUrgent e.link (eventFrame e payload) s
  | none => s

/-- A report can be built for the link now (R13). -/
def reportRoom (l : Link) (s : State) : Bool := (s.link l).up && 1 ≤ s.free && (s.link l).normal.length < 24

/-- A report is built in one page and joins the normal queue (R13). -/
def placeReport (l : Link) (f : Frame) (s : State) : State := writeFree (pushNormal l f { s with free := s.free - 1 })

/-- The pages that a receive assembly holds (R24). -/
def Receiver.pages : Receiver → Nat
  | .payload h => pagesOf h.length
  | _ => 0

/-- The pages of the frames a link unit holds: its assembly, its hold list and its queues (R2). -/
def LinkUnit.storedPages (u : LinkUnit) : Nat :=
  u.receiver.pages + pagesOfAll u.hold + pagesOfAll u.urgent + pagesOfAll u.normal

/-- The pages of all stored frames (R2, R3). -/
def State.storedPages (s : State) : Nat :=
  (s.link .radio).storedPages + (s.link .controller).storedPages
    + pagesOfAll (s.mgmt.queue.map MgmtEntry.frame)
    + (pagesOfAll (s.voice 0).stream + pagesOfAll (s.voice 1).stream + pagesOfAll (s.voice 2).stream
      + pagesOfAll (s.voice 3).stream)

/-- Free, both reservations and the pages of all stored frames (R3). -/
def State.poolTotal (s : State) : Nat :=
  s.free + (s.link .radio).outstanding + (s.link .controller).outstanding + s.storedPages

/-- The payload of a REFUSED notice: its type, target, command code, refusal code and hub time (R97, R141, R199). -/
def refusedPayload (target : Nat) (command : Byte) (code : Status) (now : Time) : List Byte :=
  4 :: u8 target :: command :: u8 code.code :: le32 now

/-- A REFUSED notice for the origin of a command (R97, R141). -/
def sendRefused (o : Origin) (target : Nat) (command : Byte) (code : Status) (s : State) : State :=
  sendNotice (some { link := o.link, channel := o.channel }) o.tag (refusedPayload target command code s.hubTime) s

end Sys2Proof.Machine
end

