-- ==== Sys2Proof/Machine/Flags.lean ====
section
/-! DEFINITION. The sticky port flags: setting, raising, the deferred raise, masks and clearing (chapter 05, R88 to
R92). -/

namespace Sys2Proof.Machine

/-- The flag RANGE, bit 0 (R197). -/
def flagRange : Nat := 0
/-- The flag STALE, bit 1. -/
def flagStale : Nat := 1
/-- The flag PROTOCOL, bit 2. -/
def flagProtocol : Nat := 2
/-- The flag MODE_FAIL, bit 3. -/
def flagModeFail : Nat := 3
/-- The flag MOTOR_FAULT, bit 4. -/
def flagMotorFault : Nat := 4

/-- The set that holds flag `k` alone. -/
def flagBit (k : Nat) : BitVec 5 := 1#5 <<< k

/-- The payload of a PORT_FLAG event (R90, R199). -/
def portFlagPayload (p : Port) (raised : BitVec 5) (r : FlagRec) (now : Time) : List Byte :=
  2 :: u8 p.code :: raised.zeroExtend 8 :: r.flags.zeroExtend 8 :: r.mask.zeroExtend 8 :: le32 now

/-- A raise of the flags `raised` of a port: the PORT_FLAG latch is set, and one event names them all (R89, R90). -/
def raiseFlags (p : Port) (raised : BitVec 5) (s : State) : State :=
  sendEvent (s.port p).settings.eventRoute (portFlagPayload p raised (s.flag p) s.hubTime)
    (setLatch latchPortFlag s)

/-- Flag `k` of a port is set; it raises if it goes from clear to set while unmasked (R88, R89). -/
def setFlag (p : Port) (k : Nat) (s : State) : State :=
  let r := s.flag p
  if r.flags.getLsbD k then s
  else
    let s' := s.setFlagRec p { r with flags := r.flags ||| flagBit k }
    if r.mask.getLsbD k then raiseFlags p (flagBit k) s' else s'

/-- The flags that a write of one of the port's cells raises: those whose raise is due, and RANGE where the write sets
it while it is clear and unmasked (R89, R91). -/
def FlagRec.raisedByWrite (r : FlagRec) (setsRange : Bool) : BitVec 5 :=
  r.due ||| (if setsRange && !r.flags.getLsbD flagRange && r.mask.getLsbD flagRange then flagBit flagRange else 0)

/-- The flag record after a write of one of the port's cells (R91). -/
def FlagRec.afterWrite (r : FlagRec) (setsRange : Bool) : FlagRec :=
  { r with flags := if setsRange then r.flags ||| flagBit flagRange else r.flags, due := 0 }

/-- What a write of one of the port's cells does to its flags: RANGE is set where the write sets it, and the deferred raise
is made together with RANGE's in one event (R89, R91). -/
def writeFlags (p : Port) (setsRange : Bool) (s : State) : State :=
  let r := s.flag p
  let raised := r.raisedByWrite setsRange
  let s' := s.setFlagRec p (r.afterWrite setsRange)
  if raised = 0 then s' else raiseFlags p raised s'

/-- The flags and any raise due are cleared; the mask is kept (R49, R88, R92). -/
def FlagRec.cleared (r : FlagRec) : FlagRec := { r with flags := 0, due := 0 }

/-- A port's flags are cleared (R49 step 3, R92). -/
def clearFlags (p : Port) (s : State) : State := s.setFlagRec p (s.flag p).cleared

/-- The flag record under a new mask: a set flag that goes from masked to unmasked becomes due, a flag masked again is
cancelled (R91). -/
def FlagRec.withMask (r : FlagRec) (mask : BitVec 5) : FlagRec :=
  { r with mask := mask, due := (r.due &&& mask) ||| (r.flags &&& mask &&& ~~~r.mask) }

end Sys2Proof.Machine
end

