-- ==== Sys2Proof/Machine/Operands.lean ====
section
/-! DEFINITION. The operand forms of motor and sound commands: segments and notes, their checks and their clamps (R96,
R139), and the payloads that carry them (R198). -/

namespace Sys2Proof.Machine

/-! ## Segments (R96) -/

/-- The segment kind of a code (R96, R197). -/
def SegmentKind.ofCode : Nat → Option SegmentKind
  | 0 => some .runSpeed | 1 => some .runTo | 2 => some .runBy | 3 => some .runDuty
  | _ => none

/-- The notice route of a segment: none of the outer option where its link is not a listed code (R96). A channel above 15
is a free value (log entry 10). -/
def segmentRoute (link channel : Byte) : Option (Option Endpoint) :=
  if link = 255 then some none
  else (Link.ofCode link.toNat).map fun l =>
    some { link := l
           channel := if h : channel.toNat < 16 then ⟨channel.toNat, h⟩ else Config.segmentChannel channel }

/-- The segment that a record spells, before its clamps; none where it is malformed (R96). -/
def parseSegment (r : RawSegment) : Option Segment :=
  match SegmentKind.ofCode r.kind.toNat, EndAction.ofCode r.endAction.toNat, segmentRoute r.routeLink r.routeChannel with
  | some kind, some endAction, some route =>
    if (kind = .runTo || kind = .runBy) && r.speed = 0 then none
    else some { kind := kind, endAction := endAction, speed := r.speed.toInt, position := r.position.toInt
                duty := r.duty.toInt, accel := r.accel.toNat, duration := r.duration.toNat, route := route
                tag := r.tag }
  | _, _, _ => none

/-- The bound on a target position: ±2,000,000,000 counts (R96). -/
def targetBound : Int := 2000000000

/-- The segment as it is stored, for a motor whose class has the given rated maximum speed (R96). -/
def Segment.clamped (g : Segment) (rated : Nat) : Segment :=
  { g with
    speed := clampInt (-(rated : Int)) rated g.speed
    position := if g.kind = .runTo then clampInt (-targetBound) targetBound g.position else g.position
    duty := clampInt (-10000) 10000 g.duty
    accel := clampNat 100 20000 g.accel }

/-- The segment record at offset `i` of a payload (R198). -/
def rawSegmentAt (bs : List Byte) (i : Nat) : RawSegment :=
  { kind := byteAt bs i, endAction := byteAt bs (i + 1), speed := word32 bs (i + 2), position := word32 bs (i + 6)
    duty := word16 bs (i + 10), accel := word16 bs (i + 12), duration := word16 bs (i + 14)
    routeLink := byteAt bs (i + 16), routeChannel := byteAt bs (i + 17), tag := byteAt bs (i + 18) }

/-- The 19 bytes of a segment record (R198). -/
def segmentBytes (r : RawSegment) : List Byte :=
  [r.kind, r.endAction] ++ le32 r.speed ++ le32 r.position ++ le16 r.duty.toNat ++ le16 r.accel.toNat
    ++ le16 r.duration.toNat ++ [r.routeLink, r.routeChannel, r.tag]

/-! ## Notes (R139) -/

/-- The note kind of a code (R139, R197). -/
def NoteKind.ofCode : Nat → Option NoteKind
  | 0 => some .tone | 1 => some .stream | 2 => some .rest
  | _ => none

/-- The note that a record spells, clamped as it is stored; none where it is malformed (R139). A field that the kind does
not use is ignored: the wavetable and envelope of a note that is no TONE are stored as 0. -/
def parseNote (r : RawNote) : Option Note :=
  match NoteKind.ofCode r.kind.toNat, routeOf r.routeLink r.routeChannel with
  | some kind, some route =>
    let stored (w : Fin 4) (e : Fin 8) : Note :=
      { kind := kind, wavetable := w, envelope := e, frequency := clampNat 20 8000 r.frequency.toNat
        gain := min 256 r.gain.toNat, duration := r.duration.toNat, route := route, tag := r.tag }
    if kind ≠ .stream && r.duration = 0 then none
    else if kind = .tone then
      if h : r.wavetable.toNat < 4 ∧ r.envelope.toNat < 8 then
        some (stored ⟨r.wavetable.toNat, h.1⟩ ⟨r.envelope.toNat, h.2⟩)
      else none
    else some (stored 0 0)
  | _, _ => none

/-- The note record at offset `i` of a payload (R198). -/
def rawNoteAt (bs : List Byte) (i : Nat) : RawNote :=
  { kind := byteAt bs i, wavetable := byteAt bs (i + 1), envelope := byteAt bs (i + 2), frequency := word16 bs (i + 3)
    gain := word16 bs (i + 5), duration := word16 bs (i + 7), routeLink := byteAt bs (i + 9)
    routeChannel := byteAt bs (i + 10), tag := byteAt bs (i + 11) }

/-- The 12 bytes of a note record (R198). -/
def noteBytes (r : RawNote) : List Byte :=
  [r.kind, r.wavetable, r.envelope] ++ le16 r.frequency.toNat ++ le16 r.gain.toNat ++ le16 r.duration.toNat
    ++ [r.routeLink, r.routeChannel, r.tag]

/-! ## Motor commands (R198) -/

/-- The motor commands (chapter 06 6.5). -/
inductive MotorCommand where
  | append (seg : RawSegment)
  | replace (seg : RawSegment)
  | abort (endAction : Byte)
  | zero
  deriving DecidableEq, Repr

/-- The code of a motor command (R198). -/
def MotorCommand.code : MotorCommand → Byte
  | .append _ => 1 | .replace _ => 2 | .abort _ => 3 | .zero => 4

/-- The motor command that a payload carries; none for an unknown code or a wrong length (R96). -/
def motorCommandOf (bs : List Byte) : Option MotorCommand :=
  match num8 bs 0 with
  | 1 => if bs.length = 20 then some (.append (rawSegmentAt bs 1)) else none
  | 2 => if bs.length = 20 then some (.replace (rawSegmentAt bs 1)) else none
  | 3 => if bs.length = 2 then some (.abort (byteAt bs 1)) else none
  | 4 => if bs.length = 1 then some .zero else none
  | _ => none

/-! ## Sound commands (R198) -/

/-- The sound commands (chapter 09 9.3). -/
inductive SoundCommand where
  | queue (note : RawNote)
  | play (note : RawNote)
  | stopRelease
  | stopCut
  | setGain (gain : BitVec 16)
  | setLoop (mode : Byte)
  deriving DecidableEq, Repr

/-- The code of a sound command (R198). -/
def SoundCommand.code : SoundCommand → Byte
  | .queue _ => 1 | .play _ => 2 | .stopRelease => 3 | .stopCut => 4 | .setGain _ => 5 | .setLoop _ => 6

/-- The sound command that a payload carries; none for an unknown code or a wrong length (R139). -/
def soundCommandOf (bs : List Byte) : Option SoundCommand :=
  match num8 bs 0 with
  | 1 => if bs.length = 13 then some (.queue (rawNoteAt bs 1)) else none
  | 2 => if bs.length = 13 then some (.play (rawNoteAt bs 1)) else none
  | 3 => if bs.length = 1 then some .stopRelease else none
  | 4 => if bs.length = 1 then some .stopCut else none
  | 5 => if bs.length = 3 then some (.setGain (word16 bs 1)) else none
  | 6 => if bs.length = 2 then some (.setLoop (byteAt bs 1)) else none
  | _ => none

/-- The command code as received: the payload's first byte, a free value where it has none (R97, R141; log entry 11). -/
def commandCode (bs : List Byte) : Byte :=
  match bs with
  | b :: _ => b
  | [] => Config.absentCommandCode

end Sys2Proof.Machine
end

