-- ==== Sys2Proof/Machine/Motion.lean ====
section
/-! DEFINITION. The motion unit (chapter 06): segments, their starts and ends, the commands of a motor, the notices it
sends, and the events that stop a motor from outside. -/

namespace Sys2Proof.Machine

/-- The outcomes of segments and notes (R108, R149, R197). -/
inductive SegOutcome where
  | completed | superseded | flushed | aborted | stalled | notSettled | detached | locked | linkLost | supply
  | suspended | stopped | cut | starved
  deriving DecidableEq, Repr

/-- The code of an outcome (R197). -/
def SegOutcome.code : SegOutcome → Nat
  | .completed => 0 | .superseded => 1 | .flushed => 2 | .aborted => 3 | .stalled => 4 | .notSettled => 5
  | .detached => 6 | .locked => 7 | .linkLost => 8 | .supply => 9 | .suspended => 10 | .stopped => 11 | .cut => 12
  | .starved => 13

/-! ## The motor alone -/

/-- A motor that is attached at hub time `now` (R94, R95, R114): its settings take the class entry's Kp, Ki and Kf, and its
first control period falls 1 ms later. -/
def Motor.attached (c : MotorClass) (e : ClassEntry) (now : Time) : Motor :=
  { cls := c, state := .idle, output := .coast, queue := [], v := 0, acc := 0, p := 0, target := none, periodsRun := 0
    settlePeriods := 0, holdAccel := 20000, offset := 0
    settings :=
      { kp := e.kp, ki := e.ki, kf := e.kf, integralLimit := 5000000, dutyMax := 10000, currentLimit := 1500
        stallDuty := 6000, stallSpeed := 20, stallTime := 300, tolerance := 2, settleTimeout := 500
        compensation := true, lossAction := .noAction, watched := .radio, lowWater := 0, noticeRoute := none }
    loaded := none, encoder := 0, x := 0, ring := List.replicate 20 0, speed := 0, integral := 0, foldback := 10000
    stallTimer := 0, duty := 0, discardNoted := false, limitSet := false, bridge := .coast, nextPeriod := now + 1 }

/-- The output becomes COAST or BRAKE: the bridge takes it at once and the applied duty is 0 (R124). -/
def Motor.stopAt (m : Motor) (o : MotorOutput) : Motor := { m with output := o, bridge := o, duty := 0 }

/-- The motor executes a segment: RUNNING or SETTLING (R95). -/
def Motor.executing (m : Motor) : Bool := m.state = .running || m.state = .settling

/-- The value of a RUN_TO or RUN_BY target at its start with setpoint `p` (R105): round-half-up(p / 1000) + delta. -/
def Segment.targetFrom (g : Segment) (p : Int) : Option Int :=
  match g.kind with
  | .runTo => some g.position
  | .runBy => some (clampInt (-targetBound) targetBound ((p + 500).fdiv 1000 + g.position))
  | _ => none

/-- The head `g` starts: a continuous start keeps v, acc, p and the integral, a measured start takes them from the motor
(R102). -/
def Motor.start (m : Motor) (rated : Nat) (continuous : Bool) (g : Segment) : Motor :=
  let p := if continuous then m.p else 1000 * m.x
  { m with
    v := clampInt (-(rated : Int)) rated (if continuous then m.v else m.speed)
    acc := if continuous then m.acc else 0
    p := p
    integral := if continuous then m.integral else 0
    periodsRun := 0, settlePeriods := 0, target := g.targetFrom p, state := .running, output := .driven }

/-- An end action with its hold acceleration is applied to a motor whose queue is empty (R107). -/
def Motor.endWith (m : Motor) (a : EndAction) (accel : Nat) : Motor :=
  match a with
  | .coast => { m.stopAt .coast with state := .idle, target := none }
  | .brake => { m.stopAt .brake with state := .idle, target := none }
  | .hold => { m with state := .holding, output := .driven, holdAccel := accel, target := none }

/-- The head ends COMPLETED or NOT_SETTLED: the next segment starts continuously, or the end action is applied (R106,
R107). -/
def Motor.endHead (m : Motor) (rated : Nat) : Motor :=
  match m.queue with
  | _ :: next :: rest => { m with queue := next :: rest }.start rated true next
  | [g] => { m with queue := [] }.endWith g.endAction g.accel
  | [] => m

/-- The accel of the executing head, which its end action takes as the hold acceleration (R100, R107); the hold
acceleration itself where there is no head. -/
def Motor.headAccel (m : Motor) : Nat :=
  match m.queue with
  | g :: _ => g.accel
  | [] => m.holdAccel

/-- The segments that end when the whole queue ends: the head with the outcome, the rest FLUSHED (R108). -/
def endedAll (q : List Segment) (o : SegOutcome) : List (Segment × SegOutcome) :=
  match q with
  | g :: rest => (g, o) :: rest.map fun r => (r, .flushed)
  | [] => []

/-- The motor with its queue emptied and put in a state with COAST or BRAKE (R108, R110 to R112). -/
def Motor.halted (m : Motor) (o : MotorOutput) (st : MotionState) : Motor :=
  { m.stopAt o with queue := [], state := st, target := none }

/-- HOLDING from the measured state (R100). -/
def Motor.holdMeasured (m : Motor) (rated : Nat) : Motor :=
  { m with state := .holding, output := .driven, p := 1000 * m.x, v := clampInt (-(rated : Int)) rated m.speed, acc := 0
           integral := 0, holdAccel := 20000, target := none }

/-- ZERO (R101): the offset rises by x, the speed ring is shifted by −x, x becomes 0, and in HOLDING p falls by 1000 × x.
-/
def Motor.zeroed (m : Motor) : Motor :=
  { m with offset := m.offset + m.x, ring := m.ring.map (· - m.x), x := 0
           p := if m.state = .holding then m.p - 1000 * m.x else m.p }

/-! ## Notices (R108, R109) -/

/-- The payload of a SEGMENT_END notice (R108, R199). -/
def segmentEndPayload (p : Port) (tag : Byte) (o : SegOutcome) (x : Int) (now : Time) : List Byte :=
  [1, u8 p.code, tag, u8 o.code] ++ leInt x ++ le32 now

/-- The payload of a LOW_WATER notice (R109, R199). -/
def lowWaterPayload (p : Port) (occupancy mark : Nat) (now : Time) : List Byte :=
  [2, u8 p.code, u8 occupancy, u8 mark] ++ le32 now

/-- The payload of a MOTOR_STATE notice (R109, R199). -/
def motorStatePayload (p : Port) (new prev : Nat) (m : Motor) (counts : Nat) (now : Time) : List Byte :=
  [3, u8 p.code, u8 new, u8 prev, u8 m.output.code, u8 m.queue.length, u8 (boolCode m.limitSet)] ++ le16 counts
    ++ leInt m.x ++ le32 now

/-- One SEGMENT_END notice for each ended segment that has a route, head first (R108). -/
def reportEnded (p : Port) (x : Int) (ended : List (Segment × SegOutcome)) (s : State) : State :=
  ended.foldl (fun s e => sendNotice e.1.route e.1.tag (segmentEndPayload p e.1.tag e.2 x s.hubTime) s) s

/-- A MOTOR_STATE notice to the motor's notice route (R109). -/
def reportState (p : Port) (new prev : Nat) (m : Motor) (s : State) : State :=
  sendNotice m.settings.noticeRoute 0
    (motorStatePayload p new prev m (s.classes.get m.cls).countsPerRev s.hubTime) s

/-- The LOW_WATER notice of an event that ended a head, where the occupancy fell to the mark (R109). -/
def reportLowWater (p : Port) (before after : Motor) (ended : List (Segment × SegOutcome)) (s : State) : State :=
  match ended with
  | (g, _) :: _ =>
    let mark := after.settings.lowWater
    if after.queue.length < before.queue.length && after.queue.length = mark && mark ≠ 0 then
      sendNotice after.settings.noticeRoute g.tag (lowWaterPayload p after.queue.length mark s.hubTime) s
    else s
  | [] => s

/-- The motor of a port goes from `before` to `after` with the segments `ended`: their notices in queue order, then the
low-water notice, then the state notice (R108, R109). -/
def moveMotor (p : Port) (before after : Motor) (ended : List (Segment × SegOutcome)) (s : State) : State :=
  let s := reportEnded p after.x ended (s.setMotor p (some after))
  let s := reportLowWater p before after ended s
  if before.state = after.state then s else reportState p after.state.code before.state.code after s

/-! ## Commands (R97 to R101) -/

/-- The link-loss condition of a motor (R111). -/
def lossHolds (m : Motor) (s : State) : Bool :=
  m.settings.lossAction ≠ .noAction &&
    match m.settings.watched with
    | .radio => !(s.link .radio).up
    | .controller => !(s.link .controller).up
    | .either => !(s.link .radio).up || !(s.link .controller).up

/-- A motion command that is not malformed; `lock` is the stop with lock of a reflex (R97, R110). -/
inductive MotionRequest where
  | append (g : Segment)
  | replace (g : Segment)
  | abort (a : EndAction)
  | zero
  | lock
  deriving DecidableEq, Repr

/-- The motion request of a motor command; none where it is malformed (R96). -/
def MotorCommand.request : MotorCommand → Option MotionRequest
  | .append r => (parseSegment r).map .append
  | .replace r => (parseSegment r).map .replace
  | .abort a => (EndAction.ofCode a.toNat).map .abort
  | .zero => some .zero

/-- The checks of R97 after BAD_FORMAT, in their order, against an attached motor. -/
def motionRefusal (p : Port) (r : MotionRequest) (m : Motor) (s : State) : Option Status :=
  if m.state = .locked then some .locked
  else if (s.port p).state = .suspended || s.supply.state = .critical || lossHolds m s then some .wrongState
  else match r with
    | .append _ => if 4 ≤ m.queue.length then some .full else none
    | .zero => if m.executing then some .wrongState else none
    | _ => none

/-- A motion request that passed its checks acts on the motor: the motor after it, and the segments it ends (R98 to R101,
R110). -/
def Motor.take (m : Motor) (rated : Nat) (r : MotionRequest) : Motor × List (Segment × SegOutcome) :=
  match r with
  | .append g =>
    let g := g.clamped rated
    if m.executing then ({ m with queue := m.queue ++ [g] }, [])
    else ({ m with queue := [g] }.start rated (m.state = MotionState.holding) g, [])
  | .replace g =>
    let g := g.clamped rated
    let after := { m with queue := [g] }.start rated (m.executing || m.state = MotionState.holding) g
    (after, if m.executing then endedAll m.queue .superseded else [])
  | .abort a =>
    if m.executing then
      ({ m with queue := [] }.endWith a m.headAccel, endedAll m.queue .aborted)
    else match a with
      | .hold => (if m.state = .holding then m else m.holdMeasured rated, [])
      | .coast => (m.halted .coast .idle, [])
      | .brake => (m.halted .brake .idle, [])
  | .zero => (m.zeroed, [])
  | .lock => (m.halted .brake .locked, if m.executing then endedAll m.queue .locked else [])
/-- A motion request acts on the motor of a port (R98 to R101, R110). -/
def takeMotion (p : Port) (r : MotionRequest) (m : Motor) (s : State) : State :=
  let (after, ended) := m.take (s.classes.get m.cls).ratedMax r
  moveMotor p m after ended s

/-- A motor command from a link reaches the motion unit (R97): none is a malformed command. -/
def linkMotorCommand (p : Port) (o : Origin) (code : Byte) (r : Option MotionRequest) (s : State) : State :=
  match r with
  | none => sendRefused o p.code code .badFormat s
  | some r =>
    match s.motor p with
    | none => sendRefused o p.code code .noDevice s
    | some m =>
      match motionRefusal p r m s with
      | some st => sendRefused o p.code code st s
      | none => takeMotion p r m s

/-- A motion action of a reflex reaches the motion unit (R97, R171): the outcome that it hands back. DESIGN CHOICE: where the
port is SUSPENDED and the supply is CRITICAL or the link-loss condition holds as well, it is NO_TARGET (log entry 39). -/
def reflexMotion (p : Port) (r : Option MotionRequest) (s : State) : ReflexOutcome × State :=
  match r with
  | none => (.refused .badFormat, s)
  | some r =>
    match s.motor p with
    | none => (.noTarget, s)
    | some m =>
      match motionRefusal p r m s with
      | some st =>
        (if st = .wrongState && (s.port p).state = .suspended then .noTarget else .refused st, s)
      | none => (.done, takeMotion p r m s)

/-! ## Events from outside the queue (R110 to R112) -/

/-- The motor loop reports a stall (R110, R125): the stall timer goes to 0, MOTOR_FAULT is set, the head ends STALLED, the
rest FLUSHED, and the motor is STALLED with COAST. -/
def reportStall (p : Port) (m : Motor) (s : State) : State :=
  let s := setFlag p flagMotorFault (s.setMotor p (some { m with stallTimer := 0 }))
  moveMotor p m { m.halted .coast .stalled with stallTimer := 0 }
    (if m.executing then endedAll m.queue .stalled else []) s

/-- The output of a link-loss action (R111). -/
def LossAction.output : LossAction → MotorOutput
  | .brake => .brake
  | _ => .coast

/-- The link-loss condition of a port's motor is examined, and acted on where it holds (R111). DESIGN CHOICE: the IDLE motor
of a SUSPENDED port takes the output of its action, BRAKE included (log entry 33). -/
def examineLoss (p : Port) (s : State) : State :=
  match s.motor p with
  | some m =>
    if lossHolds m s && m.state ≠ .locked then
      moveMotor p m (m.halted m.settings.lossAction.output .idle)
        (if m.executing then endedAll m.queue .linkLost else []) s
    else s
  | none => s

/-- The motor watches the link (R111). -/
def Motor.watches (m : Motor) (l : Link) : Bool :=
  match m.settings.watched, l with
  | .either, _ => true
  | .radio, .radio => true
  | .controller, .controller => true
  | _, _ => false

/-- A link has gone DOWN: the condition is examined for each motor that watches it (R111). -/
def examineLossAt (l : Link) (p : Port) (s : State) : State :=
  match s.motor p with
  | some m => if m.watches l then examineLoss p s else s
  | none => s

/-- The supply enters CRITICAL, for the motor of one port (R112, R134). -/
def supplyHalt (p : Port) (s : State) : State :=
  match s.motor p with
  | some m =>
    if m.state = .locked then s
    else
      moveMotor p m (m.halted .coast (if m.state = .stalled then .stalled else .idle))
        (if m.executing then endedAll m.queue .supply else []) s
  | none => s

/-- PORT_CONTROL SUSPEND, for the motor of the port (R60, R112). RESUME makes the same of a motor that it finds in another
state than IDLE with COAST (R61, R112). -/
def suspendMotor (p : Port) (s : State) : State :=
  match s.motor p with
  | some m => moveMotor p m (m.halted .coast .idle) (if m.executing then endedAll m.queue .suspended else []) s
  | none => s

/-- Detachment of the port's motor (R49 step 2, R109, R112): segment ends, the state notice for DETACHED, then the motor
with its settings and its loop record is gone. -/
def detachMotor (p : Port) (s : State) : State :=
  match s.motor p with
  | some m =>
    let after := m.halted .coast .idle
    let s := reportEnded p m.x (if m.executing then endedAll m.queue .detached else []) (s.setMotor p none)
    reportState p 0 m.state.code after s
  | none => s

/-- MOTOR_UNLOCK on a LOCKED motor: IDLE with output BRAKE (R110). -/
def unlockMotor (p : Port) (m : Motor) (s : State) : State := moveMotor p m { m with state := .idle } [] s

/-- A lower duty cap reduces at once each applied duty above it, sign kept (R122). -/
def capDuty (cap : Nat) (p : Port) (s : State) : State :=
  match s.motor p with
  | some m => s.setMotor p (some { m with duty := clampInt (-(cap : Int)) cap m.duty })
  | none => s

end Sys2Proof.Machine
end

