-- ==== Sys2Proof/Machine/Voice.lean ====
section
/-! DEFINITION. The voice unit and the amplifier (chapter 09): notes, their starts and ends, the sound commands, stream
queues, envelopes, and the mixer. -/

namespace Sys2Proof.Machine

/-! ## The amplifier and its idle timer (R159, R160) -/

/-- Every voice is IDLE (R160). -/
def allIdle (s : State) : Bool := allVoices.all fun v => (s.voice v).state = .idle

/-- A starting note asks for a warm-up (R159). -/
def askWarmup (s : State) : State :=
  match s.amp with
  | .off => if s.supply.state = .critical then s else { s with amp := .warming s.hubTime }
  | _ => s

/-- The amplifier enters OFF: its idle timer stops, and it is handed 0 from then on (R158, R159, R160). -/
def ampOff (s : State) : State := { s with amp := .off, idleTimer := none, speaker := 0 }

/-- The moment at which the idle timer would start: the amplifier is ON with all voices IDLE (R160). With an idle-off time
of 0 the amplifier enters OFF instead. -/
def startIdleTimer (s : State) : State :=
  if s.amp = .on && allIdle s then
    if s.sound.idleOff = 0 then ampOff s
    else { s with idleTimer := some s.hubTime }
  else s

/-! ## Notes (R142, R149) -/

/-- The increment of a TONE: round(f × 2^32 / 16000) (R151). -/
def toneIncrement (f : Nat) : BitVec 32 := BitVec.ofNat 32 ((f * 8589934592 + 16000) / 32000)

/-- The envelope level at sustain: 256 × sustain (R152). -/
def Envelope.sustainLevel (e : Envelope) : Nat := 256 * e.sustain

/-- The full envelope level (R152). -/
def fullLevel : Nat := 65280

/-- ceil(n / d) (00_scope 4.3), for d above 0. -/
def ceilDiv (n d : Nat) : Nat := (n + d - 1) / d

/-- DECAY is entered at full level: a decay of 0 puts the level at S at once and the phase is SUSTAIN (R152). -/
def Voice.enterDecay (r : Voice) (e : Envelope) : Voice :=
  if e.decay = 0 then { r with level := e.sustainLevel, envPhase := .sustain }
  else { r with level := fullLevel, envPhase := .decay }

/-- A voice enters PLAYING with its current note at hub time `now` (R142, R152): its first step falls 1 ms later. -/
def Voice.enterPlaying (r : Voice) (envs : Vector Envelope 8) (now : Time) : Voice :=
  let r' := { r with state := .playing, nextStep := now + 1 }
  match r.notes with
  | n :: _ =>
    let e := envs.get n.envelope
    if n.kind = .tone && e.attack = 0 then r'.enterDecay e else r'
  | [] => r'

/-- The record of a voice whose head note starts, before the amplifier is asked (R142). -/
def Voice.startNote (r : Voice) : Voice :=
  let r' := { r with elapsed := 0, stopMarker := false, envPhase := .attack, level := 0 }
  match r.notes with
  | n :: _ =>
    match n.kind with
    | .tone => { r' with phase := 0, increment := toneIncrement n.frequency }
    | .stream => { r' with playIndex := 0, secondUse := false }
    | .rest => r'
  | [] => r'

/-- The head of a voice's note queue starts (R142): PLAYING at once where the amplifier is ON, else WAITING_AMP with a
warm-up asked. The voice is not IDLE, so the idle timer stops (R160). -/
def startNote (v : VoiceId) (s : State) : State :=
  let r := (s.voice v).startNote
  if s.amp = .on then { s.setVoice v (r.enterPlaying s.envelopes s.hubTime) with idleTimer := none }
  else askWarmup { s.setVoice v { r with state := .waitingAmp } with idleTimer := none }

/-- The payload of a NOTE_END notice (R149, R199). -/
def noteEndPayload (v : VoiceId) (tag : Byte) (o : SegOutcome) (now : Time) : List Byte :=
  [5, u8 v.val, tag, u8 o.code] ++ le32 now

/-- One NOTE_END notice for each ended note that has a route, current note first (R149). -/
def reportNotes (v : VoiceId) (ended : List (Note × SegOutcome)) (s : State) : State :=
  ended.foldl (fun s e => sendNotice e.1.route e.1.tag (noteEndPayload v e.1.tag e.2 s.hubTime) s) s

/-- The notes that end when the whole queue ends: the current note with the outcome, the rest FLUSHED (R149). -/
def endedNotes (q : List Note) (o : SegOutcome) : List (Note × SegOutcome) :=
  match q with
  | n :: rest => (n, o) :: rest.map fun r => (r, .flushed)
  | [] => []

/-- A voice's note queue is empty: it is IDLE, and the idle timer starts where it was the last (R149, R160). -/
def becomeIdle (v : VoiceId) (s : State) : State :=
  startIdleTimer (s.setVoice v { s.voice v with state := .idle, notes := [] })

/-- The current note of a voice ends (R148, R149): re-appended where it COMPLETED in loop mode, else reported; the next
note starts, or the voice is IDLE. -/
def endNote (v : VoiceId) (o : SegOutcome) (s : State) : State :=
  let r := s.voice v
  match r.notes with
  | [] => s
  | n :: rest =>
    if o = .completed && r.loopOn then startNote v (s.setVoice v { r with notes := rest ++ [n] })
    else
      let s := reportNotes v [(n, o)] (s.setVoice v { r with notes := rest })
      if rest = [] then becomeIdle v s else startNote v s

/-- Every frame of a voice's stream queue behind the first `k` is freed as one release (R15, R144 to R146). -/
def freeStream (k : Nat) (v : VoiceId) (s : State) : State :=
  let r := s.voice v
  release (pagesOfAll (r.stream.drop k)) (s.setVoice v { r with stream := r.stream.take k })

/-! ## Commands (R141 to R148) -/

/-- A sound command that is not malformed (R139). -/
inductive SoundRequest where
  | queue (n : Note)
  | play (n : Note)
  | stopRelease
  | stopCut
  | setGain (g : Nat)
  | setLoop (on : Bool)
  deriving DecidableEq, Repr

/-- The sound request of a sound command; none where it is malformed (R139, R197). SET_GAIN's gain is clamped (R147). -/
def SoundCommand.request : SoundCommand → Option SoundRequest
  | .queue r => (parseNote r).map .queue
  | .play r => (parseNote r).map .play
  | .stopRelease => some .stopRelease
  | .stopCut => some .stopCut
  | .setGain g => some (.setGain (min 256 g.toNat))
  | .setLoop m => if m = 0 then some (.setLoop false) else if m = 1 then some (.setLoop true) else none

/-- The checks of R141 after BAD_FORMAT, in their order. -/
def soundRefusal (v : VoiceId) (r : SoundRequest) (s : State) : Option Status :=
  match r with
  | .queue _ =>
    if s.supply.state = .critical then some .wrongState
    else if 8 ≤ (s.voice v).notes.length then some .full else none
  | .play _ => if s.supply.state = .critical then some .wrongState else none
  | .setGain _ => if (s.voice v).state = .idle then some .wrongState else none
  | _ => none

/-- QUEUE (R143). -/
def queueNote (v : VoiceId) (n : Note) (s : State) : State :=
  let r := s.voice v
  let s' := s.setVoice v { r with notes := r.notes ++ [n] }
  if r.notes = [] then startNote v s' else s'

/-- PLAY (R144): loop off, the old notes end, the stream queue is freed, the new note starts. -/
def playNote (v : VoiceId) (n : Note) (s : State) : State :=
  let r := s.voice v
  let s := reportNotes v (endedNotes r.notes .superseded) (s.setVoice v { r with loopOn := false, notes := [n] })
  startNote v (freeStream 0 v s)

/-- Every note of a voice ends, the current one with the outcome, its stream queue is freed and it is IDLE (R145, R146,
R161). -/
def silence (v : VoiceId) (o : SegOutcome) (s : State) : State :=
  let r := s.voice v
  let s := reportNotes v (endedNotes r.notes o) (s.setVoice v { r with loopOn := false, notes := [] })
  becomeIdle v (freeStream 0 v s)

/-- The envelope of the voice's current note. -/
def currentEnvelope (v : VoiceId) (s : State) : Envelope :=
  match (s.voice v).notes with
  | n :: _ => s.envelopes.get n.envelope
  | [] => Envelope.defaults

/-- STOP_RELEASE goes on with the current note: the notes behind it end FLUSHED (R145). -/
def flushBehind (v : VoiceId) (s : State) : State :=
  let r := s.voice v
  reportNotes v (r.notes.tail.map fun n => (n, .flushed)) (s.setVoice v { r with notes := r.notes.take 1 })

/-- STOP_RELEASE (R145): in every state loop is off and the stop marker set. -/
def stopReleaseVoice (v : VoiceId) (s : State) : State :=
  let r := { s.voice v with loopOn := false, stopMarker := true }
  let s := s.setVoice v r
  match r.state, r.notes with
  | .idle, _ => freeStream 0 v s
  | .waitingAmp, _ => silence v .stopped s
  | .starved, _ => silence v .stopped s
  | .playing, n :: _ =>
    match n.kind with
    | .rest => silence v .stopped s
    | .tone =>
      if r.level = 0 || (currentEnvelope v s).release = 0 then
        silence v .stopped (s.setVoice v { r with level := 0, envPhase := .release })
      else
        let s := flushBehind v s
        freeStream 0 v (s.setVoice v { s.voice v with state := .releasing, envPhase := .release })
    | .stream =>
      let s := flushBehind v s
      freeStream 1 v (s.setVoice v { s.voice v with state := .releasing })
  | .releasing, n :: _ => freeStream (if n.kind = .stream then 1 else 0) v (flushBehind v s)
  | _, [] => s

/-- STOP_CUT (R146). On an IDLE voice it frees the stream queue and does nothing more (log entry 28). -/
def stopCutVoice (v : VoiceId) (s : State) : State :=
  if (s.voice v).state = .idle then freeStream 0 v s else silence v .cut s

/-- SET_GAIN (R147): the gain of the current note is replaced. -/
def setGainVoice (v : VoiceId) (g : Nat) (s : State) : State :=
  let r := s.voice v
  match r.notes with
  | n :: rest => s.setVoice v { r with notes := { n with gain := g } :: rest }
  | [] => s

/-- A sound request that passed its checks acts on the voice (R143 to R148). -/
def takeSound (v : VoiceId) (r : SoundRequest) (s : State) : State :=
  match r with
  | .queue n => queueNote v n s
  | .play n => playNote v n s
  | .stopRelease => stopReleaseVoice v s
  | .stopCut => stopCutVoice v s
  | .setGain g => setGainVoice v g s
  | .setLoop on => s.setVoice v { s.voice v with loopOn := on }

/-- A sound command from a link reaches the voice unit (R141): none is a malformed command. -/
def linkSoundCommand (v : VoiceId) (o : Origin) (code : Byte) (r : Option SoundRequest) (s : State) : State :=
  match r with
  | none => sendRefused o (16 + v.val) code .badFormat s
  | some r =>
    match soundRefusal v r s with
    | some st => sendRefused o (16 + v.val) code st s
    | none => takeSound v r s

/-- A voice action of a reflex reaches the voice unit (R141, R172). -/
def reflexSound (v : VoiceId) (r : Option SoundRequest) (s : State) : ReflexOutcome × State :=
  match r with
  | none => (.refused .badFormat, s)
  | some r =>
    match soundRefusal v r s with
    | some st => (.refused st, s)
    | none => (.done, takeSound v r s)

/-- The supply enters CRITICAL, for one voice (R161): a voice that is IDLE keeps its stream queue. -/
def supplyCut (v : VoiceId) (s : State) : State :=
  if (s.voice v).state = .idle then s else silence v .supply s

/-- A STREAM frame joins a voice's stream queue; a STARVED voice enters PLAYING (R30, R157). -/
def joinStream (v : VoiceId) (f : Frame) (s : State) : State :=
  let r := s.voice v
  s.setVoice v { r with stream := r.stream ++ [f], state := if r.state = .starved then .playing else r.state }

/-! ## Envelopes (R152, R153) -/

/-- One envelope step before RELEASE is tested for its end (R152, R153). An attack, decay or release of 0 that a LOAD
brings into a phase under way acts as it does at the phase's entry (log entry 13). -/
def Voice.envelopeStep (r : Voice) (e : Envelope) : Voice :=
  match r.envPhase with
  | .attack =>
    if e.attack = 0 || fullLevel ≤ r.level + ceilDiv fullLevel e.attack then r.enterDecay e
    else { r with level := r.level + ceilDiv fullLevel e.attack }
  | .decay =>
    if r.level ≤ e.sustainLevel then { r with envPhase := .sustain }
    else if e.decay = 0 || r.level - ceilDiv (fullLevel - e.sustainLevel) e.decay ≤ e.sustainLevel then
      { r with level := e.sustainLevel, envPhase := .sustain }
    else { r with level := r.level - ceilDiv (fullLevel - e.sustainLevel) e.decay }
  | .sustain => r
  | .release => if e.release = 0 then { r with level := 0 } else { r with level := r.level - ceilDiv fullLevel e.release }

/-- The outcome of a note that its release or its last frame ends: STOPPED where the stop marker is set, else COMPLETED
(R153, R156). -/
def Voice.endOutcome (r : Voice) : SegOutcome := if r.stopMarker then .stopped else .completed

/-- The duration of a voice's current note is reached at the step `k` (R153): a TONE enters RELEASE, and ends at once with a
release of 0 or a level of 0; a REST ends COMPLETED. -/
def reachDuration (v : VoiceId) (k : Nat) (s : State) : State :=
  let r := { s.voice v with elapsed := k }
  match r.notes with
  | n :: _ =>
    match n.kind with
    | .rest => endNote v .completed (s.setVoice v r)
    | .tone =>
      let released := { r with state := .releasing, envPhase := .release }
      if r.level = 0 || (currentEnvelope v s).release = 0 then
        endNote v r.endOutcome (s.setVoice v { released with level := 0 })
      else s.setVoice v released
    | .stream => s
  | [] => s

/-- One envelope step of a voice (R152, R153). -/
def stepEnvelope (v : VoiceId) (s : State) : State :=
  let r := s.voice v
  let k := satAdd 65535 r.elapsed 1
  match r.state, r.notes with
  | .playing, n :: _ =>
    match n.kind with
    | .tone =>
      let s' := s.setVoice v { r.envelopeStep (currentEnvelope v s) with elapsed := k }
      if k = n.duration then reachDuration v k s' else s'
    | .rest => if k = n.duration then reachDuration v k s else s.setVoice v { r with elapsed := k }
    | .stream => s
  | .releasing, n :: _ =>
    if n.kind = .tone then
      let r' := { r.envelopeStep (currentEnvelope v s) with elapsed := k }
      if r'.level = 0 then endNote v r'.endOutcome (s.setVoice v r') else s.setVoice v r'
    else s
  | _, _ => s

/-- The current note of the voice counts its steps: a TONE or a REST that has entered PLAYING (R152, R153). -/
def Voice.counts (r : Voice) : Bool :=
  (r.state = .playing || r.state = .releasing) &&
    match r.notes with
    | n :: _ => n.kind ≠ .stream
    | [] => false

/-- An envelope step of a voice falls, where it is due; the next one falls 1 ms after it (R152). -/
def stepFalls (v : VoiceId) (s : State) : State :=
  let r := s.voice v
  if r.counts && reached s.hubTime r.nextStep then stepEnvelope v (s.setVoice v { r with nextStep := r.nextStep + 1 })
  else s

/-! ## Output samples (R151, R154 to R158) -/

/-- The sample of a tone: the wavetable entry scaled by level and gain (R151). -/
def toneSample (r : Voice) (n : Note) (tables : Quad (Vector Int 64)) : Int :=
  let w := (tables.get n.wavetable).get ⟨r.phase.toNat / 67108864, by have := r.phase.isLt; omega⟩
  ((w * ((r.level / 256 : Nat) : Int)).tdiv 256 * (n.gain : Int)).tdiv 256

/-- A STREAM frame is malformed (R154). -/
def streamMalformed (f : Frame) : Bool :=
  f.payload.length < 2 || 2 < num8 f.payload 0 || 1 < num8 f.payload 1
    || (num8 f.payload 0 = 0 && f.payload.length % 2 = 1)

/-- The number of samples that a well-formed STREAM frame holds (R154). -/
def streamCount (f : Frame) : Nat :=
  if num8 f.payload 0 = 0 then (f.payload.length - 2) / 2 else f.payload.length - 2

/-- Sample `i` of a well-formed STREAM frame (R154). -/
def streamSampleAt (f : Frame) (i : Nat) : Int :=
  match num8 f.payload 0 with
  | 0 => (word16 f.payload (2 + 2 * i)).toInt
  | 1 => ((num8 f.payload (2 + i) : Int) - 128) * 256
  | _ => ((num8 f.payload (2 + i) : Int) - 128) * 256 + num8 f.payload (2 + i)

/-- A voice enters STARVED (R157). -/
def enterStarved (v : VoiceId) (s : State) : State :=
  let r := s.voice v
  s.setVoice v { r with state := .starved, underruns := satAdd 65535 r.underruns 1, starvedSince := s.hubTime }

/-- The current frame of a voice is freed (R155). -/
def freeCurrentFrame (v : VoiceId) (s : State) : State :=
  let r := s.voice v
  match r.stream with
  | f :: rest => release f.pages (s.setVoice v { r with stream := rest, playIndex := 0, secondUse := false })
  | [] => s

/-- The note ends with the frame that is freed: END, or play-out after STOP_RELEASE (R156). -/
def Voice.endsWith (r : Voice) (f : Frame) : Bool := f.isEnd || r.state = .releasing

/-- What follows the freeing of the current frame `f` (R156): the note ends, or the voice is STARVED with its queue empty.
-/
def afterFrame (v : VoiceId) (f : Frame) (s : State) : State :=
  let r := s.voice v
  if r.endsWith f then endNote v (if r.state = .releasing then .stopped else r.endOutcome) s
  else if r.stream = [] then enterStarved v s else s

/-- The sample of a STREAM note (R155): malformed and spent frames are freed one after another, then one use of one sample
is made. A RELEASING voice that holds no frame has played out (log entry 14). -/
def streamSample : Nat → VoiceId → Note → State → Int × State
  | 0, _, _, s => (0, s)
  | fuel + 1, v, n, s =>
    let r := s.voice v
    match r.stream with
    | [] => (0, if r.state = .releasing then endNote v .stopped s else enterStarved v s)
    | f :: rest =>
      if streamMalformed f || streamCount f ≤ r.playIndex then
        let counted := if streamMalformed f then { r with formatErrors := satAdd 65535 r.formatErrors 1 } else r
        let s' := afterFrame v f (freeCurrentFrame v (s.setVoice v counted))
        if r.endsWith f || rest = [] then (0, s') else streamSample fuel v n s'
      else
        let out := (streamSampleAt f r.playIndex * (n.gain : Int)).tdiv 256
        if num8 f.payload 1 = 1 && !r.secondUse then (out, s.setVoice v { r with secondUse := true })
        else if r.playIndex + 1 < streamCount f then
          (out, s.setVoice v { r with playIndex := r.playIndex + 1, secondUse := false })
        else (out, afterFrame v f (freeCurrentFrame v s))

/-- The sample of one voice at an output sample (R140, R151, R155). -/
def voiceSample (v : VoiceId) (s : State) : Int × State :=
  let r := s.voice v
  match r.notes with
  | n :: _ =>
    if r.state = .playing || r.state = .releasing then
      match n.kind with
      | .tone => (toneSample r n s.wavetables, s.setVoice v { r with phase := r.phase + r.increment })
      | .stream => streamSample (r.stream.length + 1) v n s
      | .rest => (0, s)
    else (0, s)
  | [] => (0, s)

/-- The gain cap of a supply state (R133). -/
def SupplyState.gainCap : SupplyState → Nat
  | .normal => 256 | .low => 128 | .critical => 0

/-- The effective gain (R133, R158). -/
def effectiveGain (s : State) : Nat := min s.sound.masterGain s.supply.state.gainCap

/-- The mixer's result before saturation: the sum scaled by the effective gain, truncated (R158). -/
def mixScaled (sum : Int) (gain : Nat) : Int := (sum * (gain : Int)).tdiv 256

/-- The mixer takes the sum of the voice samples (R158). -/
def mix (sum : Int) (s : State) : State :=
  let scaled := mixScaled sum (effectiveGain s)
  let out := clampInt (-32768) 32767 scaled
  { s with clips := if out = scaled then s.clips else satAdd 65535 s.clips 1
           speaker := if s.amp = .on then out else 0 }

/-- One output sample (R158): the voices, then the mixer. DESIGN CHOICE: the voices act in the order 0 to 3, with all that the
sample of one makes, its frame's release, its notices and the start of its next note, before the sample of the next (log
entry 41). -/
def outputSampleAll (s : State) : State :=
  let (a, s) := voiceSample 0 s
  let (b, s) := voiceSample 1 s
  let (c, s) := voiceSample 2 s
  let (d, s) := voiceSample 3 s
  mix (a + b + c + d) s

end Sys2Proof.Machine
end

