-- ==== Sys2Proof/Machine/Reflexes.lean ====
section
/-! DEFINITION. The reflex unit (chapter 10): conditions, firing, re-arming and actions. -/

namespace Sys2Proof.Machine

/-- The condition is a crossing (R167). -/
def Condition.isCrossing : Condition → Bool
  | .riseThrough | .fallThrough => true
  | _ => false

/-- A reflex's condition on a write (R166, R167). Comparisons are exact. -/
def Reflex.holds (r : Reflex) (c : Cell) : Bool :=
  let v := c.value
  match r.condition with
  | .above => c.tag = .valid && r.t < v
  | .below => c.tag = .valid && v < r.t
  | .inside => c.tag = .valid && r.t ≤ v && v ≤ r.t2
  | .outside => c.tag = .valid && (v < r.t || r.t2 < v)
  | .notValid => c.tag ≠ .valid
  | .riseThrough => c.tag = .valid && r.lastTag = .valid && r.lastValue < r.t && r.t ≤ v
  | .fallThrough => c.tag = .valid && r.lastTag = .valid && r.t < r.lastValue && v ≤ r.t

/-- The re-arm test of a FIRED reflex in REARM mode on a write (R170). -/
def Reflex.rearmTest (r : Reflex) (c : Cell) : Bool :=
  let v := c.value
  let h : Int := r.hysteresis
  c.tag = .valid &&
    match r.condition with
    | .above => v < r.t - h
    | .below => r.t + h < v
    | .inside => v < r.t - h || r.t2 + h < v
    | .outside => r.t + h ≤ v && v ≤ r.t2 - h
    | .notValid => true
    | .riseThrough | .fallThrough => false

/-- The payload of a REFLEX_SIGNAL event (R173, R199). -/
def reflexSignalPayload (i : Fin 16) (w : Write) (now : Time) : List Byte :=
  [5, u8 i.val, u8 w.cell.code, u8 w.left.tag.code] ++ leInt w.left.value ++ le32 now

/-- The payload of a REFLEX_FIRED event (R174, R199): its hub time is that of the write. -/
def reflexFiredPayload (i : Fin 16) (w : Write) (o : ReflexOutcome) (count : Nat) : List Byte :=
  [4, u8 i.val, u8 w.cell.code, u8 w.left.tag.code] ++ leInt w.left.value ++ [u8 o.code, u8 o.refusal, u8 count]
    ++ le32 w.left.timestamp

/-- The last outcome of a SEND_EVENT (R173). -/
def Placement.reflexOutcome : Placement → ReflexOutcome
  | .placed => .done
  | .down => .noTarget
  | .dropped => .refused .full

/-- A firing hands its action to its target (R171 to R173). -/
def reflexAct (i : Fin 16) (a : ReflexAction) (w : Write) (s : State) : ReflexOutcome × State :=
  match a with
  | .motorReplace p seg => reflexMotion p ((parseSegment seg).map .replace) s
  | .motorStop p e lock => reflexMotion p (some (if lock then .lock else .abort e)) s
  | .voicePlay v note => reflexSound v ((parseNote note).map .play) s
  | .voiceStop v cut => reflexSound v (some (if cut then .stopCut else .stopRelease)) s
  | .sendEvent e =>
    ((urgentPlacement e.link s).reflexOutcome, sendEvent (some e) (reflexSignalPayload i w s.hubTime) s)

/-- The record of a reflex after it fired with an outcome (R169): FIRED, or ARMED again for a crossing in REARM mode. -/
def Reflex.fired (r : Reflex) (o : ReflexOutcome) : Reflex :=
  { r with
    lastOutcome := o
    fireCount := satAdd 255 r.fireCount 1
    state := if r.mode = .rearm && r.condition.isCrossing then .armed else .fired }

/-- A reflex fires at a write (R169). -/
def fireReflex (i : Fin 16) (w : Write) (s : State) : State :=
  let r := s.reflex i
  let (o, s) := reflexAct i r.action w s
  let r' := r.fired o
  sendEvent r.eventOnFire (reflexFiredPayload i w o r'.fireCount) (setLatch latchReflexFired (s.setReflex i r'))

/-- The last-seen value and tag take those of the write (R168). -/
def noteSeen (i : Fin 16) (w : Write) (s : State) : State :=
  s.setReflex i { s.reflex i with lastValue := w.left.value, lastTag := w.left.tag }

/-- One reflex on the written cell is evaluated (R168). -/
def evaluateReflex (w : Write) (s : State) (i : Fin 16) : State :=
  let r := s.reflex i
  if r.cell = w.cell then
    noteSeen i w <|
      match r.state with
      | .disabled => s
      | .armed => if r.holds w.left then fireReflex i w s else s
      | .fired =>
        if r.mode = .rearm && r.rearmTest w.left then s.setReflex i { r with state := .armed } else s
  else s

/-- The sixteen reflexes in ascending order (R168). -/
def allReflexes : List (Fin 16) := List.finRange 16

/-- A write is handed to the reflexes on its cell (R83, R168). -/
def observeReflexes (w : Write) (s : State) : State := allReflexes.foldl (evaluateReflex w) s

end Sys2Proof.Machine
end

