-- ==== Sys2Proof/Machine/Subscriptions.lean ====
section
/-! DEFINITION. The subscription unit (chapter 11) and the write event of the value table (R83): every write is handed to
the reflexes and the subscriptions on its cell. -/

namespace Sys2Proof.Machine

/-- A write is a change for a subscription (R179): another tag, or a difference above the deadband, formed exactly. -/
def Subscription.isChange (b : Subscription) (c : Cell) : Bool :=
  c.tag ≠ b.lastTag || b.deadband < (c.value - b.lastValue).natAbs

/-- The minimum interval has passed (R181). -/
def Subscription.intervalPassed (b : Subscription) (now : Time) : Bool :=
  match b.lastReport with
  | none => true
  | some t => b.minInterval ≤ elapsedSince now t

/-- The report frame of a subscription with the cell record it carries (R182, R199). -/
def reportFrame (i : Fin 24) (b : Subscription) (c : Cell) (now : Time) : Frame :=
  { channel := b.target.channel, kind := .report, flags := 0, tag := 0
    payload := [u8 i.val, u8 b.cell.code, u8 c.tag.code] ++ leInt c.value ++ le32 c.timestamp ++ [c.updateCount]
      ++ le16 b.skipped ++ le32 now }

/-- The record of a subscription whose report was built (R182). -/
def Subscription.reported (b : Subscription) (c : Cell) (now : Time) : Subscription :=
  { b with lastValue := c.value, lastTag := c.tag, lastReport := some now, pending := false, attemptDue := false }

/-- The record that a report carries (R182): the value and the tag of `c`, which at a write is the cell as that write left it,
and the timestamp and the update count of the cell `built` at the build. -/
def reportedCell (c built : Cell) : Cell := { built with value := c.value, tag := c.tag }

/-- An attempt asks the credit manager for a report (R182). DESIGN CHOICE: for a report of S3 the build is taken before the write
of S3 that its own page makes (R185; log entry 40). -/
def askReport (i : Fin 24) (c : Cell) (s : State) : State :=
  let b := s.sub i
  if reportRoom b.target.link s then
    (placeReport b.target.link (reportFrame i b (reportedCell c (s.cell b.cell)) s.hubTime) s).setSub i
      (b.reported c s.hubTime)
  else s.setSub i { b with skipped := satAdd 65535 b.skipped 1 }

/-- An emission attempt with the cell record `c` (R181): nothing unless ACTIVE and pending. -/
def emissionAttempt (i : Fin 24) (c : Cell) (s : State) : State :=
  let b := s.sub i
  if b.active && b.pending then
    if b.intervalPassed s.hubTime then askReport i c s else s.setSub i { b with attemptDue := true }
  else s

/-- One subscription observes a write (R179). -/
def observeSub (w : Write) (s : State) (i : Fin 24) : State :=
  let b := s.sub i
  if b.active && b.cell = w.cell then
    emissionAttempt i w.left
      (if b.mode ≠ .periodic && b.isChange w.left then s.setSub i { b with pending := true } else s)
  else s

/-- The twenty-four subscriptions in ascending order. -/
def allSubs : List (Fin 24) := List.finRange 24

/-- A write is handed to the subscriptions on its cell (R83, R179). -/
def observeSubs (w : Write) (s : State) : State := allSubs.foldl (observeSub w) s

/-- A write is handed to both of its observers: the reflexes, then the subscriptions (R83; log entry 6). -/
def observe (w : Write) (s : State) : State := observeSubs w (observeReflexes w s)

/-- The writes that wait are handed over in the order they were made, with those that this causes (R83). -/
def drainFuel : Nat → State → State
  | 0, s => { s with unobserved := [] }
  | fuel + 1, s =>
    match s.unobserved with
    | [] => s
    | w :: rest => drainFuel fuel (observe w { s with unobserved := rest })

/-- Every write that waits is handed to its observers (R83). A write that an observer causes is one of S3, made for a page
it takes or a stream queue it frees, and 72 of those are the most that one command's observers can cause (log entry 6). -/
def drain (s : State) : State := drainFuel (s.unobserved.length + 128) s

/-- A cell other than S3 is written: its observers act at the write, and the writes of S3 that wait are handed over after
them (R82, R83). -/
def commitWrite (c : CellId) (left : Cell) (s : State) : State :=
  drain (observe { cell := c, left := left } (s.setCell c left))

/-- A port cell is written; the write sets RANGE or not, and makes the deferred raise (R82, R83, R91). -/
def commitPortWrite (p : Port) (i : Fin 4) (left : Cell) (setsRange : Bool) (s : State) : State :=
  drain (observe { cell := .port p i, left := left } (writeFlags p setsRange (s.setCell (.port p i) left)))

/-- A value write of a port cell (R82). -/
def writePortCell (p : Port) (i : Fin 4) (value : Int) (tag : CellTag) (writer : Writer) (setsRange : Bool) (s : State) :
    State :=
  commitPortWrite p i ((s.cell (.port p i)).valueWrite s.hubTime value tag writer) setsRange s

/-- A port cell tagged VALID or RANGE is re-tagged STALE; others are skipped (R60, R72, R74, R82). -/
def retagPortCell (p : Port) (s : State) (i : Fin 4) : State :=
  let c := s.cell (.port p i)
  if c.tag = .valid || c.tag = .range then commitPortWrite p i (c.retag s.hubTime) false s else s

/-- A port cell that is not EMPTY is emptied (R49, R56, R74, R82). -/
def emptyPortCell (p : Port) (s : State) (i : Fin 4) : State :=
  let c := s.cell (.port p i)
  if c.tag = .empty then s else commitPortWrite p i (c.emptied s.hubTime) false s

/-- A value write of a system cell by the supply monitor (R86). -/
def writeSupplyCell (i : Fin 4) (value : Int) (s : State) : State :=
  commitWrite (.sys i) ((s.cell (.sys i)).valueWrite s.hubTime value .valid .supply) s

end Sys2Proof.Machine
end

