-- ==== Sys2Proof/Machine/Loop.lean ====
section
/-! DEFINITION. The profile generator and the motor loop (chapter 06 6.6 and chapter 07): the control period of a motor,
its parts in their order, and the events that a period alone can bring. -/

namespace Sys2Proof.Machine

/-- The motor of a port, where it is attached, is acted on. -/
def onMotor (p : Port) (f : Motor → State → State) (s : State) : State :=
  match s.motor p with
  | some m => f m s
  | none => s

/-! ## Step 1: position and speed (R115, R116) -/

/-- The bound on the encoder count and on the position (R114). -/
def positionBound : Int := 2147000000

/-- A quadrature step: counted, or discarded at the bounds (R115). -/
def Motor.encoderStep (m : Motor) (forward : Bool) : Motor :=
  let n := if forward then m.encoder + 1 else m.encoder - 1
  if positionBound < n.natAbs || positionBound < (n - m.offset).natAbs then { m with discardNoted := true }
  else { m with encoder := n }

/-- The limit indication at step 1 of a period at position `x` (R115). -/
def Motor.limitAt (m : Motor) (x : Int) : Bool :=
  if m.discardNoted then true
  else if -positionBound < x && x < positionBound then false
  else m.limitSet

/-- The motor after step 1 of a period (R115, R116). -/
def Motor.measured (m : Motor) : Motor :=
  let x := m.encoder - m.offset
  { m with
    x := x, limitSet := m.limitAt x, discardNoted := false
    speed := (x - m.ring.headD 0) * 50
    ring := m.ring.tail ++ [x] }

/-- A loaded settings record comes into force (R94). -/
def Motor.inForce (m : Motor) : Motor := { m with settings := m.loaded.getD m.settings, loaded := none }

/-- Step 1 for the motor of a port, with the notice of a changed limit indication (R109, R115). -/
def measurePeriod (p : Port) (m : Motor) (s : State) : State :=
  let after := m.measured
  let s := s.setMotor p (some after)
  if after.limitSet = m.limitSet then s else reportState p after.state.code after.state.code after s

/-! ## Step 2: the profile (R103 to R107) -/

/-- One speed step from `v` toward `w` with remainder `acc` and acceleration `a` (R103): the speed and the remainder. -/
def speedStep (v w : Int) (acc a : Nat) : Int × Nat :=
  let step : Int := ((acc + a) / 1000 : Nat)
  let v' := if v < w then min w (v + step) else max w (v - step)
  (v', if v' = w then 0 else (acc + a) % 1000)

/-- The braking distance in milli-counts: floor(500 × v² / A) (R105). -/
def brakingDistance (v : Int) (a : Nat) : Nat := 500 * v.natAbs * v.natAbs / a

/-- The target speed of a RUN_TO or RUN_BY in a period (R105 step 2). -/
def targetSpeed (v r vmax : Int) (a : Nat) : Int :=
  if v ≠ 0 && v.sign ≠ r.sign then 0
  else if r.natAbs ≤ brakingDistance v a + v.natAbs then 0
  else r.sign * vmax

/-- The profile is done with `r` left and the stepped speed `v` (R105 step 4). -/
def profileDone (v r : Int) : Bool := (r = 0 && v = 0) || (v ≠ 0 && v.sign = r.sign && r.natAbs ≤ v.natAbs)

/-- One period of a RUN_TO or RUN_BY head toward `target` (R105), which is one more control period that the head has executed
(R95). DESIGN CHOICE: the period in which the profile is done is the last of them; those of SETTLING are counted by settle periods
alone (log entry 37). -/
def Motor.moveTo (m : Motor) (g : Segment) (target : Int) : Motor :=
  let r := 1000 * target - m.p
  let (v, acc) := speedStep m.v (targetSpeed m.v r g.speed.natAbs g.accel) m.acc g.accel
  let m := { m with periodsRun := satAdd 65535 m.periodsRun 1 }
  if profileDone v r then { m with p := 1000 * target, v := 0, acc := 0, state := .settling }
  else { m with p := m.p + v, v := v, acc := acc }

/-- One period of the profile before the test of SETTLING (R104, R105, R107). -/
def Motor.profile (m : Motor) (rated : Nat) : Motor :=
  match m.state with
  | .running =>
    match m.queue with
    | g :: _ =>
      match g.kind with
      | .runSpeed =>
        let (v, acc) := speedStep m.v g.speed m.acc g.accel
        { m with v := v, acc := acc, p := m.p + v, periodsRun := satAdd 65535 m.periodsRun 1 }
      | .runDuty =>
        { m with p := 1000 * m.x, v := clampInt (-(rated : Int)) rated m.speed
                 periodsRun := satAdd 65535 m.periodsRun 1 }
      | .runTo | .runBy => m.moveTo g (m.target.getD m.x)
    | [] => m
  | .holding =>
    let (v, acc) := speedStep m.v 0 m.acc m.holdAccel
    { m with v := v, acc := acc, p := m.p + v }
  | _ => m

/-- The test of SETTLING in a period (R106): the motor, and the outcome where its head ends. -/
def Motor.settle (m : Motor) : Motor × Option SegOutcome :=
  match m.state with
  | .settling =>
    if (m.x - m.target.getD m.x).natAbs ≤ m.settings.tolerance then (m, some .completed)
    else
      let m' := { m with settlePeriods := m.settlePeriods + 1 }
      (m', if m.settings.settleTimeout ≤ m'.settlePeriods then some .notSettled else none)
  | _ => (m, none)

/-- The head of a motor ends COMPLETED or NOT_SETTLED (R106, R107): its notice, and what follows it. -/
def finishHead (p : Port) (o : SegOutcome) (m : Motor) (s : State) : State :=
  moveMotor p m (m.endHead (s.classes.get m.cls).ratedMax) ((m.queue.take 1).map fun g => (g, o)) s

/-- Step 2 for the motor of a port. DESIGN CHOICE: the segment that follows a head which SETTLING ended stands in the record
after this step, so that steps 3 and 4 of this period take its duty path (R106, R117; log entry 36). -/
def profilePeriod (p : Port) (m : Motor) (s : State) : State :=
  let stepped := m.profile (s.classes.get m.cls).ratedMax
  let s := moveMotor p m stepped [] s
  let (settled, ended) := stepped.settle
  let s := s.setMotor p (some settled)
  match ended with
  | some o => finishHead p o settled s
  | none => s

/-! ## Step 3: the demand (R117 to R120) -/

/-- The duty path of a period (R117). -/
inductive DutyPath where
  | law
  | duty (d : Int)
  | off
  deriving DecidableEq, Repr

/-- The duty path of a motor as its motion record stands (R117). -/
def Motor.path (m : Motor) : DutyPath :=
  match m.state with
  | .running =>
    match m.queue with
    | g :: _ => if g.kind = .runDuty then .duty g.duty else .law
    | [] => .law
  | .settling | .holding => .law
  | _ => .off

/-- The position error (R118). -/
def Motor.error (m : Motor) : Int := clampInt (-1000000) 1000000 (m.p - 1000 * m.x)

/-- The tentative integral (R118). -/
def Motor.tentative (m : Motor) : Int :=
  clampInt (-(m.settings.integralLimit : Int)) m.settings.integralLimit (m.integral + m.error)

/-- The exact sum of the three terms (R119). -/
def Motor.lawSum (m : Motor) : Int :=
  m.settings.kp * m.error + m.settings.ki * m.tentative.tdiv 64 + m.settings.kf * m.v

/-- The raw duty of a sum: floor((sum + 2048) / 4096) (R119). -/
def rawDuty (sum : Int) : Int := (sum + 2048).fdiv 4096

/-- The battery voltage that compensation uses: S0 clamped to 4800 to 9000 mV, the nominal voltage while S0 is EMPTY
(R120). -/
def compensationVoltage (s : State) : Int :=
  if (s.cell (.sys 0)).tag = .empty then s.supply.settings.nominal else clampInt 4800 9000 (s.cell (.sys 0)).value

/-- A demand with supply compensation (R120). -/
def compensated (m : Motor) (d : Int) (s : State) : Int :=
  if m.settings.compensation then (d * (s.supply.settings.nominal : Int)).tdiv (compensationVoltage s) else d

/-- The demanded duty comp of a period (R117 to R120). -/
def demand (m : Motor) (s : State) : Int :=
  match m.path with
  | .law => compensated m (rawDuty m.lawSum) s
  | .duty d => compensated m d s
  | .off => 0

/-! ## Step 4: limits and output (R121 to R124) -/

/-- The foldback limit after a period whose sensed current is `current` (R121). -/
def Motor.foldbackAfter (m : Motor) (current : Int) : Nat :=
  if m.settings.currentLimit < current.natAbs then max (m.foldback - 500) 1000 else min (m.foldback + 100) 10000

/-- The duty cap of a supply state (R133). -/
def SupplyState.dutyCap : SupplyState → Nat
  | .normal => 10000 | .low => 7000 | .critical => 0

/-- The duty limit of a period (R122), with F as the period left it. -/
def Motor.dutyLimit (m : Motor) (cap : Nat) : Nat := min (min m.settings.dutyMax m.foldback) cap

/-- The integral at the end of step 4 (R117, R123). -/
def Motor.integralAfter (m : Motor) (comp duty : Int) : Int :=
  match m.path with
  | .law => if duty ≠ comp && m.error.sign = comp.sign then m.integral else m.tentative
  | .duty _ => 0
  | .off => m.integral

/-- The motor with its limited duty, its bridge and its integral, for the demand comp (R122 to R124). -/
def Motor.applied (m : Motor) (cap : Nat) (comp : Int) : Motor :=
  let limit : Int := m.dutyLimit cap
  let duty := if m.output = .driven then clampInt (-limit) limit comp else 0
  { m with duty := duty, bridge := m.output, integral := m.integralAfter comp duty }

/-- Step 4 for the motor of a port: foldback with its flag, then the limited duty (R121 to R124). -/
def dutyPeriod (p : Port) (current comp : Int) (m : Motor) (s : State) : State :=
  let f := m.foldbackAfter current
  let s := s.setMotor p (some ({ m with foldback := f }.applied s.supply.state.dutyCap comp))
  if 1000 < m.foldback && f = 1000 then setFlag p flagMotorFault s else s

/-! ## Step 5: the stall test (R125) -/

/-- A period meets the stall test (R125). -/
def Motor.stalling (m : Motor) (comp : Int) : Bool :=
  m.output = .driven && m.settings.stallDuty ≤ comp.natAbs && m.speed.natAbs < m.settings.stallSpeed

/-- Step 5 for the motor of a port (R125). DESIGN CHOICE: where a LOAD has put the stall time at or below the timer, which it
keeps (R127), the next period that meets the test reports the stall (log entry 46). -/
def stallPeriod (p : Port) (comp : Int) (m : Motor) (s : State) : State :=
  if m.stalling comp then
    let n := satAdd 65535 m.stallTimer 1
    if m.settings.stallTime ≤ n then reportStall p m s else s.setMotor p (some { m with stallTimer := n })
  else s.setMotor p (some { m with stallTimer := 0 })

/-! ## Step 6: the cells (R126) -/

/-- Step 6 for the motor of a port: the four cells in index order, with the values as they stand after step 5 (R126). -/
def cellsPeriod (p : Port) (m : Motor) (s : State) : State :=
  let s := writePortCell p 0 m.x .valid .motor false s
  let s := writePortCell p 1 m.speed .valid .motor false s
  let s := writePortCell p 2 m.duty .valid .motor false s
  writePortCell p 3 m.state.code .valid .motor false s

/-! ## The period (R114) -/

/-- The head has run for its duration (R104). -/
def Motor.durationReached (m : Motor) (periods : Nat) : Bool :=
  m.state = .running &&
    match m.queue with
    | g :: _ => (g.kind = .runSpeed || g.kind = .runDuty) && g.duration ≠ 0 && g.duration ≤ periods
    | [] => false

/-- The end of a period: a head whose duration is reached ends COMPLETED (R104; log entry 16). -/
def endPeriod (p : Port) (m : Motor) (s : State) : State :=
  if m.durationReached m.periodsRun then finishHead p .completed m s else s

/-- Steps 3 to 5 of a period, with the demand of step 3. -/
def drivePeriod (p : Port) (current : Int) (m : Motor) (s : State) : State :=
  let comp := demand m s
  onMotor p (stallPeriod p comp) (dutyPeriod p current comp m s)

/-- Steps 1 and 2 of a period (R94, R111, R114). DESIGN CHOICE: the first period after a LOAD examines the link-loss
condition after step 1, with the position it measured, and before step 2 (log entry 35). -/
def motionPeriod (p : Port) (m : Motor) (s : State) : State :=
  let s := onMotor p (measurePeriod p) (s.setMotor p (some m.inForce))
  let s := if m.loaded.isSome then examineLoss p s else s
  onMotor p (profilePeriod p) s

/-- One control period of the motor of a port (R114). -/
def controlPeriod (p : Port) (current : Int) (s : State) : State :=
  let s := onMotor p (motionPeriod p) s
  let s := onMotor p (drivePeriod p current) s
  let s := onMotor p (cellsPeriod p) s
  onMotor p (endPeriod p) s

/-- The control period of a motor falls, where it is due; the next one falls 1 ms after it (R114). -/
def periodFalls (p : Port) (current : Int) (m : Motor) (s : State) : State :=
  if reached s.hubTime m.nextPeriod then
    controlPeriod p current (s.setMotor p (some { m with nextPeriod := m.nextPeriod + 1 }))
  else s

/-! ## The events of a period alone (log entry 5): each acts only where a period is due

DESIGN CHOICE: each of them reads the motor settings in force as the command comes. A record that a LOAD has brought comes into
force with the period itself (R94), so a record that still waits for the very period that is due is not read (log entry 44). -/

/-- SETTLE_TIMEOUT: the settle periods reach the settle timeout (R106), by the settings in force (DESIGN CHOICE, log
entry 44). -/
def settleTimedOut (p : Port) (m : Motor) (s : State) : State :=
  match m.settle with
  | (m', some .notSettled) => if reached s.hubTime m.nextPeriod then finishHead p .notSettled m' (s.setMotor p (some m')) else s
  | _ => s

/-- SEGMENT_DURATION_END: the periods run reach the duration (R104). Its notices go by the settings in force (DESIGN CHOICE, log
entry 44). -/
def durationEnded (p : Port) (m : Motor) (s : State) : State :=
  let n := satAdd 65535 m.periodsRun 1
  if reached s.hubTime m.nextPeriod && m.durationReached n then
    finishHead p .completed { m with periodsRun := n } (s.setMotor p (some { m with periodsRun := n }))
  else s

/-- STALL_DETECTED: one more period that meets the test takes the stall timer to the stall time (R125). DESIGN CHOICE: the stall
time and the notice route are those of the settings in force as the command comes, also where a loaded record waits for the
period that is due (log entry 44), and a timer that a LOAD has left above the stall time counts as having reached it (log
entry 46). -/
def stallDetected (p : Port) (m : Motor) (s : State) : State :=
  if reached s.hubTime m.nextPeriod && m.output = .driven && m.settings.stallTime ≤ m.stallTimer + 1 then reportStall p m s
  else s

end Sys2Proof.Machine
end

