-- ==== Sys2Proof/Machine/Acquisition.lean ====
section
/-! DEFINITION. The acquisition unit (chapter 04): rounding, the linear map, calibration tables, range policies, analog
samples, and the answers and misses of POLL exchanges. -/

namespace Sys2Proof.Machine

/-! ## Rounding (R75) -/

/-- The quotient n / d rounded to the nearest integer, a half to the even one (R75), for d above 0. -/
def roundNearestEven (n d : Int) : Int :=
  let q := n.fdiv d
  let twice := 2 * (n - q * d)
  if twice < d then q else if d < twice then q + 1 else if q % 2 = 0 then q else q + 1

/-- The exact quotient n / d rounded to an integer by a rounding mode (R75), for d above 0. -/
def Rounding.quotient (r : Rounding) (n d : Int) : Int :=
  match r with
  | .nearestEven => roundNearestEven n d
  | .towardZero => n.tdiv d
  | .down => n.fdiv d
  | .up => -((-n).fdiv d)

/-! ## Conversions (R67, R68, R76 to R78) -/

/-- What a conversion writes: the value, the tag, and whether the write sets RANGE. -/
structure Converted where
  value : Int
  tag : CellTag
  setsRange : Bool
  deriving DecidableEq, Repr

/-- A result in range: VALID, no flag. -/
def Converted.inRange (v : Int) : Converted := { value := v, tag := .valid, setsRange := false }

/-- A raw value out of range, with the value at the nearer bound (R78). -/
def RangePolicy.outOfRange (policy : RangePolicy) (bound : Int) : Converted :=
  match policy with
  | .saturate => { value := bound, tag := .valid, setsRange := true }
  | .indefinite => { value := -2147483648, tag := .range, setsRange := true }

/-- The exact quotient of a line through (x0, y0) and (x1, y1) at x, rounded (R76, R77). -/
def interpolate (r : Rounding) (x0 x1 y0 y1 x : Int) : Int :=
  r.quotient (y0 * (x1 - x0) + (x - x0) * (y1 - y0)) (x1 - x0)

/-- A raw value of a smart mode converted by its linear map (R76, R78). -/
def Mode.convert (m : Mode) (settings : PortSettings) (raw : Int) : Converted :=
  if raw < m.rawMin then settings.policy.outOfRange m.siMin
  else if m.rawMax < raw then settings.policy.outOfRange m.siMax
  else .inRange (interpolate settings.rounding m.rawMin m.rawMax m.siMin m.siMax raw)

/-- A raw value at or above the first breakpoint's, converted through the first segment that holds it (R77, R78). -/
def convertFrom (settings : PortSettings) (first : Breakpoint) (rest : List Breakpoint) (raw : Nat) : Converted :=
  match rest with
  | [] => if raw = first.raw then .inRange first.val else settings.policy.outOfRange first.val
  | next :: more =>
    if raw ≤ next.raw then .inRange (interpolate settings.rounding first.raw next.raw first.val next.val raw)
    else convertFrom settings next more raw

/-- A raw value converted through a calibration table; an empty table gives the raw value (R68, R77, R78). -/
def convertTable (settings : PortSettings) (table : List Breakpoint) (raw : Nat) : Converted :=
  match table with
  | [] => .inRange raw
  | first :: rest =>
    if raw < first.raw then settings.policy.outOfRange first.val else convertFrom settings first rest raw

/-- A raw value of a passive port converted by its class (R67, R68). -/
def convertAnalog (p : Port) (raw : RawSample) (s : State) : Converted :=
  let r := s.port p
  if r.cls = .touch then .inRange (if 2048 < raw.val then 1 else 0)
  else match r.settings.calibration with
    | some i => convertTable r.settings (s.calibration.get i) raw.val
    | none => .inRange raw.val

/-- A converted value is written to a cell with writer SENSOR (R66, R71). -/
def writeConverted (p : Port) (i : Fin 4) (c : Converted) (s : State) : State :=
  writePortCell p i c.value c.tag .sensor c.setsRange s

/-- One analog sample of a passive port (R66): next due is set, and cell 0 is written. -/
def takeAnalog (p : Port) (raw : RawSample) (s : State) : State :=
  let due := s.hubTime + BitVec.ofNat 32 (s.port p).settings.analogInterval
  writeConverted p 0 (convertAnalog p raw s) (s.setAcq p { s.acquisition p with nextDue := due })

/-! ## Smart devices (R69 to R74) -/

/-- The selected mode's entry in the description (R55). -/
def PortRec.currentMode (r : PortRec) : Option Mode :=
  match r.description with
  | some d => d.modes[r.selectedMode]?
  | none => none

/-- The value count of the selected mode; 0 where the port has no description. -/
def PortRec.valueCount (r : PortRec) : Nat :=
  match r.currentMode with
  | some m => m.valueCount
  | none => 0

/-- The larger of the selected mode's minimum interval and the port settings' poll interval (R56, R58, R65, R69). -/
def PortRec.intervalInUse (r : PortRec) : Nat :=
  match r.currentMode with
  | some m => max m.minInterval r.settings.pollInterval
  | none => r.settings.pollInterval

/-- The four cells of a port in index order. -/
def cellIndices : List (Fin 4) := [0, 1, 2, 3]

/-- The acquisition unit stops serving a port (R65). -/
def Acquisition.stop (a : Acquisition) : Acquisition :=
  { a with schedule := .stopped, missCount := 0, watchdog := none, pollWindow := none }

/-- A smart port enters ACTIVE (R64, R65). -/
def startPolling (p : Port) (s : State) : State :=
  let n := (s.port p).intervalInUse
  s.setAcq p
    { schedule := .poll, nextDue := s.hubTime + BitVec.ofNat 32 n, pollInterval := n, pollWindow := none
      missCount := 0, watchdog := some s.hubTime }

/-- A passive port enters ACTIVE: one sample is taken at once (R64, R65). -/
def startAnalog (p : Port) (raw : RawSample) (s : State) : State :=
  takeAnalog p raw (s.setAcq p { (s.acquisition p).stop with schedule := .analog })

/-- The record of a port that sends a message on its line (R51, R201). -/
def sendLine (p : Port) (kind : Byte) (payload : List Byte) (s : State) : State :=
  s.setPort p { s.port p with lineSent := lineMessage kind payload }

/-- POLL is sent (R69). -/
def sendPoll (p : Port) (s : State) : State :=
  let n := (s.port p).intervalInUse
  sendLine p kindPoll []
    (s.setAcq p
      { s.acquisition p with
        pollInterval := n, nextDue := s.hubTime + BitVec.ofNat 32 n
        pollWindow := some { closes := s.hubTime + BitVec.ofNat 32 (min n 100) } })

/-- Cells 0 to n − 1 tagged VALID or RANGE are re-tagged STALE (R60, R72). DESIGN CHOICE: in ascending order (log entry 34).
-/
def staleCells (p : Port) (n : Nat) (s : State) : State :=
  (cellIndices.filter fun i => i.val < n).foldl (retagPortCell p) s

/-- A POLL exchange ends in a miss (R70, R72). -/
def pollMiss (p : Port) (s : State) : State :=
  let a := s.acquisition p
  let s := s.setAcq p { a with pollWindow := none, missCount := min 3 (a.missCount + 1) }
  if a.missCount = 2 then setFlag p flagStale (staleCells p (s.port p).valueCount s) else s

/-- The raw value of a format at offset `i`, widened (R71, R201). -/
def RawFormat.valueAt (f : RawFormat) (bs : List Byte) (i : Nat) : Int :=
  match f with
  | .int8 => (byteAt bs i).toInt
  | .int16 => (word16 bs i).toInt
  | .int32 => (word32 bs i).toInt

/-- The raw values of a SAMPLE payload that matches the selected mode (R70, R201). -/
def sampleValues (r : PortRec) (payload : List Byte) : Option (List Int) :=
  match r.currentMode, payload with
  | some m, b :: _ =>
    if b = u8 r.selectedMode && payload.length = 1 + m.valueCount * m.format.size then
      some ((List.range m.valueCount).map fun i => m.format.valueAt payload (1 + i * m.format.size))
    else none
  | _, _ => none

/-- The converted values are written in index order (R71). -/
def writeSamples (p : Port) (settings : PortSettings) (m : Mode) (raws : List Int) (s : State) : State :=
  (cellIndices.zip raws).foldl (fun s e => writeConverted p e.1 (m.convert settings e.2) s) s

/-- A good SAMPLE (R71). -/
def goodSample (p : Port) (m : Mode) (raws : List Int) (s : State) : State :=
  writeSamples p (s.port p).settings m raws
    (s.setAcq p { s.acquisition p with missCount := 0, watchdog := some s.hubTime, pollWindow := none })

/-- A POLL window of the port is open. -/
def pollOpen (p : Port) (s : State) : Bool := (s.acquisition p).pollWindow.isSome

/-- The open window of a port has had a length byte above 250: its receiver discards every byte until it closes (R52). -/
def lineDeaf (p : Port) (s : State) : Bool :=
  (s.port p).window.any OpenWindow.deaf || (s.acquisition p).pollWindow.any PollWindow.deaf

/-- A length byte above 250 in the open window of a port: the receiver discards it and the bytes that follow until the window
closes (R52). -/
def deafen (p : Port) (s : State) : State :=
  let r := s.port p
  let a := s.acquisition p
  (s.setPort p { r with window := r.window.map fun w => { w with deaf := true } }).setAcq p
    { a with pollWindow := a.pollWindow.map fun w => { w with deaf := true } }

/-- A message with the length byte of `m` begins on the line of a port (R52): one above 250 begins no message, and otherwise
the whole message acts, unless the receiver discards the bytes of this window. -/
def onLine (p : Port) (m : LineReply) (act : State → State) (s : State) : State :=
  if lineDeaf p s then s else if 250 < m.payload.length then deafen p s else act s

/-- A SAMPLE arrives whole on the line of a port (R52, R70). A SAMPLE that does not fit sets PROTOCOL, and then ends the
exchange in a miss. -/
def sampleArrives (p : Port) (m : LineReply) (s : State) : State :=
  if pollOpen p s then
    if replyGood kindSample m then
      match (s.port p).currentMode, sampleValues (s.port p) m.payload with
      | some mode, some raws => goodSample p mode raws s
      | _, _ => pollMiss p (setFlag p flagProtocol s)
    else setFlag p flagProtocol s
  else s

/-- A HOLD arrives whole on the line of a port (R52, R70). DESIGN CHOICE: a HOLD whose check is good is a HOLD whatever bytes it
carries, though the spec gives it no payload (R201; log entry 42). -/
def holdArrives (p : Port) (m : LineReply) (s : State) : State :=
  if pollOpen p s then if replyGood kindHold m then pollMiss p s else setFlag p flagProtocol s else s

/-- A message that the open window of a port does not take arrives whole (R52, R70): it sets PROTOCOL in a POLL window, and
is discarded in every other case. -/
def strayArrives (p : Port) (kind : Byte) (m : LineReply) (s : State) : State :=
  if pollOpen p s && !(replyGood kind m && (kind = kindSample || kind = kindHold)) then setFlag p flagProtocol s else s

/-- The cells are rewritten for a mode with `n` values (R74): cells below n are re-tagged STALE, the others emptied. DESIGN
CHOICE: in ascending order (log entry 34). -/
def rewriteCells (p : Port) (n : Nat) (s : State) : State :=
  cellIndices.foldl (fun s i => if i.val < n then retagPortCell p s i else emptyPortCell p s i) s

/-- The four cells of a port are emptied (R49, R56). DESIGN CHOICE: in ascending order (log entry 34). -/
def emptyCells (p : Port) (s : State) : State := cellIndices.foldl (emptyPortCell p) s

end Sys2Proof.Machine
end

