-- ==== Sys2Proof/Machine/Ports.lean ====
section
/-! DEFINITION. The port manager (chapter 03): band readings, the port states and their entries, detach, FAULT,
identification, configuration, mode changes, suspension, resumption and the port reset. -/

namespace Sys2Proof.Machine

/-! ## Records -/

/-- The payload of a PORT_STATE event for a port as it stands (R48, R199). -/
def portStatePayload (p : Port) (r : PortRec) (now : Time) : List Byte :=
  let active := r.state = .active
  let smart := active && r.cls = .smart
  let typeCode := match r.description with
    | some d => if smart then d.typeCode else 0
    | none => 0
  [1, u8 p.code, u8 r.state.code, u8 r.cls.code] ++ le16 typeCode
    ++ [u8 (if smart then r.selectedMode else 0), u8 (if active then r.lineRate else .r9600).code
       , u8 (if r.state = .fault then r.faultReason else .noReason).code]
    ++ le32 now

/-- An entry to ACTIVE, EMPTY or FAULT is reported: the latch, then the event (R48). -/
def reportEntry (p : Port) (s : State) : State :=
  sendEvent (s.port p).settings.eventRoute (portStatePayload p (s.port p) s.hubTime) (setLatch (latchPortChange p) s)

/-- The port is IDENTIFYING, CONFIGURING, ACTIVE or SUSPENDED (03 3.3). -/
def PortState.attached : PortState → Bool
  | .identifying | .configuring | .active | .suspended => true
  | _ => false

/-- The port line's exchange ends (R49 step 1, R60). -/
def PortRec.lineIdle (r : PortRec) : PortRec := { r with window := none, identification := none, lineBreak := none }

/-- The device's description and choices are dropped (R49 step 5). -/
def PortRec.dropped (r : PortRec) : PortRec :=
  { r with description := none, selectedMode := 0, lineRate := .r9600, modeChange := none, queryCount := 0 }

/-- A port is detached (R49), in the order of its steps. -/
def detach (p : Port) (s : State) : State :=
  let s := s.setPort p (s.port p).lineIdle
  let s := s.setAcq p (s.acquisition p).stop
  let s := emptyCells p (clearFlags p (detachMotor p s))
  s.setPort p (s.port p).dropped

/-! ## Entries to states -/

/-- The record of a port in EMPTY (R42, R49). -/
def PortRec.empty (r : PortRec) : PortRec :=
  { r with state := .empty, cls := .noClass, band := 7, debounce := none, bandWatch := none, recovery := none }

/-- Entry to EMPTY: the port is detached and the entry reported (R48, R49; log entry 17). -/
def enterEmpty (p : Port) (s : State) : State :=
  let s := detach p s
  reportEntry p (s.setPort p (s.port p).empty)

/-- Entry to DETECTING with a candidate band (R42, R45). -/
def enterDetecting (p : Port) (band : Band) (s : State) : State :=
  s.setPort p
    { s.port p with
      state := .detecting, debounce := some { band := band, start := s.hubTime }, bandWatch := none, recovery := none }

/-- A band that starts detection, or entry to EMPTY for band 7 (R45, R50, R62). -/
def detectFrom (p : Port) (band : Band) (s : State) : State :=
  if band = 7 then enterEmpty p s else enterDetecting p band s

/-- The reason is one of those that set MODE_FAIL (R50). -/
def FaultReason.modeFails : FaultReason → Bool
  | .configureTimeout | .selectTimeout => true
  | _ => false

/-- Entry to FAULT (R50): the reason, the detach, the recovery timer, the report, and then MODE_FAIL. -/
def enterFault (p : Port) (reason : FaultReason) (s : State) : State :=
  let s := detach p (s.setPort p { s.port p with faultReason := reason })
  let s := s.setPort p { s.port p with state := .fault, debounce := none, recovery := some s.hubTime }
  let s := reportEntry p s
  if reason.modeFails then setFlag p flagModeFail s else s

/-- Entry to ACTIVE, reported (R48). -/
def enterActive (p : Port) (s : State) : State :=
  reportEntry p (s.setPort p { s.port p with state := .active, window := none })

/-- CONFIGURE is sent with a rate, the selected mode and the poll interval, and its window opens (R56, R61, R201). -/
def sendConfigure (p : Port) (rate : LineRate) (s : State) : State :=
  let r := s.port p
  let s := sendLine p kindConfigure ([u8 rate.code, u8 r.selectedMode] ++ le16 r.intervalInUse) s
  s.setPort p { s.port p with window := some { kind := .configure rate, start := s.hubTime } }

/-- Entry to CONFIGURING with a rate and a mode (R56, R61). -/
def enterConfiguring (p : Port) (rate : LineRate) (mode : Nat) (s : State) : State :=
  let s := s.setPort p
    { s.port p with state := .configuring, selectedMode := mode, window := none, identification := none }
  sendConfigure p rate (emptyCells p s)

/-- QUERY is sent and its window opens (R52, R54). -/
def sendQuery (p : Port) (count : Nat) (s : State) : State :=
  let s := sendLine p kindQuery [] s
  s.setPort p { s.port p with queryCount := count, window := some { kind := .query, start := s.hubTime } }

/-- SELECT is sent for a mode (R58, R74): the selected mode, the window, the poll interval and the cells. -/
def sendSelect (p : Port) (mode : Nat) (s : State) : State :=
  let s := sendLine p kindSelect [u8 mode] s
  let s := s.setPort p
    { s.port p with selectedMode := mode, window := some { kind := .select, start := s.hubTime } }
  let s := s.setAcq p { s.acquisition p with pollInterval := (s.port p).intervalInUse }
  rewriteCells p (s.port p).valueCount s

/-! ## Bands (R42, R45 to R47) -/

/-- The band watch after a reading (R42). -/
def bandWatchAfter (r : PortRec) (band : Band) (now : Time) : Option Candidate :=
  if band = r.band then none
  else match r.bandWatch with
    | some c => if c.band = band then some c else some { band := band, start := now }
    | none => some { band := band, start := now }

/-- One reading of a port's ID band (R42, R45). -/
def readBand (p : Port) (band : Band) (s : State) : State :=
  let r := s.port p
  match r.state with
  | .empty => if band = 7 then s else enterDetecting p band s
  | .detecting =>
    if band = 7 then enterEmpty p s
    else match r.debounce with
      | some c => if c.band = band then s else enterDetecting p band s
      | none => enterDetecting p band s
  | _ => s.setPort p { r with bandWatch := bandWatchAfter r band s.hubTime }

/-- A reading of a port's ID band falls, where it is due; the next one falls 5 ms after it (R42). -/
def readingFalls (p : Port) (band : Band) (s : State) : State :=
  let r := s.port p
  if reached s.hubTime r.nextReading then readBand p band (s.setPort p { r with nextReading := r.nextReading + 5 }) else s

/-- A motor is attached (R46, R94, R95, R114). -/
def attachMotor (p : Port) (c : MotorClass) (s : State) : State :=
  s.setMotor p (some (.attached c (s.classes.get c) s.hubTime))

/-- The debounce of a band ends: the port acts on its class (R45, R46). A passive port is reported and then takes its
first sample (log entry 21). -/
def attach (p : Port) (band : Band) (raw : RawSample) (s : State) : State :=
  let cls := DeviceClass.ofBand band
  let s := s.setPort p { s.port p with band := band, cls := cls, debounce := none }
  match cls with
  | .touch | .light => startAnalog p raw (enterActive p s)
  | .motor c => enterActive p (attachMotor p c s)
  | .smart =>
    s.setPort p { s.port p with state := .identifying, lineRate := .r9600, lineBreak := some s.hubTime }
  | .short => enterFault p .short s
  | .noClass => enterEmpty p s

/-- DEBOUNCE_EXPIRY (R45). -/
def debounceExpires (p : Port) (raw : RawSample) (s : State) : State :=
  let r := s.port p
  match r.debounce with
  | some c => if r.state = .detecting && 50 ≤ elapsedSince s.hubTime c.start then attach p c.band raw s else s
  | none => s

/-- The band watch of a port expires on a candidate (R47). -/
def bandWatchExpires (p : Port) (band : Band) (s : State) : State :=
  if (s.port p).state = .fault then
    if band = 7 then enterEmpty p s else s.setPort p { s.port p with bandWatch := none }
  else if band = 7 then enterEmpty p s
  else enterDetecting p band (enterEmpty p s)

/-- BAND_WATCH_EXPIRY (R42, R47). -/
def bandWatchDue (p : Port) (s : State) : State :=
  let r := s.port p
  match r.bandWatch with
  | some c =>
    if (r.state.attached || r.state = .fault) && 50 ≤ elapsedSince s.hubTime c.start then bandWatchExpires p c.band s
    else s
  | none => s

/-- FAULT_RECOVERY_EXPIRY (R50). -/
def recoveryDue (p : Port) (band : Band) (s : State) : State :=
  let r := s.port p
  if r.state = .fault && timerReached s.hubTime r.recovery 500 then detectFrom p band s else s

/-! ## Identification (R53 to R55) -/

/-- LINE_BREAK_END: the first QUERY is sent and the identification timer starts (R53, R54). -/
def lineBreakEnds (p : Port) (s : State) : State :=
  let r := s.port p
  if r.state = .identifying && timerReached s.hubTime r.lineBreak 20 then
    sendQuery p 1 (s.setPort p { r with lineBreak := none, identification := some s.hubTime })
  else s

/-- QUERY_RETRY (R54). -/
def queryAgain (p : Port) (s : State) : State :=
  let r := s.port p
  if r.state = .identifying && r.queryCount < 3 && timerReached s.hubTime r.identification (500 * r.queryCount) then
    sendQuery p (r.queryCount + 1) s
  else s

/-- IDENTIFY_TIMEOUT (R54). -/
def identifyExpires (p : Port) (s : State) : State :=
  let r := s.port p
  if r.state = .identifying && timerReached s.hubTime r.identification 1500 then enterFault p .identifyTimeout s else s

/-- One mode entry at offset `i` of a DESCRIPTION payload (R55, R201); none where a field makes the record invalid. The
minimum interval is clamped. -/
def modeAt (bs : List Byte) (i : Nat) : Option Mode :=
  match RawFormat.ofCode (num8 bs (i + 1)) with
  | some f =>
    let m : Mode :=
      { valueCount := num8 bs i, format := f, rawMin := int32 bs (i + 2), rawMax := int32 bs (i + 6)
        siMin := int32 bs (i + 10), siMax := int32 bs (i + 14), minInterval := clampNat 5 1000 (num16 bs (i + 18)) }
    if 1 ≤ m.valueCount && m.valueCount ≤ 4 && m.rawMin < m.rawMax then some m else none
  | none => none

/-- The description that a DESCRIPTION payload carries; none where it is invalid (R55). -/
def descriptionOf (bs : List Byte) : Option Description :=
  let n := num8 bs 4
  if 1 ≤ n && n ≤ 8 && bs.length = 5 + 20 * n && num8 bs 3 < n then
    ((List.range n).mapM fun k => modeAt bs (5 + 20 * k)).map fun modes =>
      { typeCode := num16 bs 0, highestRate := num8 bs 2, defaultMode := num8 bs 3, modes := modes }
  else none

/-- The mode chosen at configuration (R56). -/
def chosenMode (d : Description) (settings : PortSettings) : Nat :=
  match settings.mode with
  | some m => if m < d.modes.length then m else d.defaultMode
  | none => d.defaultMode

/-- A window of a kind is open on the port. -/
def PortRec.windowIs (r : PortRec) (k : PortWindow → Bool) : Bool :=
  match r.window with
  | some w => k w.kind
  | none => false

/-- The window of QUERY. -/
def PortWindow.isQuery : PortWindow → Bool
  | .query => true
  | _ => false

/-- The window of SELECT. -/
def PortWindow.isSelect : PortWindow → Bool
  | .select => true
  | _ => false

/-- DESCRIPTION_RECEIVED (R54, R55): a valid one in a QUERY window is stored and the port enters CONFIGURING. -/
def descriptionArrives (p : Port) (m : LineReply) (s : State) : State :=
  let r := s.port p
  if r.state = .identifying && r.windowIs PortWindow.isQuery && replyGood kindDescription m then
    match descriptionOf m.payload with
    | some d =>
      enterConfiguring p (LineRate.ofCode (min d.highestRate 2)) (chosenMode d r.settings)
        (s.setPort p { r with description := some d })
    | none => s
  else strayArrives p kindDescription m s

/-! ## Configuration and mode changes (R57 to R59) -/

/-- An ACCEPT with good check that names a mode (R57, R59, R201). -/
def acceptsMode (m : LineReply) (mode : Nat) : Bool := replyGood kindAccept m && m.payload = [u8 mode]

/-- CONFIGURE_ACCEPT (R57). -/
def configureAccepted (p : Port) (m : LineReply) (s : State) : State :=
  let r := s.port p
  match r.window with
  | some { kind := .configure rate, .. } =>
    if r.state = .configuring && acceptsMode m r.selectedMode then
      startPolling p (enterActive p (s.setPort p { r with lineRate := rate }))
    else s
  | _ => strayArrives p kindAccept m s

/-- CONFIGURE_TIMEOUT (R57). -/
def configureExpires (p : Port) (s : State) : State :=
  match (s.port p).window with
  | some { kind := .configure _, start, .. } =>
    if 200 ≤ elapsedSince s.hubTime start then enterFault p .configureTimeout s else s
  | _ => s

/-- No exchange is open on the port line (R52). -/
def lineFree (p : Port) (s : State) : Bool := (s.port p).window.isNone && !pollOpen p s

/-- SELECT_DEFERRED_SEND: the SELECT of a recorded mode change is sent once no exchange is open (R58). -/
def deferredSelect (p : Port) (s : State) : State :=
  let r := s.port p
  match r.modeChange with
  | some m => if r.state = .active && lineFree p s then sendSelect p m s else s
  | none => s

/-- SELECT_MODE is taken (R58): the mode change is recorded, and SELECT is sent at once where no exchange is open. -/
def takeSelectMode (p : Port) (mode : Nat) (s : State) : State :=
  deferredSelect p (s.setPort p { s.port p with modeChange := some mode })

/-- SELECT_ACCEPT (R59, R74). -/
def selectAccepted (p : Port) (m : LineReply) (s : State) : State :=
  let r := s.port p
  if r.windowIs PortWindow.isSelect then
    if r.state = .active && acceptsMode m r.selectedMode then
      let a := s.acquisition p
      (s.setPort p { r with window := none, modeChange := none }).setAcq p
        { a with missCount := 0, nextDue := s.hubTime + BitVec.ofNat 32 a.pollInterval }
    else s
  else strayArrives p kindAccept m s

/-- SELECT_TIMEOUT (R59). -/
def selectExpires (p : Port) (s : State) : State :=
  match (s.port p).window with
  | some { kind := .select, start, .. } =>
    if 200 ≤ elapsedSince s.hubTime start then enterFault p .selectTimeout s else s
  | _ => s

/-! ## Polling as the port stands (R66, R69, R70, R73) -/

/-- ANALOG_SAMPLE (R66). -/
def analogDue (p : Port) (raw : RawSample) (s : State) : State :=
  let a := s.acquisition p
  if a.schedule = .analog && reached s.hubTime a.nextDue then takeAnalog p raw s else s

/-- POLL_DUE (R69). -/
def pollDueNow (p : Port) (s : State) : State :=
  let a := s.acquisition p
  if a.schedule = .poll && reached s.hubTime a.nextDue && lineFree p s && (s.port p).modeChange.isNone then sendPoll p s
  else s

/-- POLL_WINDOW_CLOSE (R70). -/
def pollWindowCloses (p : Port) (s : State) : State :=
  match (s.acquisition p).pollWindow with
  | some w => if reached s.hubTime w.closes then pollMiss p s else s
  | none => s

/-- SAMPLE_WATCHDOG_EXPIRY (R73). -/
def watchdogExpires (p : Port) (s : State) : State :=
  if (s.port p).state = .active && timerReached s.hubTime (s.acquisition p).watchdog 1000 then
    enterFault p .sampleTimeout s
  else s

/-! ## Suspension, resumption and port reset (R60 to R62) -/

/-- Entry to SUSPENDED (R60): the acquisition unit stops, a mode change is dropped or abandoned, a sensor's cells are
re-tagged STALE, and a motor is flushed. -/
def suspendPort (p : Port) (s : State) : State :=
  let s := s.setAcq p (s.acquisition p).stop
  let s := s.setPort p { s.port p with state := .suspended, window := none, modeChange := none }
  match (s.port p).cls with
  | .motor _ => suspendMotor p s
  | _ => staleCells p 4 s

/-- RESUME of a SUSPENDED port (R61): a motor is IDLE with output COAST (R112). -/
def resumePort (p : Port) (raw : RawSample) (s : State) : State :=
  let r := s.port p
  match r.cls with
  | .touch | .light => startAnalog p raw (enterActive p s)
  | .smart => enterConfiguring p r.lineRate r.selectedMode s
  | _ => enterActive p (suspendMotor p s)

/-- PORT_CONTROL RESET (R62). -/
def resetPort (p : Port) (band : Band) (s : State) : State :=
  let s := detach p s
  detectFrom p band <| s.setPort p
    { s.port p with
      cls := .noClass, band := 7, faultReason := .noReason, debounce := none, bandWatch := none, recovery := none }

end Sys2Proof.Machine
end

