-- ==== Sys2Proof/Machine/SupplyMonitor.lean ====
section
/-! DEFINITION. The supply monitor (chapter 08): the measurement, the dwell timers, and the changes of supply state. -/

namespace Sys2Proof.Machine

/-! ## Dwell timers (R131) -/

/-- The dwell from NORMAL to LOW, in ms (08 8.4). -/
def fallDwell : Nat := 200
/-- The dwell from NORMAL or LOW to CRITICAL, in ms. -/
def criticalDwell : Nat := 50
/-- The dwell out of CRITICAL or LOW toward NORMAL, in ms. -/
def riseDwell : Nat := 1000

/-- A timer after a measurement at which its condition holds or fails (R131). -/
def dwellTimer (holds : Bool) (t : Option Time) (now : Time) : Option Time :=
  if holds then some (t.getD now) else none

/-- A transition is due: its condition holds and its timer ran for the dwell (R131). -/
def dwellMet (holds : Bool) (t : Option Time) (now : Time) (dwell : Nat) : Bool := holds && timerReached now t dwell

/-- The condition of the fall timer (08 8.4). -/
def SupplySettings.fallHolds (g : SupplySettings) (v : Int) : Bool := v < g.low

/-- The condition of the critical timer. -/
def SupplySettings.criticalHolds (g : SupplySettings) (v : Int) : Bool := v < g.critical

/-- The condition of the rise timer in a state. -/
def SupplySettings.riseHolds (g : SupplySettings) (st : SupplyState) (v : Int) : Bool :=
  match st with
  | .low => (g.low : Int) + g.hysteresis ≤ v
  | .critical => (g.critical : Int) + g.hysteresis ≤ v
  | .normal => false

/-- The transition that is due with S0 at `v` (R131); CRITICAL goes before LOW. -/
def Supply.due (u : Supply) (v : Int) (now : Time) : Option SupplyState :=
  let critical := dwellMet (u.settings.criticalHolds v) u.criticalTimer now criticalDwell
  let rise := dwellMet (u.settings.riseHolds u.state v) u.riseTimer now riseDwell
  match u.state with
  | .normal =>
    if critical then some .critical
    else if dwellMet (u.settings.fallHolds v) u.fallTimer now fallDwell then some .low else none
  | .low => if critical then some .critical else if rise then some .normal else none
  | .critical => if rise then some .low else none

/-- The timers after a measurement with S0 at `v`, before a change of state (R131): those that do not apply to the state are
stopped. -/
def Supply.timed (u : Supply) (v : Int) (now : Time) : Supply :=
  { u with
    fallTimer := if u.state = .normal then dwellTimer (u.settings.fallHolds v) u.fallTimer now else none
    criticalTimer :=
      if u.state = .critical then none else dwellTimer (u.settings.criticalHolds v) u.criticalTimer now
    riseTimer :=
      if u.state = .normal then none else dwellTimer (u.settings.riseHolds u.state v) u.riseTimer now }

/-- The record after a change of state (R131, R132). -/
def Supply.changed (u : Supply) (new : SupplyState) : Supply :=
  { u with
    state := new, fallTimer := none, riseTimer := none
    criticalTimer := if new = .critical then none else u.criticalTimer }

/-! ## Changes of state (R132 to R135) -/

/-- The payload of a SUPPLY_STATE event (R135, R199). -/
def supplyStatePayload (new prev : SupplyState) (s : State) : List Byte :=
  [3, u8 new.code, u8 prev.code] ++ le16 (s.cell (.sys 0)).value.toNat ++ le16 (s.cell (.sys 1)).value.toNat
    ++ le32 s.hubTime

/-- The actions of an entry to CRITICAL (R112, R134, R161). DESIGN CHOICE: the motors of ports A to F in that order, then the
amplifier, then voices 0 to 3 in that order (log entry 38). -/
def criticalActions (s : State) : State :=
  allVoices.foldl (fun s v => supplyCut v s) (ampOff (allPorts.foldl (fun s p => supplyHalt p s) s))

/-- A change of supply state (R132), in the order of its steps. -/
def changeSupply (new : SupplyState) (s : State) : State :=
  let prev := s.supply.state
  let s := { s with supply := s.supply.changed new }
  let s := allPorts.foldl (fun s p => capDuty new.dutyCap p s) s
  let s := if new = .critical then criticalActions s else s
  let s := setLatch latchSupplyChange (writeSupplyCell 2 new.code s)
  sendEvent s.supply.eventRoute (supplyStatePayload new prev s) s

/-! ## The measurement (R129) -/

/-- The ring after a sample (R129). -/
def ringAfter (ring : List Nat) (v : Nat) : List Nat := if ring = [] then List.replicate 8 v else ring.tail ++ [v]

/-- The mean of the ring, truncated (R129). -/
def ringMean (ring : List Nat) : Nat := ring.sum / 8

/-- Steps 1 to 3 of a measurement (R129). -/
def measureSupply (voltage current : Nat) (s : State) : State :=
  let ring := ringAfter s.supply.ring voltage
  let s := { s with supply := { s.supply with ring := ring, nextMeasurement := s.hubTime + 10 } }
  writeSupplyCell 1 current (writeSupplyCell 0 (ringMean ring) s)

/-- Steps 4 and 5 of a measurement whose mean is `v` (R129, R131). -/
def evaluateSupply (first : Bool) (v : Int) (s : State) : State :=
  let due := s.supply.due v s.hubTime
  let s := { s with supply := s.supply.timed v s.hubTime }
  match due with
  | some new => changeSupply new s
  | none => if first then writeSupplyCell 2 s.supply.state.code s else s

/-- One measurement (R129). -/
def takeMeasurement (voltage current : Nat) (s : State) : State :=
  let first : Bool := s.supply.ring = []
  let mean := ringMean (ringAfter s.supply.ring voltage)
  evaluateSupply first mean (measureSupply voltage current s)

/-- SUPPLY_FALL_TO_LOW, SUPPLY_FALL_TO_CRITICAL and SUPPLY_RISE as commands of their own (log entry 5): the change of state whose
dwell has passed (R131), where it is one the row wants. DESIGN CHOICE: R131 and R132 make the change at a measurement, and no
rule says when a row alone comes; here it acts with no measurement due, on S0 as the last measurement wrote it, on the settings
as they stand and at the hub time of the command, and takes no sample (log entry 47). -/
def supplyChangeDue (wanted : SupplyState → SupplyState → Bool) (s : State) : State :=
  match s.supply.due (s.cell (.sys 0)).value s.hubTime with
  | some new => if wanted s.supply.state new then changeSupply new s else s
  | none => s

end Sys2Proof.Machine
end

