-- ==== Sys2Proof/Machine/Records.lean ====
section
/-! DEFINITION. The table records of management requests: how a LOAD record spells a table entry, the checks that need no
state, and the bytes that a READ returns (R189, R197, R200 and the rules that own the tables). -/

namespace Sys2Proof.Machine

/-! ## Codes of table entries -/

/-- A Bool of a two-valued code whose first value stands for `first` (R197). -/
def boolOf (first : Bool) : Nat → Option Bool
  | 0 => some first
  | 1 => some !first
  | _ => none

/-- An optional one-byte field with values below `bound`: 255 is absent (R197). -/
def optField (bound : Nat) (b : Byte) : Option (Option Nat) :=
  if b = 255 then some none else if b.toNat < bound then some (some b.toNat) else none

/-- The voice of a code. -/
def voiceOfCode (n : Nat) : Option VoiceId := if h : n < 4 then some ⟨n, h⟩ else none

/-- A link and a channel that may not be absent. -/
def endpointOf (link channel : Byte) : Option Endpoint := if link = 255 then none else (routeOf link channel).join

/-- The motor class of an index (R93). -/
def MotorClass.ofIndex : Nat → Option MotorClass
  | 0 => some .s | 1 => some .m | 2 => some .l
  | _ => none

/-! ## Decoding records -/

/-- A route entry (R33): destination, port, voice, out channel. -/
def routeEntryOf (bs : List Byte) : Option Route :=
  match num8 bs 0 with
  | 0 => some .drop
  | 1 => some .management
  | 2 => (Port.ofCode (num8 bs 1)).map .motor
  | 3 => (voiceOfCode (num8 bs 2)).map .sound
  | 4 => if h : num8 bs 3 < 16 then some (.pass ⟨num8 bs 3, h⟩) else none
  | _ => none

/-- A motor class entry (R93). -/
def classEntryOf (bs : List Byte) : Option ClassEntry :=
  let e : ClassEntry :=
    { countsPerRev := num16 bs 0, ratedMax := num16 bs 2, kp := num16 bs 4, ki := num16 bs 6, kf := num16 bs 8 }
  if 1 ≤ e.countsPerRev && 1 ≤ e.ratedMax && e.ratedMax ≤ 20000 && e.kp ≤ 4095 && e.ki ≤ 4095 then some e else none

/-- The fields of a motor settings record lie within their ranges (R94). -/
def MotorSettings.inRange (g : MotorSettings) : Bool :=
  g.kp ≤ 4095 && g.ki ≤ 4095 && g.kf ≤ 65535 && g.integralLimit ≤ 10000000 && g.dutyMax ≤ 10000
    && g.currentLimit ≤ 10000 && g.stallDuty ≤ 10000 && g.stallSpeed ≤ 10000 && 1 ≤ g.stallTime
    && g.stallTime ≤ 65535 && g.tolerance ≤ 10000 && g.settleTimeout ≤ 65535 && g.lowWater ≤ 3

/-- A motor settings record (R94): none of the outer option where a code is outside its listed values, none of the inner
one where a field is outside its range. -/
def motorSettingsOf (bs : List Byte) : Option (Option MotorSettings) :=
  let linkByte := byteAt bs 28
  match boolOf true (num8 bs 24), LossAction.ofCode (num8 bs 25), WatchedLink.ofCode (num8 bs 26) with
  | some compensation, some lossAction, some watched =>
    if linkByte = 255 || linkByte.toNat < 2 then
      match routeOf linkByte (byteAt bs 29) with
      | some route =>
        let limit := int32 bs 6
        let g : MotorSettings :=
          { kp := num16 bs 0, ki := num16 bs 2, kf := num16 bs 4, integralLimit := limit.toNat, dutyMax := num16 bs 10
            currentLimit := num16 bs 12, stallDuty := num16 bs 14, stallSpeed := num16 bs 16, stallTime := num16 bs 18
            tolerance := num16 bs 20, settleTimeout := num16 bs 22, compensation := compensation
            lossAction := lossAction, watched := watched, lowWater := num8 bs 27, noticeRoute := route }
        some (if 0 ≤ limit && g.inRange then some g else none)
      | none => some none
    else none
  | _, _, _ => none

/-- A port settings record (R44). -/
def portSettingsOf (bs : List Byte) : Option PortSettings :=
  match optField 8 (byteAt bs 4), optField 6 (byteAt bs 5), Rounding.ofCode (num8 bs 6), RangePolicy.ofCode (num8 bs 7),
      routeOf (byteAt bs 8) (byteAt bs 9) with
  | some mode, some calibration, some rounding, some policy, some route =>
    if 1 ≤ num16 bs 0 && num16 bs 0 ≤ 1000 && num16 bs 2 ≤ 1000 then
      some { analogInterval := num16 bs 0, pollInterval := num16 bs 2, mode := mode
             calibration := calibration.bind fun i => if h : i < 6 then some ⟨i, h⟩ else none
             rounding := rounding, policy := policy, eventRoute := route }
    else none
  | _, _, _, _, _ => none

/-- The raw values of breakpoints strictly increase within 0 to 4095 (R79). -/
def breakpointsRise : List Breakpoint → Bool
  | [] => true
  | [b] => b.raw ≤ 4095
  | a :: b :: rest => a.raw < b.raw && breakpointsRise (b :: rest)

/-- A calibration record (R79): a count byte and that many breakpoints. -/
def calibrationOf (bs : List Byte) : Option (List Breakpoint) :=
  let k := num8 bs 0
  let table := (List.range k).map fun i => { raw := num16 bs (1 + 6 * i), val := int32 bs (3 + 6 * i) }
  if 2 ≤ k && k ≤ 16 && bs.length = 1 + 6 * k && breakpointsRise table then some table else none

/-- A wavetable (R136): 64 signed entries of two bytes. -/
def wavetableOf (bs : List Byte) : Vector Int 64 := Vector.ofFn fun i => (word16 bs (2 * i.val)).toInt

/-- An envelope record (R137). -/
def envelopeOf (bs : List Byte) : Envelope :=
  { attack := num16 bs 0, decay := num16 bs 2, sustain := num8 bs 4, release := num16 bs 5 }

/-- The action parameters of a reflex record (R164, R200), from offset 16, with their length. -/
def reflexActionOf (bs : List Byte) : Option (ReflexAction × Nat) :=
  match num8 bs 15 with
  | 0 => (Port.ofCode (num8 bs 16)).map fun p => (.motorReplace p (rawSegmentAt bs 17), 20)
  | 1 =>
    match Port.ofCode (num8 bs 16), EndAction.ofCode (num8 bs 17), boolOf false (num8 bs 18) with
    | some p, some e, some lock => some (.motorStop p e lock, 3)
    | _, _, _ => none
  | 2 => (voiceOfCode (num8 bs 16)).map fun v => (.voicePlay v (rawNoteAt bs 17), 13)
  | 3 =>
    match voiceOfCode (num8 bs 16), boolOf false (num8 bs 17) with
    | some v, some cut => some (.voiceStop v cut, 2)
    | _, _ => none
  | 4 => (endpointOf (byteAt bs 16) (byteAt bs 17)).map fun e => (.sendEvent e, 2)
  | _ => none

/-- The state a LOAD of REFLEX may name (R175): DISABLED or ARMED. -/
def loadedReflexState : Nat → Option ReflexState
  | 0 => some .disabled
  | 1 => some .armed
  | _ => none

/-- A reflex record (R175), with nothing seen and nothing fired. -/
def reflexOf (bs : List Byte) : Option Reflex :=
  match CellId.ofCode (num8 bs 0), Condition.ofCode (num8 bs 1), ReflexMode.ofCode (num8 bs 14), reflexActionOf bs with
  | some cell, some condition, some mode, some (action, n) =>
    match routeOf (byteAt bs (16 + n)) (byteAt bs (17 + n)), loadedReflexState (num8 bs (18 + n)) with
    | some route, some state =>
      let t := int32 bs 2
      let t2 := int32 bs 6
      let h := int32 bs 10
      let ordered := !(condition = .inside || condition = .outside) || t ≤ t2
      if bs.length = 19 + n && 0 ≤ h && ordered then
        some { cell := cell, condition := condition, t := t, t2 := t2, hysteresis := h.toNat, mode := mode
               action := action, eventOnFire := route, state := state, lastValue := 0, lastTag := .empty
               fireCount := 0, lastOutcome := .nothing }
      else none
    | _, _ => none
  | _, _, _, _ => none

/-- A subscription record (R178), its period and minimum interval clamped, with nothing reported. -/
def subscriptionOf (bs : List Byte) : Option Subscription :=
  match CellId.ofCode (num8 bs 0), endpointOf (byteAt bs 1) (byteAt bs 2), SubMode.ofCode (num8 bs 3),
      boolOf true (num8 bs 12) with
  | some cell, some target, some mode, some active =>
    if 0 ≤ int32 bs 6 then
      some { cell := cell, target := target, mode := mode, period := clampNat 10 60000 (num16 bs 4)
             deadband := (int32 bs 6).toNat, minInterval := clampNat 10 1000 (num16 bs 10), active := active
             lastValue := 0, lastTag := .empty, lastReport := none, nextExpiry := none, pending := active
             skipped := 0, attemptDue := false }
    else none
  | _, _, _, _ => none

/-- A supply settings record (R130). -/
def supplySettingsOf (bs : List Byte) : Option SupplySettings :=
  let g : SupplySettings :=
    { low := num16 bs 0, critical := num16 bs 2, hysteresis := num16 bs 4, nominal := num16 bs 6 }
  if 4800 ≤ g.low && g.low ≤ 9000 && 4500 ≤ g.critical && g.critical ≤ 9000 && g.hysteresis ≤ 1000
      && 4800 ≤ g.nominal && g.nominal ≤ 9000 && g.critical < g.low then some g
  else none

/-- A sound settings record (R138). -/
def soundSettingsOf (bs : List Byte) : Option SoundSettings :=
  if num16 bs 0 ≤ 256 then some { masterGain := num16 bs 0, idleOff := num16 bs 2 } else none

/-- The pair of ceilings of a LINK_SETTINGS record (R5). DESIGN CHOICE: the ceiling of RADIO is the first byte and that of
CONTROLLER the second; R5 and R200 give the record no order of the links (log entry 45). -/
def ceilingsOf (bs : List Byte) : Option (Nat × Nat) :=
  let a := num8 bs 0
  let b := num8 bs 1
  if 8 ≤ a && a ≤ 48 && 8 ≤ b && b ≤ 48 && a + b ≤ 96 then some (a, b) else none

/-! ## Encoding records (R197, R200) -/

/-- The bytes of a route entry (R33). -/
def Route.bytes : Route → List Byte
  | .drop => [0, 0, 0, 0]
  | .management => [1, 0, 0, 0]
  | .motor p => [2, u8 p.code, 0, 0]
  | .sound v => [3, 0, u8 v.val, 0]
  | .pass c => [4, 0, 0, u8 c.val]

/-- The bytes of a motor class entry (R93). -/
def ClassEntry.bytes (e : ClassEntry) : List Byte :=
  le16 e.countsPerRev ++ le16 e.ratedMax ++ le16 e.kp ++ le16 e.ki ++ le16 e.kf

/-- The bytes of a motor settings record (R94). -/
def MotorSettings.bytes (g : MotorSettings) : List Byte :=
  le16 g.kp ++ le16 g.ki ++ le16 g.kf ++ leInt g.integralLimit ++ le16 g.dutyMax ++ le16 g.currentLimit
    ++ le16 g.stallDuty ++ le16 g.stallSpeed ++ le16 g.stallTime ++ le16 g.tolerance ++ le16 g.settleTimeout
    ++ [u8 (boolCode !g.compensation), u8 g.lossAction.code, u8 g.watched.code, u8 g.lowWater]
    ++ routeBytes g.noticeRoute

/-- The bytes of a port settings record (R44). -/
def PortSettings.bytes (g : PortSettings) : List Byte :=
  le16 g.analogInterval ++ le16 g.pollInterval
    ++ [optByte g.mode, optByte (g.calibration.map Fin.val), u8 g.rounding.code, u8 g.policy.code]
    ++ routeBytes g.eventRoute

/-- The bytes of a calibration table (R79). -/
def calibrationBytes (table : List Breakpoint) : List Byte :=
  u8 table.length :: table.flatMap fun b => le16 b.raw ++ leInt b.val

/-- The bytes of a wavetable (R136). -/
def wavetableBytes (w : Vector Int 64) : List Byte := w.toList.flatMap fun v => le16 (BitVec.ofInt 16 v).toNat

/-- The bytes of an envelope (R137). -/
def Envelope.bytes (e : Envelope) : List Byte := le16 e.attack ++ le16 e.decay ++ [u8 e.sustain] ++ le16 e.release

/-- The code and the bytes of a reflex action (R164, R200). -/
def ReflexAction.bytes : ReflexAction → List Byte
  | .motorReplace p seg => [0, u8 p.code] ++ segmentBytes seg
  | .motorStop p e lock => [1, u8 p.code, u8 e.code, u8 (boolCode lock)]
  | .voicePlay v note => [2, u8 v.val] ++ noteBytes note
  | .voiceStop v cut => [3, u8 v.val, u8 (boolCode cut)]
  | .sendEvent e => [4, u8 e.link.code, u8 e.channel.val]

/-- The bytes of a reflex record with its running fields (R164, R176, R200). -/
def Reflex.bytes (r : Reflex) : List Byte :=
  [u8 r.cell.code, u8 r.condition.code] ++ leInt r.t ++ leInt r.t2 ++ leInt r.hysteresis ++ [u8 r.mode.code]
    ++ r.action.bytes ++ routeBytes r.eventOnFire ++ [u8 r.state.code] ++ leInt r.lastValue
    ++ [u8 r.lastTag.code, u8 r.fireCount, u8 r.lastOutcome.code, u8 r.lastOutcome.refusal]

/-- The bytes of a subscription record with its running fields (R177, R178, R200). -/
def Subscription.bytes (b : Subscription) : List Byte :=
  [u8 b.cell.code, u8 b.target.link.code, u8 b.target.channel.val, u8 b.mode.code] ++ le16 b.period
    ++ leInt b.deadband ++ le16 b.minInterval ++ [u8 (boolCode !b.active)] ++ leInt b.lastValue ++ [u8 b.lastTag.code]
    ++ optTime b.lastReport ++ optTime b.nextExpiry ++ [u8 (boolCode b.pending)] ++ le16 b.skipped

/-- The bytes of a supply settings record (R130). -/
def SupplySettings.bytes (g : SupplySettings) : List Byte :=
  le16 g.low ++ le16 g.critical ++ le16 g.hysteresis ++ le16 g.nominal

/-- The bytes of a sound settings record (R138). -/
def SoundSettings.bytes (g : SoundSettings) : List Byte := le16 g.masterGain ++ le16 g.idleOff

/-- The bytes of a mode entry of a description (R201). -/
def Mode.bytes (m : Mode) : List Byte :=
  [u8 m.valueCount, u8 m.format.code] ++ leInt m.rawMin ++ leInt m.rawMax ++ leInt m.siMin ++ leInt m.siMax
    ++ le16 m.minInterval

/-- The bytes of a description record (R55, R201). -/
def Description.bytes (d : Description) : List Byte :=
  le16 d.typeCode ++ [u8 d.highestRate, u8 d.defaultMode, u8 d.modes.length] ++ d.modes.flatMap Mode.bytes

/-- The bytes of a cell record (R81, R87). -/
def Cell.bytes (c : Cell) : List Byte :=
  leInt c.value ++ [u8 c.tag.code, u8 c.writer.code] ++ le32 c.timestamp ++ [c.updateCount]

/-- The voice summary (R163). -/
def Voice.bytes (r : Voice) : List Byte :=
  [u8 r.state.code, u8 (boolCode r.loopOn), u8 r.notes.length, u8 r.stream.length]
    ++ (match r.notes with
      | n :: _ => [u8 n.kind.code, n.tag]
      | [] => [255, 0])
    ++ le16 r.overflows ++ le16 r.underruns ++ le16 r.formatErrors

/-- The nine counters of a link (R40, R191). -/
def LinkCounters.bytes (c : LinkCounters) : List Byte :=
  le16 c.framesReceived ++ le16 c.formatErrors ++ le16 c.crcErrors ++ le16 c.overruns ++ le16 c.badKindDrops
    ++ le16 c.routeDrops ++ le16 c.downLinkDrops ++ le16 c.lostNotices ++ le16 c.framesTransmitted

/-- The result of IDENTIFY (R188). -/
def identifyBytes : List Byte := le16 0x5A31 ++ le16 620 ++ [1, 6, 4, 128, 16, 24]

end Sys2Proof.Machine
end

