-- ==== Sys2Proof/Machine/Management.lean ====
section
/-! DEFINITION. The management unit (chapter 12): requests, their checks in the order of R187, their effects, their
replies, and the consideration of a request (R186). -/

namespace Sys2Proof.Machine

/-! ## Requests (R187, R200) -/

/-- A management request whose payload has the length its code calls for. -/
inductive Request where
  | identify
  | load (table index : Byte) (record : List Byte)
  | read (table index : Byte)
  | portControl (port operation mode : Byte)
  | motorUnlock (port : Byte)
  | reflexArm (index : Byte)
  | readFlags (port : Byte)
  | readAttention
  | setAttention (mask : BitVec 16) (mode : Byte)
  | readCounters (link : Byte)
  | setFlagMask (port mask : Byte)
  | hubReset
  deriving DecidableEq, Repr

/-- The code of a request (R200). -/
def Request.code : Request → Byte
  | .identify => 1 | .load .. => 2 | .read .. => 3 | .portControl .. => 4 | .motorUnlock _ => 5 | .reflexArm _ => 6
  | .readFlags _ => 7 | .readAttention => 8 | .setAttention .. => 9 | .readCounters _ => 10 | .setFlagMask .. => 11
  | .hubReset => 12

/-- The request that a payload carries; none for an unknown code or a wrong length (R187 check 1, R200). -/
def requestOf (bs : List Byte) : Option Request :=
  match num8 bs 0, bs.length with
  | 1, 1 => some .identify
  | 2, n => if 3 ≤ n then some (.load (byteAt bs 1) (byteAt bs 2) (bs.drop 3)) else none
  | 3, 3 => some (.read (byteAt bs 1) (byteAt bs 2))
  | 4, 4 => some (.portControl (byteAt bs 1) (byteAt bs 2) (byteAt bs 3))
  | 5, 2 => some (.motorUnlock (byteAt bs 1))
  | 6, 2 => some (.reflexArm (byteAt bs 1))
  | 7, 2 => some (.readFlags (byteAt bs 1))
  | 8, 1 => some .readAttention
  | 9, 4 => some (.setAttention (word16 bs 1) (byteAt bs 3))
  | 10, 2 => some (.readCounters (byteAt bs 1))
  | 11, 3 => some (.setFlagMask (byteAt bs 1) (byteAt bs 2))
  | 12, 1 => some .hubReset
  | _, _ => none

/-! ## Tables (R189) -/

/-- The tables of LOAD and READ (R189). -/
inductive Table where
  | route | motorClass | motorSettings | portSettings | calibration | wavetable | envelope | reflex | subscription
  | supplySettings | soundSettings | linkSettings | eventRoutes | description | cell | voice | mixer
  deriving DecidableEq, Repr

/-- The table of a code (R189, R200). -/
def Table.ofCode : Nat → Option Table
  | 0 => some .route | 1 => some .motorClass | 2 => some .motorSettings | 3 => some .portSettings
  | 4 => some .calibration | 5 => some .wavetable | 6 => some .envelope | 7 => some .reflex | 8 => some .subscription
  | 9 => some .supplySettings | 10 => some .soundSettings | 11 => some .linkSettings | 12 => some .eventRoutes
  | 13 => some .description | 14 => some .cell | 15 => some .voice | 16 => some .mixer
  | _ => none

/-- The number of entries of a table (R189). -/
def Table.entries : Table → Nat
  | .route => 32 | .motorClass => 3 | .motorSettings => 6 | .portSettings => 6 | .calibration => 6 | .wavetable => 4
  | .envelope => 8 | .reflex => 16 | .subscription => 24 | .supplySettings => 1 | .soundSettings => 1
  | .linkSettings => 1 | .eventRoutes => 1 | .description => 6 | .cell => 28 | .voice => 4 | .mixer => 1

/-- The table takes LOAD (R189). -/
def Table.loads : Table → Bool
  | .description | .cell | .voice | .mixer => false
  | _ => true

/-- The link and channel of a ROUTE index below 32 (R189). -/
def routeIndex (n : Nat) : Link × Channel := (if n < 16 then .radio else .controller, ⟨n % 16, by omega⟩)

/-- The port of an index (R189); indexes are checked before. -/
def portIndex (n : Nat) : Port := (Port.ofCode n).getD .a

/-- A LOAD whose record has passed the checks that need no state. -/
inductive Load where
  | route (l : Link) (c : Channel) (r : Route)
  | motorClass (c : MotorClass) (e : ClassEntry)
  | motorSettings (p : Port) (g : Option MotorSettings)
  | portSettings (p : Port) (g : PortSettings)
  | calibration (i : Fin 6) (t : List Breakpoint)
  | wavetable (i : Fin 4) (w : Vector Int 64)
  | envelope (i : Fin 8) (e : Envelope)
  | reflex (i : Fin 16) (r : Reflex)
  | subscription (i : Fin 24) (b : Subscription)
  | supply (g : SupplySettings)
  | sound (g : SoundSettings)
  | ceilings (radio controller : Nat)
  | eventRoute (r : Option Endpoint)
  deriving DecidableEq, Repr

/-- A record of a fixed length is read by `f` (R187 check 4). -/
def fixedRecord {α : Type} (n : Nat) (bs : List Byte) (f : List Byte → Option α) : Option α :=
  if bs.length = n then f bs else none

/-- The number as an index below `n`. -/
def finOf (n i : Nat) : Option (Fin n) := if h : i < n then some ⟨i, h⟩ else none

/-- The LOAD that a record spells for an entry of a table; none is BAD_VALUE (R187 check 4, and the range checks of the
rules that own the tables). -/
def loadOf (t : Table) (i : Nat) (bs : List Byte) : Option Load :=
  match t with
  | .route => (fixedRecord 4 bs routeEntryOf).map (.route (routeIndex i).1 (routeIndex i).2)
  | .motorClass => (MotorClass.ofIndex i).bind fun c => (fixedRecord 10 bs classEntryOf).map (.motorClass c)
  | .motorSettings => (fixedRecord 30 bs motorSettingsOf).map (.motorSettings (portIndex i))
  | .portSettings => (fixedRecord 10 bs portSettingsOf).map (.portSettings (portIndex i))
  | .calibration => (finOf 6 i).bind fun i => (calibrationOf bs).map (.calibration i)
  | .wavetable => (finOf 4 i).bind fun i => fixedRecord 128 bs fun bs => some (.wavetable i (wavetableOf bs))
  | .envelope => (finOf 8 i).bind fun i => fixedRecord 7 bs fun bs => some (.envelope i (envelopeOf bs))
  | .reflex => (finOf 16 i).bind fun i => (reflexOf bs).map (.reflex i)
  | .subscription => (finOf 24 i).bind fun i => (fixedRecord 13 bs subscriptionOf).map (.subscription i)
  | .supplySettings => (fixedRecord 8 bs supplySettingsOf).map .supply
  | .soundSettings => (fixedRecord 4 bs soundSettingsOf).map .sound
  | .linkSettings => (fixedRecord 2 bs ceilingsOf).map fun c => .ceilings c.1 c.2
  | .eventRoutes => (fixedRecord 2 bs fun bs => routeOf (byteAt bs 0) (byteAt bs 1)).map .eventRoute
  | _ => none

/-- A port holds a motor of a class (R93). -/
def classInUse (c : MotorClass) (s : State) : Bool :=
  allPorts.any fun p => (s.port p).cls = .motor c && (s.motor p).isSome

/-- An ACTIVE port's settings name a calibration table (R79). -/
def tableInUse (i : Fin 6) (s : State) : Bool :=
  allPorts.any fun p => (s.port p).state = .active && (s.port p).settings.calibration = some i

/-- The checks of a LOAD against the state (R187 check 5). -/
def Load.check (x : Load) (s : State) : Status :=
  match x with
  | .motorClass c _ => if classInUse c s then .inUse else .ok
  | .motorSettings p g => if (s.motor p).isNone then .noDevice else if g.isNone then .badValue else .ok
  | .portSettings p g =>
    if (s.port p).state = .active && g.calibration ≠ (s.port p).settings.calibration then .inUse else .ok
  | .calibration i _ => if tableInUse i s then .inUse else .ok
  | .ceilings a b =>
    if a < (s.link .radio).outstanding || b < (s.link .controller).outstanding then .inUse else .ok
  | _ => .ok

/-- The ceiling of a link is replaced. -/
def setCeiling (l : Link) (n : Nat) (s : State) : State := s.setLink l { s.link l with ceiling := n }

/-- An accepted LOAD of LINK_SETTINGS (R5): both ceilings, and then the review of each UP link whose ceiling rose, in the
order of R9. Each grant that follows is a pool operation of its own (R4; log entry 26). -/
def loadCeilings (a b : Nat) (s : State) : State :=
  let rose (l : Link) (n : Nat) : Bool := (s.link l).ceiling < n
  let after := setCeiling .controller b (setCeiling .radio a s)
  match rose .radio a, rose .controller b with
  | true, true => reviewOperation (firstReviewed after).other (reviewOperation (firstReviewed after) after)
  | true, false => reviewOperation .radio after
  | false, true => reviewOperation .controller after
  | false, false => after

/-- An accepted LOAD of SOUND_SETTINGS (R138, R160): a running idle timer that has run for the new time is at its end. -/
def loadSound (g : SoundSettings) (s : State) : State :=
  let s := { s with sound := g }
  if s.amp = .on && timerReached s.hubTime s.idleTimer g.idleOff then ampOff s else s

/-- An accepted LOAD of SUBSCRIPTION (R178): the last report is the cell as it stands, and an ACTIVE one makes an
attempt. -/
def loadSubscription (i : Fin 24) (b : Subscription) (s : State) : State :=
  let c := s.cell b.cell
  let periodic : Bool := b.mode ≠ .change
  let expiry := if b.active && periodic then some (s.hubTime + BitVec.ofNat 32 b.period) else none
  emissionAttempt i c (s.setSub i { b with lastValue := c.value, lastTag := c.tag, nextExpiry := expiry })

/-- The effect of an accepted LOAD (R189). -/
def Load.effect (x : Load) (s : State) : State :=
  match x with
  | .route l c r => s.setRoute l c r
  | .motorClass c e => { s with classes := s.classes.set c e }
  | .motorSettings p g => onMotor p (fun m s => s.setMotor p (some { m with loaded := g })) s
  | .portSettings p g => s.setPort p { s.port p with settings := g }
  | .calibration i t => { s with calibration := s.calibration.set i.val t i.isLt }
  | .wavetable i w => { s with wavetables := s.wavetables.set i w }
  | .envelope i e => { s with envelopes := s.envelopes.set i.val e i.isLt }
  | .reflex i r => s.setReflex i { r with lastValue := (s.cell r.cell).value, lastTag := (s.cell r.cell).tag }
  | .subscription i b => loadSubscription i b s
  | .supply g => { s with supply := { s.supply with settings := g } }
  | .sound g => loadSound g s
  | .ceilings a b => loadCeilings a b s
  | .eventRoute r => { s with supply := { s.supply with eventRoute := r } }

/-- The bytes that a READ of an entry of a table returns; none is NO_DEVICE (R189). DESIGN CHOICE: of LINK_SETTINGS, the
ceiling of RADIO first and that of CONTROLLER second (log entry 45). -/
def readTable (t : Table) (i : Nat) (s : State) : Option (List Byte) :=
  match t with
  | .route => some (s.route (routeIndex i).1 (routeIndex i).2).bytes
  | .motorClass => (MotorClass.ofIndex i).map fun c => (s.classes.get c).bytes
  | .motorSettings => (s.motor (portIndex i)).map fun m => (m.loaded.getD m.settings).bytes
  | .portSettings => some (s.port (portIndex i)).settings.bytes
  | .calibration => (finOf 6 i).map fun i => calibrationBytes (s.calibration.get i)
  | .wavetable => (finOf 4 i).map fun i => wavetableBytes (s.wavetables.get i)
  | .envelope => (finOf 8 i).map fun i => (s.envelopes.get i).bytes
  | .reflex => (finOf 16 i).map fun i => (s.reflex i).bytes
  | .subscription => (finOf 24 i).map fun i => (s.sub i).bytes
  | .supplySettings => some s.supply.settings.bytes
  | .soundSettings => some s.sound.bytes
  | .linkSettings => some [u8 (s.link .radio).ceiling, u8 (s.link .controller).ceiling]
  | .eventRoutes => some (routeBytes s.supply.eventRoute)
  | .description => (s.port (portIndex i)).description.map Description.bytes
  | .cell => (CellId.ofCode i).map fun c => (s.cell c).bytes
  | .voice => (finOf 4 i).map fun v => (s.voice v).bytes
  | .mixer => some ([u8 s.amp.code] ++ le16 (effectiveGain s) ++ le16 s.clips)

/-- What a READ clears (R163, R191). -/
def clearRead (t : Table) (i : Nat) (s : State) : State :=
  match t with
  | .voice =>
    match finOf 4 i with
    | some v => s.setVoice v { s.voice v with overflows := 0, underruns := 0, formatErrors := 0 }
    | none => s
  | .mixer => { s with clips := 0 }
  | _ => s

/-! ## Checks, results and effects of requests -/

/-- Operations of PORT_CONTROL (R190, R200). -/
inductive PortOperation where
  | reset | suspend | resume | selectMode
  deriving DecidableEq, Repr

/-- The operation of a code (R200). -/
def PortOperation.ofCode : Nat → Option PortOperation
  | 0 => some .reset | 1 => some .suspend | 2 => some .resume | 3 => some .selectMode
  | _ => none

/-- The checks of SELECT_MODE in the order of R58. -/
def selectModeCheck (r : PortRec) (mode : Nat) : Status :=
  if r.state ≠ .active || r.cls ≠ .smart || r.modeChange.isSome then .wrongState
  else match r.description with
    | some d => if mode < d.modes.length then .ok else .badValue
    | none => .badValue

/-- The checks of a PORT_CONTROL operation (R58, R60 to R62). -/
def portControlCheck (op : PortOperation) (mode : Nat) (r : PortRec) : Status :=
  match op with
  | .reset => .ok
  | .suspend => if r.state = .active then .ok else .wrongState
  | .resume => if r.state = .suspended then .ok else .wrongState
  | .selectMode => selectModeCheck r mode

/-- The check of a motor for MOTOR_UNLOCK (R110). -/
def unlockCheck (m : Option Motor) : Status :=
  match m with
  | none => .noDevice
  | some m => if m.state = .locked then .ok else .wrongState

/-- The LOAD of a request that has passed checks 2 and 3, against the state. -/
def loadCheck (x : Option Load) (s : State) : Status :=
  match x with
  | some x => x.check s
  | none => .badValue

/-- The status of a request's reply (R187): the first check that fails. -/
def Request.check (q : Request) (s : State) : Status :=
  match q with
  | .identify | .readAttention | .hubReset => .ok
  | .load t i bs =>
    match Table.ofCode t.toNat with
    | none => .badTable
    | some t =>
      if !t.loads then .badTable
      else if t.entries ≤ i.toNat then .badIndex
      else loadCheck (loadOf t i.toNat bs) s
  | .read t i =>
    match Table.ofCode t.toNat with
    | none => .badTable
    | some t =>
      if t.entries ≤ i.toNat then .badIndex else if (readTable t i.toNat s).isSome then .ok else .noDevice
  | .portControl p op mode =>
    match Port.ofCode p.toNat with
    | none => .badIndex
    | some p =>
      match PortOperation.ofCode op.toNat with
      | none => .badValue
      | some op => portControlCheck op mode.toNat (s.port p)
  | .motorUnlock p =>
    match Port.ofCode p.toNat with
    | none => .badIndex
    | some p => unlockCheck (s.motor p)
  | .reflexArm i => if i.toNat < 16 then .ok else .badIndex
  | .readFlags p => if p.toNat < 6 then .ok else .badIndex
  | .setAttention mask mode =>
    if mask.toNat < 4096 && (LineMode.ofCode mode.toNat).isSome then .ok else .badValue
  | .readCounters l => if l.toNat < 2 then .ok else .badIndex
  | .setFlagMask p mask => if 6 ≤ p.toNat then .badIndex else if mask.toNat < 32 then .ok else .badValue

/-- The result of an OK reply (R187 to R191). -/
def Request.result (q : Request) (s : State) : List Byte :=
  match q with
  | .identify => identifyBytes
  | .load t i _ => [t, i]
  | .read t i => ((Table.ofCode t.toNat).bind fun t => readTable t i.toNat s).getD []
  | .readFlags p => let r := s.flag (portIndex p.toNat); [r.flags.zeroExtend 8, r.mask.zeroExtend 8]
  | .readAttention =>
    le16 s.attention.latches.toNat ++ le16 s.attention.mask.toNat ++ [u8 s.attention.mode.code]
  | .readCounters l => match Link.ofCode l.toNat with
    | some l => (s.link l).counters.bytes
    | none => []
  | _ => []

/-- The attention record after SET_ATTENTION (R193, R195). A pulse that PULSE to LEVEL ends counts as one that ended: the
100 µs after it are the gap. -/
def Attention.configured (a : Attention) (mask : BitVec 12) (mode : LineMode) : Attention :=
  if a.mode = .pulse && mode = .level then
    { a with mask := mask, mode := mode, pulse := if a.pulse = .low then .gap else a.pulse, owed := 0 }
  else { a with mask := mask, mode := mode }

/-- The effect of a PORT_CONTROL operation (R58, R60 to R62). -/
def portControlEffect (op : PortOperation) (p : Port) (mode : Nat) (band : Band) (raw : RawSample) (s : State) : State :=
  match op with
  | .reset => resetPort p band s
  | .suspend => suspendPort p s
  | .resume => resumePort p raw s
  | .selectMode => takeSelectMode p mode s

/-- The effect of a request whose status is OK, with the readings of a named port's pins (R187 to R191). -/
def Request.effect (q : Request) (band : Band) (raw : RawSample) (s : State) : State :=
  match q with
  | .identify | .hubReset => s
  | .load t i bs =>
    match (Table.ofCode t.toNat).bind fun t => loadOf t i.toNat bs with
    | some x => x.effect s
    | none => s
  | .read t i =>
    match Table.ofCode t.toNat with
    | some t => clearRead t i.toNat s
    | none => s
  | .portControl p op mode =>
    match PortOperation.ofCode op.toNat with
    | some op => portControlEffect op (portIndex p.toNat) mode.toNat band raw s
    | none => s
  | .motorUnlock p => onMotor (portIndex p.toNat) (unlockMotor (portIndex p.toNat)) s
  | .reflexArm i =>
    match finOf 16 i.toNat with
    | some i => s.setReflex i { s.reflex i with state := .armed }
    | none => s
  | .readFlags p => clearFlags (portIndex p.toNat) s
  | .readAttention => { s with attention := { s.attention with latches := 0 } }
  | .setAttention mask mode =>
    match LineMode.ofCode mode.toNat with
    | some mode => { s with attention := s.attention.configured (mask.truncate 12) mode }
    | none => s
  | .readCounters l =>
    match Link.ofCode l.toNat with
    | some l => modCounters l (fun _ => LinkCounters.zero) s
    | none => s
  | .setFlagMask p mask =>
    s.setFlagRec (portIndex p.toNat) ((s.flag (portIndex p.toNat)).withMask (mask.truncate 5))

/-! ## Consideration (R186) -/

/-- The payload of a reply (R187, R200): the request code, the status and the result, which only OK has. -/
def replyPayload (code : Byte) (st : Status) (result : List Byte) : List Byte :=
  code :: u8 st.code :: (if st = .ok then result else [])

/-- The reply frame of a request (R187). -/
def replyFrame (o : Origin) (payload : List Byte) : Frame :=
  { channel := o.channel, kind := .mgmtReply, flags := flagUrgent, tag := o.tag, payload := payload }

/-- The status that a request's reply would carry now; none is a request that could not be parsed (R186, R187). -/
def requestStatus (q : Option Request) (s : State) : Status :=
  match q with
  | none => .badFormat
  | some q => q.check s

/-- The payload that a request's reply would carry now (R186). -/
def requestReply (code : Byte) (q : Option Request) (s : State) : List Byte :=
  replyPayload code (requestStatus q s) (match q with
    | some q => q.result s
    | none => [])

/-- The request waits (R14, R186 step 2): its reply of `r` pages needs more pages than its chain of `q` and free hold, or
its link's urgent queue is full. -/
def replyWaits (l : Link) (q r : Nat) (s : State) : Bool := s.free < r - q || 8 ≤ (s.link l).urgent.length

/-- The pages that extend a request's chain of `q` pages to `r` leave free as one allocation (R4, R14). -/
def extendChain (q r : Nat) (s : State) : State :=
  if q < r then writeFree { s with free := s.free - (r - q) } else s

/-- A request that does not wait is carried out (R186 step 3): its chain of `pages` pages becomes the reply's, the effect is
made, and the writes of S3 that wait reach their observers, so that every notice and event that the effect causes is handed over
before the reply (R190; log entry 12). DESIGN CHOICE: these writes are observed after the effect, so a reflex or a subscription
on S3 that a LOAD or a REFLEX_ARM has just loaded or armed is tested against the write that the pages of the reply make (R176; log
entry 7). Then the request leaves as `leave` says, the reply joins the urgent queue, and surplus
pages are released. -/
def carryOut (o : Origin) (code : Byte) (q : Option Request) (pages : Nat) (band : Band) (raw : RawSample)
    (leave : State → State) (s : State) : State :=
  let payload := requestReply code q s
  let accepted : Bool := requestStatus q s = .ok
  let s := extendChain pages (pagesOf payload.length) s
  let s := { s with mgmt := { s.mgmt with inProgress := some o.link } }
  let s := match q with
    | some q => if accepted then q.effect band raw s else s
    | none => s
  let s := drain s
  let s := leave { s with mgmt := { s.mgmt with inProgress := none } }
  release (pages - pagesOf payload.length) (pushUrgent o.link (replyFrame o payload) s)

/-- A request is considered (R186): `pages` is the page count of its chain, `leave` takes it out of the queue, and `wait`
notes that it waits. -/
def consider (o : Origin) (code : Byte) (q : Option Request) (pages : Nat) (band : Band) (raw : RawSample)
    (leave wait : State → State) (s : State) : State :=
  if s.mgmt.resetTaken.isSome then s
  else if !(s.link o.link).up then release pages (leave s)
  else if q = some .hubReset then { s with mgmt := { s.mgmt with resetTaken := some o } }
  else if replyWaits o.link pages (pagesOf (requestReply code q s).length) s then wait s
  else carryOut o code q pages band raw leave s

/-- The head of the management queue leaves it, and the request behind it is to be considered (R186). -/
def leaveQueue (s : State) : State := { s with mgmt := { s.mgmt with queue := s.mgmt.queue.tail, headWaits := false } }

/-- The head of the management queue waits until pages are released (R186 step 2). -/
def waitAtHead (s : State) : State := { s with mgmt := { s.mgmt with headWaits := true } }

/-- MGMT_HEAD_CONSIDERATION (R186): a head that waits is considered again only once pages have been released. A frame that
leaves an urgent queue releases its pages (R37), so that a release is the one event that R186 gives for a waiting head. -/
def considerHead (band : Band) (raw : RawSample) (s : State) : State :=
  match s.mgmt.queue with
  | e :: _ =>
    if s.mgmt.headWaits then s
    else
      consider { link := e.link, channel := e.frame.channel, tag := e.frame.tag } (commandCode e.frame.payload)
        (requestOf e.frame.payload) e.frame.pages band raw leaveQueue waitAtHead s
  | [] => s

/-- A request taken on its own, with no chain of its own in the pool (log entry 7). -/
def directRequest (o : Origin) (q : Request) (band : Band) (raw : RawSample) (s : State) : State :=
  consider o q.code (some q) 0 band raw id id s

end Sys2Proof.Machine
end

