-- ==== Sys2Proof/Machine/Routing.lean ====
section
/-! DEFINITION. The link units (chapter 02): reception, the hold list with classification and its destinations,
transmission, and the links going DOWN and UP. -/

namespace Sys2Proof.Machine

/-! ## Reception (R22 to R25) -/

/-- The receiver of a link is put in a state. -/
def setReceiver (l : Link) (r : Receiver) (s : State) : State := s.setLink l { s.link l with receiver := r }

/-- SYNC_BYTE_RECEIVED: the byte 0xC3 takes a hunting receiver to HEADER (R22). -/
def syncArrives (l : Link) (s : State) : State :=
  if (s.link l).up && (s.link l).receiver = .hunting then setReceiver l .header s else s

/-- A header with a length above 248 (R23). -/
def formatError (l : Link) (s : State) : State :=
  setReceiver l .hunting (modCounters l (fun c => { c with formatErrors := bump c.formatErrors }) s)

/-- A header that needs more pages than the outstanding credit (R24). -/
def overrun (l : Link) (h : Header) (s : State) : State :=
  setLatch latchLinkError
    (setReceiver l (.skipping (h.length + 2)) (modCounters l (fun c => { c with overruns := bump c.overruns }) s))

/-- A header is accepted (R6, R24): its pages pass from the reservation to the receive assembly, and the link is reviewed.
The acceptance and its review are one pool operation (R4). -/
def acceptHeader (l : Link) (h : Header) (s : State) : State :=
  let u := s.link l
  reviewOperation l (s.setLink l { u with outstanding := u.outstanding - pagesOf h.length, receiver := .payload h })

/-- The four bytes of a header are complete (R22 to R24). -/
def headerArrives (l : Link) (h : Header) (s : State) : State :=
  if (s.link l).up && (s.link l).receiver = .header then
    if 248 < h.length then formatError l s
    else if (s.link l).outstanding < pagesOf h.length then overrun l h s
    else acceptHeader l h s
  else s

/-- SKIP_COUNT_SPENT (R22). -/
def skipEnds (l : Link) (s : State) : State :=
  match (s.link l).receiver with
  | .skipping _ => setReceiver l .hunting s
  | _ => s

/-! ## Classification (R27 to R32) -/

/-- The head of a hold list leaves it. -/
def popHold (l : Link) (s : State) : State :=
  s.setLink l { s.link l with hold := (s.link l).hold.tail, waiting := none }

/-- The head of a hold list waits, and keeps its destination (R27, R32). -/
def headWaits (l : Link) (w : Waiting) (s : State) : State := s.setLink l { s.link l with waiting := some w }

/-- The head leaves the hold list and its chain is released (R15). -/
def dropHead (l : Link) (f : Frame) (s : State) : State := release f.pages (popHold l s)

/-- A head of a kind that is not taken (R28). -/
def badKind (l : Link) (f : Frame) (s : State) : State :=
  dropHead l f (modCounters l (fun c => { c with badKindDrops := bump c.badKindDrops }) s)

/-- A head classified to DROP (R29). -/
def routeDrop (l : Link) (f : Frame) (s : State) : State :=
  dropHead l f (modCounters l (fun c => { c with routeDrops := bump c.routeDrops }) s)

/-- A request joins the management queue; one that finds the queue empty is to be considered (R29, R186). -/
def joinManagement (e : MgmtEntry) (m : Mgmt) : Mgmt :=
  { m with queue := m.queue ++ [e], headWaits := m.headWaits && !m.queue.isEmpty }

/-- A MANAGEMENT head (R29, R32): whether it left, and the state. -/
def handManagement (l : Link) (f : Frame) (s : State) : Bool × State :=
  if s.mgmt.queue.length < 4 then
    let s := popHold l s
    (true, { s with mgmt := joinManagement { link := l, frame := f } s.mgmt })
  else (false, headWaits l .management s)

/-- The frames of a transmit queue. -/
def LinkUnit.queue (u : LinkUnit) : TxQueue → List Frame
  | .urgent => u.urgent
  | .normal => u.normal

/-- The most frames a transmit queue holds (R35). -/
def TxQueue.capacity : TxQueue → Nat
  | .urgent => 8
  | .normal => 24

/-- A frame joins the tail of a transmit queue. -/
def pushQueue (l : Link) (q : TxQueue) (f : Frame) (s : State) : State :=
  match q with
  | .urgent => pushUrgent l f s
  | .normal => pushNormal l f s

/-- A PASS head for a queue and an out channel of the other link (R31, R32): whether it left, and the state. -/
def handPass (l : Link) (q : TxQueue) (out : Channel) (f : Frame) (s : State) : Bool × State :=
  let u := s.link l.other
  if !u.up then
    (true, dropHead l f (modCounters l.other (fun c => { c with downLinkDrops := bump c.downLinkDrops }) s))
  else if (u.queue q).length < q.capacity then (true, pushQueue l.other q { f with channel := out } (popHold l s))
  else (false, headWaits l (.pass q out) s)

/-- The origin of a frame that arrived on a link. -/
def Frame.origin (f : Frame) (l : Link) : Origin := { link := l, channel := f.channel, tag := f.tag }

/-- A DATA head for a motor (R30): the command is handed over, then the frame is released. -/
def handMotor (l : Link) (p : Port) (f : Frame) (s : State) : State :=
  dropHead l f
    (linkMotorCommand p (f.origin l) (commandCode f.payload)
      ((motorCommandOf f.payload).bind MotorCommand.request) s)

/-- A DATA head for a voice (R30): the command is handed over, then the frame is released. -/
def handSound (l : Link) (v : VoiceId) (f : Frame) (s : State) : State :=
  dropHead l f
    (linkSoundCommand v (f.origin l) (commandCode f.payload)
      ((soundCommandOf f.payload).bind SoundCommand.request) s)

/-- A STREAM head for a voice (R30). -/
def handStream (l : Link) (v : VoiceId) (f : Frame) (s : State) : State :=
  if (s.voice v).stream.length < 12 then joinStream v f (popHold l s)
  else dropHead l f (s.setVoice v { s.voice v with overflows := satAdd 65535 (s.voice v).overflows 1 })

/-- The kind passes the screen of R28. -/
def FrameKind.screened : FrameKind → Bool
  | .credit => false
  | .unassigned _ => false
  | _ => true

/-- A head is handed to the destination of a route entry (R28 to R31): whether it left, and the state. -/
def handTo (l : Link) (r : Route) (f : Frame) (s : State) : Bool × State :=
  match r with
  | .drop => (true, routeDrop l f s)
  | .management => if f.kind = .mgmtRequest then handManagement l f s else (true, badKind l f s)
  | .motor p => (true, if f.kind = .data then handMotor l p f s else badKind l f s)
  | .sound v =>
    (true, if f.kind = .data then handSound l v f s else if f.kind = .stream then handStream l v f s else badKind l f s)
  | .pass out => handPass l (if f.isUrgent then .urgent else .normal) out f s

/-- A frame that reaches the head of its hold list is classified (R27): whether it left, and the state. -/
def classify (l : Link) (f : Frame) (s : State) : Bool × State :=
  if f.kind.screened then handTo l (s.route l f.channel) f s else (true, badKind l f s)

/-- The heads of a hold list are classified in turn until one waits or the list is empty (R27). The fuel is the number of
frames on the list. -/
def classifyHeads : Nat → Link → State → State
  | 0, _, s => s
  | fuel + 1, l, s =>
    match (s.link l).hold with
    | [] => s
    | f :: _ =>
      let (left, s) := classify l f s
      if left then classifyHeads fuel l s else s

/-- The frames that follow a head which has left are classified (R27). -/
def classifyRest (l : Link) (s : State) : State := classifyHeads (s.link l).hold.length l s

/-- A frame joins the tail of a hold list; it is classified at once where the list was empty (R25, R27). -/
def joinHold (l : Link) (f : Frame) (s : State) : State :=
  let u := s.link l
  let s := s.setLink l { u with hold := u.hold ++ [f] }
  if u.hold = [] then classifyRest l s else s

/-- The second CRC byte of an accepted frame arrives (R25). -/
def frameArrives (l : Link) (h : Header) (payload : List Byte) (crcLow crcHigh : Byte) (s : State) : State :=
  let s := setReceiver l .hunting s
  if crcHigh ++ crcLow = linkCrc (h.bytes ++ payload) then
    joinHold l (h.frame payload)
      (modCounters l (fun c => { c with framesReceived := bump c.framesReceived }) s)
  else
    release (pagesOf h.length) (modCounters l (fun c => { c with crcErrors := bump c.crcErrors }) s)

/-- RECEIVE_FRAME_END: the payload has the length of the accepted header (R22, R25). -/
def frameEnds (l : Link) (payload : List Byte) (crcLow crcHigh : Byte) (s : State) : State :=
  match (s.link l).receiver with
  | .payload h => if payload.length = h.length then frameArrives l h payload crcLow crcHigh s else s
  | _ => s

/-- A waiting head is handed over again to the destination it keeps (R32). -/
def handWaiting (l : Link) (w : Waiting) (f : Frame) (s : State) : Bool × State :=
  match w with
  | .management => handManagement l f s
  | .pass q out => handPass l q out f s

/-- WAITING_HEAD_HANDOVER (R32): the frames behind a head that leaves are classified in turn. -/
def handOverWaiting (l : Link) (s : State) : State :=
  match (s.link l).waiting, (s.link l).hold with
  | some w, f :: _ =>
    let (left, s) := handWaiting l w f s
    if left then classifyRest l s else s
  | _, _ => s

/-! ## Transmission (R10, R36, R37) -/

/-- The CREDIT frame of a link as its transmitter would start it now (R10). DESIGN CHOICE: its URGENT flag is clear, which R26
states for no CREDIT frame (log entry 32). -/
def LinkUnit.creditFrame (u : LinkUnit) : Frame :=
  { channel := 0, kind := .credit, flags := if u.restart then flagRestart else 0, tag := 0
    payload := [u8 (if u.restart then u.outstanding else u.pendingCredit)] }

/-- What an IDLE transmitter starts (R36). -/
def LinkUnit.starts (u : LinkUnit) : LinkUnit :=
  if 0 < u.pendingCredit then
    { u with
      sending := some { source := .credit, bytes := wireBytes u.creditFrame }, pendingCredit := 0, restart := false }
  else match u.urgent, u.normal with
    | f :: _, _ => { u with sending := some { source := .queue .urgent, bytes := wireBytes f } }
    | [], f :: _ => { u with sending := some { source := .queue .normal, bytes := wireBytes f } }
    | [], [] => u

/-- TRANSMIT_START with the level of CTS (R36). While a HUB_RESET is taken no new frame starts (R192; log entry 8). -/
def transmitStarts (l : Link) (cts : Bool) (s : State) : State :=
  let u := { s.link l with cts := cts }
  if u.up && cts && u.sending.isNone && s.mgmt.resetTaken.isNone then s.setLink l u.starts else s.setLink l u

/-- The head of a transmit queue leaves it. -/
def LinkUnit.popQueue (u : LinkUnit) : TxQueue → LinkUnit
  | .urgent => { u with urgent := u.urgent.tail }
  | .normal => { u with normal := u.normal.tail }

/-- The last byte of a queue's head has been sent (R37). -/
def sentFrom (l : Link) (q : TxQueue) (f : Frame) (s : State) : State :=
  let s := s.setLink l { (s.link l).popQueue q with sending := none }
  release f.pages (modCounters l (fun c => { c with framesTransmitted := bump c.framesTransmitted }) s)

/-- FRAME_TRANSMITTED (R37). -/
def frameSent (l : Link) (s : State) : State :=
  match (s.link l).sending with
  | some { source := .queue q, .. } =>
    match (s.link l).queue q with
    | f :: _ => sentFrom l q f s
    | [] => s
  | _ => s

/-- CREDIT_FRAME_SENT (R37): no page moves and no counter changes. -/
def creditSent (l : Link) (s : State) : State :=
  match (s.link l).sending with
  | some { source := .credit, .. } => s.setLink l { s.link l with sending := none }
  | _ => s

/-! ## Link state (R16, R17, R38, R39) -/

/-- The link unit of a link that goes DOWN: everything it held is discarded; its ceiling, its counters and its CTS input
stay (R16, R38). -/
def LinkUnit.taken (u : LinkUnit) : LinkUnit :=
  { LinkUnit.reset with ceiling := u.ceiling, counters := u.counters, cts := u.cts }

/-- The withdrawal at a link DOWN as one pool operation (R16). DESIGN CHOICE: it is a release of pages for a head of the
management queue that waits, whether the link held frames or only its reservation (log entry 43). -/
def withdrawLink (l : Link) (s : State) : State :=
  let u := s.link l
  let s := s.setLink l u.taken
  writeFree (review l.other (freePages (u.outstanding + u.storedPages) s))

/-- A PASS head that waits for the link which has gone DOWN is released and counted (R32). -/
def releaseWaiting (l : Link) (s : State) : State :=
  match (s.link l).waiting with
  | some (.pass _ _) => handOverWaiting l s
  | _ => s

/-- LINK_DOWN (R38, R111): the discards, the latch, the other link's waiting head, and the motors that watch the link. -/
def linkFalls (l : Link) (s : State) : State :=
  if (s.link l).up then
    let s := setLatch latchLinkChange (withdrawLink l s)
    allPorts.foldl (fun s p => examineLossAt l p s) (releaseWaiting l.other s)
  else s

/-- LINK_UP (R17, R39): the restart marker, the review and the latch. The receiver of a DOWN link stands in HUNTING and its
lists are empty (R16, R22), so that nothing else changes. -/
def linkRises (l : Link) (s : State) : State :=
  if (s.link l).up then s
  else
    setLatch latchLinkChange
      (reviewOperation l (s.setLink l { s.link l with up := true, restart := true }))

end Sys2Proof.Machine
end

