-- ==== Sys2Proof/Machine/Resets.lean ====
section
/-! DEFINITION. The resets: power-on, RESET_N and the re-initialisation of HUB_RESET (R18, R19, R63, R192). -/

namespace Sys2Proof.Machine

/-- Every block re-initialised at hub time `now`, and S3 written with 128 (R18, R87). The commands that wait stay. -/
def reinitialised (now : Time) (waiting : List Instr) : State :=
  writeFree { State.blank now with pending := waiting }

/-- Each port reads its ID band, and one whose band is not 7 enters DETECTING (R63). -/
def detectPorts (bands : PerPort Band) (s : State) : State :=
  allPorts.foldl (fun s p => if bands.get p = 7 then s else enterDetecting p (bands.get p) s) s

/-- A link that is UP after a reset: its restart marker is set (R18, R19, R39). -/
def LinkUnit.afterReset (up cts : Bool) : LinkUnit := { LinkUnit.reset with up := up, cts := cts, restart := up }

/-- The links come out of a reset, and the UP links are reviewed as one pool operation (R18, R19). -/
def bringUp (radio controller : LinkUnit) (s : State) : State :=
  reviewBothOperation { s with links := { radio := radio, controller := controller } }

/-- POWER_ON (R18, R63). -/
def poweredOn (pins : ResetPins) (s : State) : State :=
  bringUp (.afterReset pins.prdy.radio false) (.afterReset pins.prdy.controller false)
    (detectPorts pins.bands (reinitialised 0 s.pending))

/-- RESET_N_ASSERT (R18): every block is re-initialised and stands in reset. -/
def resetAsserted (s : State) : State := { reinitialised 0 s.pending with inReset := true }

/-- RESET_N_RELEASE (R18, R63). -/
def resetReleased (pins : ResetPins) (s : State) : State :=
  if s.inReset then
    let up (l : Link) : LinkUnit := { s.link l with up := pins.prdy.get l, restart := pins.prdy.get l }
    bringUp (up .radio) (up .controller) (detectPorts pins.bands { s with inReset := false })
  else s

/-- The payload of the OK reply to HUB_RESET (R192). -/
def resetReplyPayload : List Byte := replyPayload Request.hubReset.code .ok []

/-- The reply to HUB_RESET is built in one page newly allocated and placed, unless its link is DOWN (R19, R192). -/
def resetReply (o : Origin) (s : State) : State :=
  if (s.link o.link).up then
    writeFree (pushUrgent o.link (replyFrame o resetReplyPayload) { s with free := s.free - 1 })
  else s

/-- Both transmitters are IDLE. -/
def linesIdle (s : State) : Bool := (s.link .radio).sending.isNone && (s.link .controller).sending.isNone

/-- HUB_REINITIALISATION (R19, R192): a HUB_RESET has been taken, and no frame is still on a wire. Hub time, the link
states and the CTS inputs stay. -/
def hubReinitialised (bands : PerPort Band) (s : State) : State :=
  match s.mgmt.resetTaken with
  | some o =>
    if linesIdle s then
      let radio := LinkUnit.afterReset (s.link .radio).up (s.link .radio).cts
      let controller := LinkUnit.afterReset (s.link .controller).up (s.link .controller).cts
      resetReply o (bringUp radio controller (detectPorts bands (reinitialised s.hubTime s.pending)))
    else s
  | none => s

end Sys2Proof.Machine
end

