-- ==== Sys2Proof/Machine/ResetCommands.lean ====
section
/-! DEFINITION. The meanings of the reset commands, and the one way in which every other command runs. -/

namespace Sys2Proof.Machine

/-- A command acts on the hub, and the writes that wait are handed to their observers (R83). While RESET_N holds the hub in
reset nothing else reaches it (R18; log entry 4). -/
def run (f : State → State) (s : State) : Host.Outcome State Fault Refusal :=
  .next (if s.inReset then s else drain (f s))

/-- POWER_ON (R18). -/
def execPowerOn (pins : ResetPins) (s : State) : Host.Outcome State Fault Refusal :=
  .next (drain (poweredOn pins s))

/-- RESET_N_ASSERT (R18). -/
def execResetNAssert (s : State) : Host.Outcome State Fault Refusal :=
  .next (drain (resetAsserted s))

/-- RESET_N_RELEASE (R18). -/
def execResetNRelease (pins : ResetPins) (s : State) : Host.Outcome State Fault Refusal :=
  .next (drain (resetReleased pins s))

/-- HUB_REINITIALISATION (R19, R192). -/
def execHubReinitialisation (bands : PerPort Band) (s : State) : Host.Outcome State Fault Refusal :=
  run (hubReinitialised bands) s

end Sys2Proof.Machine
end

