-- ==== Sys2Proof/Machine/LinkCommands.lean ====
section
/-! DEFINITION. The meanings of the commands of the link units (chapters 01 and 02) and of the pulses of ATTN_N (R195). -/

namespace Sys2Proof.Machine

/-- A pulse ends: the line is high for 100 µs (R195). -/
def Attention.pulseEnds (a : Attention) : Attention := if a.pulse = .low then { a with pulse := .gap } else a

/-- The 100 µs after a pulse end: an owed pulse begins (R195). -/
def Attention.gapEnds (a : Attention) : Attention :=
  if a.pulse = .gap then
    if 0 < a.owed then { a with pulse := .low, owed := a.owed - 1 } else { a with pulse := .quiet }
  else a

/-- A pulse of ATTN_N ends (R195). -/
def pulseEnds (s : State) : State := { s with attention := s.attention.pulseEnds }

/-- The gap after a pulse of ATTN_N ends (R195). -/
def gapEnds (s : State) : State := { s with attention := s.attention.gapEnds }

/-- LINK_DOWN (R38). -/
def execLinkDown (l : Link) (s : State) : Host.Outcome State Fault Refusal :=
  run (linkFalls l) s

/-- LINK_UP (R39). -/
def execLinkUp (l : Link) (s : State) : Host.Outcome State Fault Refusal :=
  run (linkRises l) s

/-- RECEIVE_HEADER (R23, R24). -/
def execReceiveHeader (l : Link) (b1 b2 b3 b4 : Byte) (s : State) : Host.Outcome State Fault Refusal :=
  run (headerArrives l (headerOf b1 b2 b3 b4)) s

/-- SKIP_COUNT_SPENT (R22). -/
def execSkipCountSpent (l : Link) (s : State) : Host.Outcome State Fault Refusal :=
  run (skipEnds l) s

/-- RECEIVE_FRAME_END (R25). -/
def execReceiveFrameEnd (l : Link) (payload : List Byte) (crcLow crcHigh : Byte) (s : State) : Host.Outcome State Fault Refusal :=
  run (frameEnds l payload crcLow crcHigh) s

/-- WAITING_HEAD_HANDOVER (R32). -/
def execWaitingHeadHandover (l : Link) (s : State) : Host.Outcome State Fault Refusal :=
  run (handOverWaiting l) s

/-- TRANSMIT_START (R36). -/
def execTransmitStart (l : Link) (cts : Bool) (s : State) : Host.Outcome State Fault Refusal :=
  run (transmitStarts l cts) s

/-- FRAME_TRANSMITTED (R37). -/
def execFrameTransmitted (l : Link) (s : State) : Host.Outcome State Fault Refusal :=
  run (frameSent l) s

/-- SYNC_BYTE_RECEIVED (R22). -/
def execSyncByteReceived (l : Link) (s : State) : Host.Outcome State Fault Refusal :=
  run (syncArrives l) s

/-- CREDIT_FRAME_SENT (R37). -/
def execCreditFrameSent (l : Link) (s : State) : Host.Outcome State Fault Refusal :=
  run (creditSent l) s

/-- ATTN_PULSE_END (R195). -/
def execAttnPulseEnd (s : State) : Host.Outcome State Fault Refusal :=
  run pulseEnds s

/-- ATTN_PULSE_GAP_END (R195). -/
def execAttnPulseGapEnd (s : State) : Host.Outcome State Fault Refusal :=
  run gapEnds s

end Sys2Proof.Machine
end

