-- ==== Sys2Proof/Machine/MotionCommands.lean ====
section
/-! DEFINITION. The meanings of the commands of the motion unit and the motor loop (chapters 06 and 07). -/

namespace Sys2Proof.Machine

/-- A motor command for the motor of a port, from its origin (R97). -/
def runMotor (p : Port) (o : Origin) (c : MotorCommand) (s : State) : Host.Outcome State Fault Refusal :=
  run (linkMotorCommand p o c.code c.request) s

/-- APPEND (R98). -/
def execAppend (p : Port) (o : Origin) (seg : RawSegment) (s : State) : Host.Outcome State Fault Refusal :=
  runMotor p o (.append seg) s

/-- REPLACE (R99). -/
def execReplace (p : Port) (o : Origin) (seg : RawSegment) (s : State) : Host.Outcome State Fault Refusal :=
  runMotor p o (.replace seg) s

/-- ABORT (R100). -/
def execAbort (p : Port) (o : Origin) (endAction : Byte) (s : State) : Host.Outcome State Fault Refusal :=
  runMotor p o (.abort endAction) s

/-- ZERO (R101). -/
def execZero (p : Port) (o : Origin) (s : State) : Host.Outcome State Fault Refusal :=
  runMotor p o .zero s

/-- ENCODER_STEP (R115). -/
def execEncoderStep (p : Port) (forward : Bool) (s : State) : Host.Outcome State Fault Refusal :=
  run (onMotor p fun m s => s.setMotor p (some (m.encoderStep forward))) s

/-- MOTOR_CONTROL_PERIOD (R114). -/
def execMotorControlPeriod (p : Port) (current : Int) (s : State) : Host.Outcome State Fault Refusal :=
  run (onMotor p (periodFalls p current)) s

/-- SETTLE_TIMEOUT (R106). -/
def execSettleTimeout (p : Port) (s : State) : Host.Outcome State Fault Refusal :=
  run (onMotor p (settleTimedOut p)) s

/-- SEGMENT_DURATION_END (R104). -/
def execSegmentDurationEnd (p : Port) (s : State) : Host.Outcome State Fault Refusal :=
  run (onMotor p (durationEnded p)) s

/-- STALL_DETECTED (R110, R125). -/
def execStallDetected (p : Port) (s : State) : Host.Outcome State Fault Refusal :=
  run (onMotor p (stallDetected p)) s

end Sys2Proof.Machine
end

