-- ==== Sys2Proof/Machine/PortCommands.lean ====
section
/-! DEFINITION. The meanings of the commands of the port manager and the acquisition unit (chapters 03 and 04). -/

namespace Sys2Proof.Machine

/-- ID_BAND_READ (R42, R45). -/
def execIdBandRead (p : Port) (band : Band) (s : State) : Host.Outcome State Fault Refusal :=
  run (readingFalls p band) s

/-- DEBOUNCE_EXPIRY (R45, R46). -/
def execDebounceExpiry (p : Port) (raw : RawSample) (s : State) : Host.Outcome State Fault Refusal :=
  run (debounceExpires p raw) s

/-- BAND_WATCH_EXPIRY (R47). -/
def execBandWatchExpiry (p : Port) (s : State) : Host.Outcome State Fault Refusal :=
  run (bandWatchDue p) s

/-- FAULT_RECOVERY_EXPIRY (R50). -/
def execFaultRecoveryExpiry (p : Port) (band : Band) (s : State) : Host.Outcome State Fault Refusal :=
  run (recoveryDue p band) s

/-- LINE_BREAK_END (R53, R54). -/
def execLineBreakEnd (p : Port) (s : State) : Host.Outcome State Fault Refusal :=
  run (lineBreakEnds p) s

/-- QUERY_RETRY (R54). -/
def execQueryRetry (p : Port) (s : State) : Host.Outcome State Fault Refusal :=
  run (queryAgain p) s

/-- IDENTIFY_TIMEOUT (R54). -/
def execIdentifyTimeout (p : Port) (s : State) : Host.Outcome State Fault Refusal :=
  run (identifyExpires p) s

/-- DESCRIPTION_RECEIVED (R55). -/
def execDescriptionReceived (p : Port) (m : LineReply) (s : State) : Host.Outcome State Fault Refusal :=
  run (onLine p m (descriptionArrives p m)) s

/-- CONFIGURE_ACCEPT (R57). -/
def execConfigureAccept (p : Port) (m : LineReply) (s : State) : Host.Outcome State Fault Refusal :=
  run (onLine p m (configureAccepted p m)) s

/-- CONFIGURE_TIMEOUT (R57). -/
def execConfigureTimeout (p : Port) (s : State) : Host.Outcome State Fault Refusal :=
  run (configureExpires p) s

/-- SELECT_DEFERRED_SEND (R58). -/
def execSelectDeferredSend (p : Port) (s : State) : Host.Outcome State Fault Refusal :=
  run (deferredSelect p) s

/-- SELECT_ACCEPT (R59). -/
def execSelectAccept (p : Port) (m : LineReply) (s : State) : Host.Outcome State Fault Refusal :=
  run (onLine p m (selectAccepted p m)) s

/-- SELECT_TIMEOUT (R59). -/
def execSelectTimeout (p : Port) (s : State) : Host.Outcome State Fault Refusal :=
  run (selectExpires p) s

/-- ANALOG_SAMPLE (R66). -/
def execAnalogSample (p : Port) (raw : RawSample) (s : State) : Host.Outcome State Fault Refusal :=
  run (analogDue p raw) s

/-- POLL_DUE (R69). -/
def execPollDue (p : Port) (s : State) : Host.Outcome State Fault Refusal :=
  run (pollDueNow p) s

/-- SAMPLE_RECEIVED (R70, R71). -/
def execSampleReceived (p : Port) (m : LineReply) (s : State) : Host.Outcome State Fault Refusal :=
  run (onLine p m (sampleArrives p m)) s

/-- HOLD_RECEIVED (R70). -/
def execHoldReceived (p : Port) (m : LineReply) (s : State) : Host.Outcome State Fault Refusal :=
  run (onLine p m (holdArrives p m)) s

/-- PORT_LINE_MESSAGE_REJECTED (R52, R70). -/
def execPortLineMessageRejected (p : Port) (kind : Byte) (m : LineReply) (s : State) : Host.Outcome State Fault Refusal :=
  run (onLine p m (strayArrives p kind m)) s

/-- POLL_WINDOW_CLOSE (R70). -/
def execPollWindowClose (p : Port) (s : State) : Host.Outcome State Fault Refusal :=
  run (pollWindowCloses p) s

/-- SAMPLE_WATCHDOG_EXPIRY (R73). -/
def execSampleWatchdogExpiry (p : Port) (s : State) : Host.Outcome State Fault Refusal :=
  run (watchdogExpires p) s

end Sys2Proof.Machine
end

