-- ==== Sys2Proof/Machine/RequestCommands.lean ====
section
/-! DEFINITION. The meanings of the management requests (chapter 12). -/

namespace Sys2Proof.Machine

/-- A request that needs no reading of a pin is taken (R186, R187). -/
def runRequest (o : Origin) (q : Request) (s : State) : Host.Outcome State Fault Refusal :=
  run (directRequest o q 7 0) s

/-- MGMT_HEAD_CONSIDERATION (R186). -/
def execMgmtHeadConsideration (band : Band) (raw : RawSample) (s : State) : Host.Outcome State Fault Refusal :=
  run (considerHead band raw) s

/-- IDENTIFY (R188). -/
def execIdentify (o : Origin) (s : State) : Host.Outcome State Fault Refusal :=
  runRequest o .identify s

/-- LOAD_ROUTE (R33). -/
def execLoadRoute (o : Origin) (index : Byte) (record : List Byte) (s : State) : Host.Outcome State Fault Refusal :=
  runRequest o (.load 0 index record) s

/-- LOAD_MOTOR_CLASS (R93). -/
def execLoadMotorClass (o : Origin) (index : Byte) (record : List Byte) (s : State) : Host.Outcome State Fault Refusal :=
  runRequest o (.load 1 index record) s

/-- LOAD_MOTOR_SETTINGS (R94). -/
def execLoadMotorSettings (o : Origin) (index : Byte) (record : List Byte) (s : State) : Host.Outcome State Fault Refusal :=
  runRequest o (.load 2 index record) s

/-- LOAD_PORT_SETTINGS (R44, R80). -/
def execLoadPortSettings (o : Origin) (index : Byte) (record : List Byte) (s : State) : Host.Outcome State Fault Refusal :=
  runRequest o (.load 3 index record) s

/-- LOAD_CALIBRATION (R79). -/
def execLoadCalibration (o : Origin) (index : Byte) (record : List Byte) (s : State) : Host.Outcome State Fault Refusal :=
  runRequest o (.load 4 index record) s

/-- LOAD_WAVETABLE (R136). -/
def execLoadWavetable (o : Origin) (index : Byte) (record : List Byte) (s : State) : Host.Outcome State Fault Refusal :=
  runRequest o (.load 5 index record) s

/-- LOAD_ENVELOPE (R137). -/
def execLoadEnvelope (o : Origin) (index : Byte) (record : List Byte) (s : State) : Host.Outcome State Fault Refusal :=
  runRequest o (.load 6 index record) s

/-- LOAD_REFLEX (R175). -/
def execLoadReflex (o : Origin) (index : Byte) (record : List Byte) (s : State) : Host.Outcome State Fault Refusal :=
  runRequest o (.load 7 index record) s

/-- LOAD_SUBSCRIPTION (R178). -/
def execLoadSubscription (o : Origin) (index : Byte) (record : List Byte) (s : State) : Host.Outcome State Fault Refusal :=
  runRequest o (.load 8 index record) s

/-- LOAD_SUPPLY_SETTINGS (R130). -/
def execLoadSupplySettings (o : Origin) (index : Byte) (record : List Byte) (s : State) : Host.Outcome State Fault Refusal :=
  runRequest o (.load 9 index record) s

/-- LOAD_SOUND_SETTINGS (R138). -/
def execLoadSoundSettings (o : Origin) (index : Byte) (record : List Byte) (s : State) : Host.Outcome State Fault Refusal :=
  runRequest o (.load 10 index record) s

/-- LOAD_LINK_SETTINGS (R5). -/
def execLoadLinkSettings (o : Origin) (index : Byte) (record : List Byte) (s : State) : Host.Outcome State Fault Refusal :=
  runRequest o (.load 11 index record) s

/-- LOAD_EVENT_ROUTES (R135). -/
def execLoadEventRoutes (o : Origin) (index : Byte) (record : List Byte) (s : State) : Host.Outcome State Fault Refusal :=
  runRequest o (.load 12 index record) s

/-- READ (R189). -/
def execRead (o : Origin) (table index : Byte) (s : State) : Host.Outcome State Fault Refusal :=
  runRequest o (.read table index) s

/-- READ_VOICE (R163). -/
def execReadVoice (o : Origin) (index : Byte) (s : State) : Host.Outcome State Fault Refusal :=
  runRequest o (.read 15 index) s

/-- READ_MIXER (R163). -/
def execReadMixer (o : Origin) (index : Byte) (s : State) : Host.Outcome State Fault Refusal :=
  runRequest o (.read 16 index) s

/-- PORT_RESET (R62). -/
def execPortReset (o : Origin) (port : Byte) (band : Band) (s : State) : Host.Outcome State Fault Refusal :=
  run (directRequest o (.portControl port 0 0) band 0) s

/-- PORT_SUSPEND (R60). -/
def execPortSuspend (o : Origin) (port : Byte) (s : State) : Host.Outcome State Fault Refusal :=
  runRequest o (.portControl port 1 0) s

/-- PORT_RESUME (R61). -/
def execPortResume (o : Origin) (port : Byte) (raw : RawSample) (s : State) : Host.Outcome State Fault Refusal :=
  run (directRequest o (.portControl port 2 0) 7 raw) s

/-- SELECT_MODE (R58). -/
def execSelectMode (o : Origin) (port mode : Byte) (s : State) : Host.Outcome State Fault Refusal :=
  runRequest o (.portControl port 3 mode) s

/-- MOTOR_UNLOCK (R110). -/
def execMotorUnlock (o : Origin) (port : Byte) (s : State) : Host.Outcome State Fault Refusal :=
  runRequest o (.motorUnlock port) s

/-- REFLEX_ARM (R176). -/
def execReflexArm (o : Origin) (index : Byte) (s : State) : Host.Outcome State Fault Refusal :=
  runRequest o (.reflexArm index) s

/-- READ_FLAGS (R92). -/
def execReadFlags (o : Origin) (port : Byte) (s : State) : Host.Outcome State Fault Refusal :=
  runRequest o (.readFlags port) s

/-- READ_ATTENTION (R191). -/
def execReadAttention (o : Origin) (s : State) : Host.Outcome State Fault Refusal :=
  runRequest o .readAttention s

/-- SET_ATTENTION (R193). -/
def execSetAttention (o : Origin) (mask : BitVec 16) (mode : Byte) (s : State) : Host.Outcome State Fault Refusal :=
  runRequest o (.setAttention mask mode) s

/-- READ_COUNTERS (R40, R191). -/
def execReadCounters (o : Origin) (link : Byte) (s : State) : Host.Outcome State Fault Refusal :=
  runRequest o (.readCounters link) s

/-- SET_FLAG_MASK (R91). -/
def execSetFlagMask (o : Origin) (port mask : Byte) (s : State) : Host.Outcome State Fault Refusal :=
  runRequest o (.setFlagMask port mask) s

/-- HUB_RESET (R192): the request is taken, and its re-initialisation follows. -/
def execHubReset (o : Origin) (s : State) : Host.Outcome State Fault Refusal :=
  runRequest o .hubReset s

end Sys2Proof.Machine
end

