-- ==== Sys2Proof/Machine/SoundCommands.lean ====
section
/-! DEFINITION. The meanings of the commands of the voices, the mixer and the amplifier (chapter 09). -/

namespace Sys2Proof.Machine

/-- A sound command for a voice, from its origin (R141). -/
def runSound (v : VoiceId) (o : Origin) (c : SoundCommand) (s : State) : Host.Outcome State Fault Refusal :=
  run (linkSoundCommand v o c.code c.request) s

/-- A voice in WAITING_AMP enters PLAYING as the amplifier enters ON (R142, R159). -/
def leaveWaiting (s : State) (v : VoiceId) : State :=
  if (s.voice v).state = .waitingAmp then s.setVoice v ((s.voice v).enterPlaying s.envelopes s.hubTime) else s

/-- The warm-up timer reaches 20 ms (R159). -/
def warmupEnds (s : State) : State :=
  match s.amp with
  | .warming start =>
    if 20 ≤ elapsedSince s.hubTime start then startIdleTimer (allVoices.foldl leaveWaiting { s with amp := .on }) else s
  | _ => s

/-- The idle timer reaches the idle-off time (R160). -/
def idleEnds (s : State) : State :=
  if s.amp = .on && timerReached s.hubTime s.idleTimer s.sound.idleOff then ampOff s else s

/-- The step of the envelope that is due is the one whose number equals the duration of the current note (R153; log entry
5). -/
def durationDue (v : VoiceId) (s : State) : State :=
  let r := s.voice v
  let k := satAdd 65535 r.elapsed 1
  match r.state, r.notes with
  | .playing, n :: _ =>
    if n.kind ≠ .stream && k = n.duration && reached s.hubTime r.nextStep then reachDuration v k s else s
  | _, _ => s

/-- A voice has been STARVED for 500 ms (R157). -/
def starvedEnds (v : VoiceId) (s : State) : State :=
  let r := s.voice v
  if r.state = .starved && 500 ≤ elapsedSince s.hubTime r.starvedSince then endNote v .starved s else s

/-- QUEUE (R143). -/
def execQueue (v : VoiceId) (o : Origin) (note : RawNote) (s : State) : Host.Outcome State Fault Refusal :=
  runSound v o (.queue note) s

/-- PLAY (R144). -/
def execPlay (v : VoiceId) (o : Origin) (note : RawNote) (s : State) : Host.Outcome State Fault Refusal :=
  runSound v o (.play note) s

/-- STOP_RELEASE (R145). -/
def execStopRelease (v : VoiceId) (o : Origin) (s : State) : Host.Outcome State Fault Refusal :=
  runSound v o .stopRelease s

/-- STOP_CUT (R146). -/
def execStopCut (v : VoiceId) (o : Origin) (s : State) : Host.Outcome State Fault Refusal :=
  runSound v o .stopCut s

/-- SET_GAIN (R147). -/
def execSetGain (v : VoiceId) (o : Origin) (gain : BitVec 16) (s : State) : Host.Outcome State Fault Refusal :=
  runSound v o (.setGain gain) s

/-- SET_LOOP (R148). -/
def execSetLoop (v : VoiceId) (o : Origin) (mode : Byte) (s : State) : Host.Outcome State Fault Refusal :=
  runSound v o (.setLoop mode) s

/-- AMP_WARMUP_COMPLETE (R159). -/
def execAmpWarmupComplete (s : State) : Host.Outcome State Fault Refusal :=
  run warmupEnds s

/-- AMP_IDLE_OFF (R160). -/
def execAmpIdleOff (s : State) : Host.Outcome State Fault Refusal :=
  run idleEnds s

/-- ENVELOPE_STEP (R152, R153). -/
def execEnvelopeStep (v : VoiceId) (s : State) : Host.Outcome State Fault Refusal :=
  run (stepFalls v) s

/-- NOTE_DURATION_END (R153). -/
def execNoteDurationEnd (v : VoiceId) (s : State) : Host.Outcome State Fault Refusal :=
  run (durationDue v) s

/-- OUTPUT_SAMPLE (R158). -/
def execOutputSample (s : State) : Host.Outcome State Fault Refusal :=
  run outputSampleAll s

/-- STARVED_TIMEOUT (R157). -/
def execStarvedTimeout (v : VoiceId) (s : State) : Host.Outcome State Fault Refusal :=
  run (starvedEnds v) s

end Sys2Proof.Machine
end

