-- ==== Sys2Proof/Machine/SubscriptionCommands.lean ====
section
/-! DEFINITION. The meanings of the commands of the subscription unit (chapter 11). -/

namespace Sys2Proof.Machine

/-- A period expiry of a subscription is reached (R180). -/
def periodExpires (i : Fin 24) (s : State) : State :=
  let b := s.sub i
  match b.nextExpiry with
  | some t =>
    if b.active && b.mode ≠ .change && reached s.hubTime t then
      emissionAttempt i (s.cell b.cell)
        (s.setSub i { b with pending := true, nextExpiry := some (t + BitVec.ofNat 32 b.period) })
    else s
  | none => s

/-- An interval end at which a subscription is due an attempt (R181). -/
def intervalEnds (i : Fin 24) (s : State) : State :=
  let b := s.sub i
  if b.attemptDue && b.intervalPassed s.hubTime then
    emissionAttempt i (s.cell b.cell) (s.setSub i { b with attemptDue := false })
  else s

/-- SUBSCRIPTION_PERIOD_EXPIRY (R180). -/
def execSubscriptionPeriodExpiry (i : Fin 24) (s : State) : Host.Outcome State Fault Refusal :=
  run (periodExpires i) s

/-- SUBSCRIPTION_INTERVAL_END (R181). -/
def execSubscriptionIntervalEnd (i : Fin 24) (s : State) : Host.Outcome State Fault Refusal :=
  run (intervalEnds i) s

end Sys2Proof.Machine
end

