-- ==== Sys2Proof/Machine/SupplyCommands.lean ====
section
/-! DEFINITION. The meanings of the commands of the supply monitor (chapter 08). -/

namespace Sys2Proof.Machine

/-- A measurement is taken each time the next-measurement time is reached (R129). -/
def measurementDue (voltage current : Nat) (s : State) : State :=
  if reached s.hubTime s.supply.nextMeasurement then takeMeasurement voltage current s else s

/-- The supply falls from NORMAL to LOW (08 8.4). -/
def SupplyState.fallsToLow (old new : SupplyState) : Bool := old = .normal && new = .low

/-- The supply falls to CRITICAL (08 8.4). -/
def SupplyState.fallsToCritical (_old new : SupplyState) : Bool := new = .critical

/-- The supply rises from CRITICAL to LOW or from LOW to NORMAL (08 8.4). -/
def SupplyState.rises (old new : SupplyState) : Bool := (old = .critical && new = .low) || (old = .low && new = .normal)

/-- SUPPLY_MEASUREMENT (R129). -/
def execSupplyMeasurement (voltage : Fin 12001) (current : Fin 20001) (s : State) : Host.Outcome State Fault Refusal :=
  run (measurementDue voltage.val current.val) s

/-- SUPPLY_FALL_TO_LOW (R131), also with no measurement due (DESIGN CHOICE, log entry 47). -/
def execSupplyFallToLow (s : State) : Host.Outcome State Fault Refusal :=
  run (supplyChangeDue SupplyState.fallsToLow) s

/-- SUPPLY_FALL_TO_CRITICAL (R131), also with no measurement due (DESIGN CHOICE, log entry 47). -/
def execSupplyFallToCritical (s : State) : Host.Outcome State Fault Refusal :=
  run (supplyChangeDue SupplyState.fallsToCritical) s

/-- SUPPLY_RISE (R131), also with no measurement due (DESIGN CHOICE, log entry 47). -/
def execSupplyRise (s : State) : Host.Outcome State Fault Refusal :=
  run (supplyChangeDue SupplyState.rises) s

end Sys2Proof.Machine
end

