-- ==== Sys2Proof/Machine/Dispatch.lean ====
section
/-! DEFINITION. The dispatch: one arm for each command, a direct call of its meaning. -/

namespace Sys2Proof.Machine

def exec (i : Instr) (s : State) : Host.Outcome State Fault Refusal :=
  match i with
  | .powerOn pins => Sys2Proof.Machine.execPowerOn pins s
  | .resetNAssert => Sys2Proof.Machine.execResetNAssert s
  | .resetNRelease pins => Sys2Proof.Machine.execResetNRelease pins s
  | .linkDown l => Sys2Proof.Machine.execLinkDown l s
  | .linkUp l => Sys2Proof.Machine.execLinkUp l s
  | .receiveHeader l b1 b2 b3 b4 => Sys2Proof.Machine.execReceiveHeader l b1 b2 b3 b4 s
  | .skipCountSpent l => Sys2Proof.Machine.execSkipCountSpent l s
  | .receiveFrameEnd l payload crcLow crcHigh => Sys2Proof.Machine.execReceiveFrameEnd l payload crcLow crcHigh s
  | .waitingHeadHandover l => Sys2Proof.Machine.execWaitingHeadHandover l s
  | .transmitStart l cts => Sys2Proof.Machine.execTransmitStart l cts s
  | .frameTransmitted l => Sys2Proof.Machine.execFrameTransmitted l s
  | .attnPulseEnd => Sys2Proof.Machine.execAttnPulseEnd s
  | .attnPulseGapEnd => Sys2Proof.Machine.execAttnPulseGapEnd s
  | .mgmtHeadConsideration band raw => Sys2Proof.Machine.execMgmtHeadConsideration band raw s
  | .identify o => Sys2Proof.Machine.execIdentify o s
  | .loadRoute o index record => Sys2Proof.Machine.execLoadRoute o index record s
  | .loadMotorClass o index record => Sys2Proof.Machine.execLoadMotorClass o index record s
  | .loadMotorSettings o index record => Sys2Proof.Machine.execLoadMotorSettings o index record s
  | .loadPortSettings o index record => Sys2Proof.Machine.execLoadPortSettings o index record s
  | .loadCalibration o index record => Sys2Proof.Machine.execLoadCalibration o index record s
  | .loadWavetable o index record => Sys2Proof.Machine.execLoadWavetable o index record s
  | .loadEnvelope o index record => Sys2Proof.Machine.execLoadEnvelope o index record s
  | .loadReflex o index record => Sys2Proof.Machine.execLoadReflex o index record s
  | .loadSubscription o index record => Sys2Proof.Machine.execLoadSubscription o index record s
  | .loadSupplySettings o index record => Sys2Proof.Machine.execLoadSupplySettings o index record s
  | .loadSoundSettings o index record => Sys2Proof.Machine.execLoadSoundSettings o index record s
  | .loadLinkSettings o index record => Sys2Proof.Machine.execLoadLinkSettings o index record s
  | .loadEventRoutes o index record => Sys2Proof.Machine.execLoadEventRoutes o index record s
  | .read o table index => Sys2Proof.Machine.execRead o table index s
  | .readVoice o index => Sys2Proof.Machine.execReadVoice o index s
  | .readMixer o index => Sys2Proof.Machine.execReadMixer o index s
  | .portReset o port band => Sys2Proof.Machine.execPortReset o port band s
  | .portSuspend o port => Sys2Proof.Machine.execPortSuspend o port s
  | .portResume o port raw => Sys2Proof.Machine.execPortResume o port raw s
  | .selectMode o port mode => Sys2Proof.Machine.execSelectMode o port mode s
  | .motorUnlock o port => Sys2Proof.Machine.execMotorUnlock o port s
  | .reflexArm o index => Sys2Proof.Machine.execReflexArm o index s
  | .readFlags o port => Sys2Proof.Machine.execReadFlags o port s
  | .readAttention o => Sys2Proof.Machine.execReadAttention o s
  | .setAttention o mask mode => Sys2Proof.Machine.execSetAttention o mask mode s
  | .readCounters o link => Sys2Proof.Machine.execReadCounters o link s
  | .setFlagMask o port mask => Sys2Proof.Machine.execSetFlagMask o port mask s
  | .hubReset o => Sys2Proof.Machine.execHubReset o s
  | .hubReinitialisation bands => Sys2Proof.Machine.execHubReinitialisation bands s
  | .idBandRead p band => Sys2Proof.Machine.execIdBandRead p band s
  | .debounceExpiry p raw => Sys2Proof.Machine.execDebounceExpiry p raw s
  | .bandWatchExpiry p => Sys2Proof.Machine.execBandWatchExpiry p s
  | .faultRecoveryExpiry p band => Sys2Proof.Machine.execFaultRecoveryExpiry p band s
  | .lineBreakEnd p => Sys2Proof.Machine.execLineBreakEnd p s
  | .queryRetry p => Sys2Proof.Machine.execQueryRetry p s
  | .identifyTimeout p => Sys2Proof.Machine.execIdentifyTimeout p s
  | .descriptionReceived p m => Sys2Proof.Machine.execDescriptionReceived p m s
  | .configureAccept p m => Sys2Proof.Machine.execConfigureAccept p m s
  | .configureTimeout p => Sys2Proof.Machine.execConfigureTimeout p s
  | .selectDeferredSend p => Sys2Proof.Machine.execSelectDeferredSend p s
  | .selectAccept p m => Sys2Proof.Machine.execSelectAccept p m s
  | .selectTimeout p => Sys2Proof.Machine.execSelectTimeout p s
  | .analogSample p raw => Sys2Proof.Machine.execAnalogSample p raw s
  | .pollDue p => Sys2Proof.Machine.execPollDue p s
  | .sampleReceived p m => Sys2Proof.Machine.execSampleReceived p m s
  | .holdReceived p m => Sys2Proof.Machine.execHoldReceived p m s
  | .portLineMessageRejected p kind m => Sys2Proof.Machine.execPortLineMessageRejected p kind m s
  | .pollWindowClose p => Sys2Proof.Machine.execPollWindowClose p s
  | .sampleWatchdogExpiry p => Sys2Proof.Machine.execSampleWatchdogExpiry p s
  | .subscriptionPeriodExpiry n => Sys2Proof.Machine.execSubscriptionPeriodExpiry n s
  | .subscriptionIntervalEnd n => Sys2Proof.Machine.execSubscriptionIntervalEnd n s
  | .append p o seg => Sys2Proof.Machine.execAppend p o seg s
  | .replace p o seg => Sys2Proof.Machine.execReplace p o seg s
  | .abort p o endAction => Sys2Proof.Machine.execAbort p o endAction s
  | .zero p o => Sys2Proof.Machine.execZero p o s
  | .encoderStep p forward => Sys2Proof.Machine.execEncoderStep p forward s
  | .motorControlPeriod p current => Sys2Proof.Machine.execMotorControlPeriod p current s
  | .settleTimeout p => Sys2Proof.Machine.execSettleTimeout p s
  | .segmentDurationEnd p => Sys2Proof.Machine.execSegmentDurationEnd p s
  | .stallDetected p => Sys2Proof.Machine.execStallDetected p s
  | .supplyMeasurement voltage current => Sys2Proof.Machine.execSupplyMeasurement voltage current s
  | .supplyFallToLow => Sys2Proof.Machine.execSupplyFallToLow s
  | .supplyFallToCritical => Sys2Proof.Machine.execSupplyFallToCritical s
  | .supplyRise => Sys2Proof.Machine.execSupplyRise s
  | .queue v o note => Sys2Proof.Machine.execQueue v o note s
  | .play v o note => Sys2Proof.Machine.execPlay v o note s
  | .stopRelease v o => Sys2Proof.Machine.execStopRelease v o s
  | .stopCut v o => Sys2Proof.Machine.execStopCut v o s
  | .setGain v o gain => Sys2Proof.Machine.execSetGain v o gain s
  | .setLoop v o mode => Sys2Proof.Machine.execSetLoop v o mode s
  | .ampWarmupComplete => Sys2Proof.Machine.execAmpWarmupComplete s
  | .ampIdleOff => Sys2Proof.Machine.execAmpIdleOff s
  | .envelopeStep v => Sys2Proof.Machine.execEnvelopeStep v s
  | .noteDurationEnd v => Sys2Proof.Machine.execNoteDurationEnd v s
  | .outputSample => Sys2Proof.Machine.execOutputSample s
  | .starvedTimeout v => Sys2Proof.Machine.execStarvedTimeout v s
  | .syncByteReceived l => Sys2Proof.Machine.execSyncByteReceived l s
  | .creditFrameSent l => Sys2Proof.Machine.execCreditFrameSent l s

end Sys2Proof.Machine
end

