-- ==== Sys2Proof/Machine/Step.lean ====
section
/-! DEFINITION. The step of the hub: the command at the front of the queue, and the tick of the hub clock when none
waits. -/

namespace Sys2Proof.Machine

/-- The hub clock counts one millisecond; it stands while RESET_N is asserted (00_scope 4.5, 5; log entries 1 and 4). -/
def tick (s : State) : State := if s.inReset then s else { s with hubTime := s.hubTime + 1 }

/-- One step: the front command acts with the queue's rest; with no command the hub clock ticks (log entry 1). -/
def step (s : State) : Host.Outcome State Fault Refusal :=
  match s.pending with
  | c :: rest => exec c { s with pending := rest }
  | [] => .next (tick s)

/-- `s` with the command that a table word spells at the front of its queue; `s` itself where it spells none. -/
def State.withFetchWord (s : State) (nbits w : Nat) : State :=
  match decodeTableWord nbits w with
  | some c => { s with pending := c :: s.pending }
  | none => s

end Sys2Proof.Machine
end

