-- ==== Sys2Proof/Safety.lean ====
section
/-! DEFINITION. What the spec promises of every state of the hub, in the terms that the statements use: the invariants of
the pool, the links, the queues, the port lines, the motors, the voices and the amplifier; the states in which no observer
stands on a cell; and the plain pictures of a hub after a reset, a pool operation, a notice or an event, a reply, a detach and
the end of a motor's queue. -/

namespace Sys2Proof

/-- A function of each of four values. -/
def Quad.map {α β : Type} (f : α → β) (x : Quad α) : Quad β := { q0 := f x.q0, q1 := f x.q1, q2 := f x.q2, q3 := f x.q3 }

/-- A function of each port's value. -/
def PerPort.map {α β : Type} (f : α → β) (x : PerPort α) : PerPort β :=
  { a := f x.a, b := f x.b, c := f x.c, d := f x.d, e := f x.e, f := f x.f }

namespace Machine

/-! ## The pool (R3, R4) -/

/-- Free, both reservations and the pages of all stored frames add to 128 (R3). -/
abbrev State.conserved (s : State) : Prop := s.poolTotal = 128

/-- S3 holds free, tagged VALID, with writer POOL (R4). -/
abbrev State.freeShown (s : State) : Prop :=
  (s.cell (.sys 3)).value = s.free ∧ (s.cell (.sys 3)).tag = .valid ∧ (s.cell (.sys 3)).writer = .pool

/-! ## Links (R5, R6, R16, R18) -/

/-- A link unit keeps its credit under its ceiling and its pending amount within a byte, and a DOWN link holds no credit and no
frame (R5, R6, R10, R16). -/
abbrev LinkUnit.sound (u : LinkUnit) : Prop :=
  u.outstanding ≤ u.ceiling ∧ 8 ≤ u.ceiling ∧ u.ceiling ≤ 48 ∧ u.pendingCredit ≤ 255 ∧
    (u.up = false →
      u.outstanding = 0 ∧ u.pendingCredit = 0 ∧ u.restart = false ∧ u.receiver = .hunting ∧ u.hold = [] ∧ u.urgent = []
        ∧ u.normal = [] ∧ u.sending = none)

/-- Both link units are sound, their ceilings sum to at most 96 (R5), and both are DOWN while RESET_N is asserted
(R18). -/
abbrev State.linksSound (s : State) : Prop :=
  (s.link .radio).sound ∧ (s.link .controller).sound ∧ (s.link .radio).ceiling + (s.link .controller).ceiling ≤ 96 ∧
    (s.inReset = true → (s.link .radio).up = false ∧ (s.link .controller).up = false)

/-! ## Queues (R29, R30, R35, R95, R140) -/

/-- The queues of a link hold at most 8 urgent and 24 normal frames (R35). -/
abbrev LinkUnit.bounded (u : LinkUnit) : Prop := u.urgent.length ≤ 8 ∧ u.normal.length ≤ 24

/-- Every queue holds at most what its rule allows: 4 requests, 8 urgent and 24 normal frames, 8 notes, 12 stream frames and
4 segments (R29, R30, R35, R95, R140). -/
abbrev State.bounded (s : State) : Prop :=
  s.mgmt.queue.length ≤ 4 ∧ (s.link .radio).bounded ∧ (s.link .controller).bounded ∧
    (∀ v : VoiceId, (s.voice v).notes.length ≤ 8 ∧ (s.voice v).stream.length ≤ 12) ∧
    ∀ (p : Port) (m : Motor), s.motor p = some m → m.queue.length ≤ 4

/-! ## Port lines (R52, R64, R65) -/

/-- A port line carries at most one exchange (R52): while a response window of the port is open, no POLL window is. A POLL window
is open only while the acquisition unit polls the port, and it polls an ACTIVE port alone (R64, R65, R69). -/
abbrev State.linesSound (s : State) : Prop :=
  ∀ p : Port,
    ((s.port p).window ≠ none → (s.acquisition p).pollWindow = none) ∧
      ((s.acquisition p).pollWindow ≠ none → (s.acquisition p).schedule = .poll) ∧
      ((s.acquisition p).schedule = .poll → (s.port p).state = .active)

/-! ## Motors (R95, R110, R122, R124) -/

/-- The table of R95: what each motion state says of the queue and the output, and what the bridge shows of the output
(R124): a bridge drives only while the output is DRIVEN, and otherwise stands at the output with no duty. -/
abbrev Motor.consistent (m : Motor) : Prop :=
  (m.executing = true ↔ m.queue ≠ []) ∧
    (m.output = .driven ↔ (m.executing = true ∨ m.state = .holding)) ∧
    (m.state = .stalled → m.output = .coast) ∧
    (m.state = .locked → m.output = .brake) ∧
    (m.output ≠ .driven → m.bridge = m.output ∧ m.duty = 0)

/-- Every attached motor keeps `Motor.consistent`. -/
abbrev State.motorsConsistent (s : State) : Prop := ∀ (p : Port) (m : Motor), s.motor p = some m → m.consistent

/-- The duty cap of a supply state (R133). -/
def capOf : SupplyState → Nat
  | .normal => 10000
  | .low => 7000
  | .critical => 0

/-- No applied duty exceeds the supply cap in magnitude (R122). -/
abbrev State.dutyCapped (s : State) : Prop :=
  ∀ (p : Port) (m : Motor), s.motor p = some m → m.duty.natAbs ≤ capOf s.supply.state

/-- A motor that sends no notice: it has no notice route, and none of its segments has one. -/
abbrev Motor.silent (m : Motor) : Prop := m.settings.noticeRoute = none ∧ ∀ g ∈ m.queue, g.route = none

/-- The port's motor, where it has one, sends no notice. -/
abbrev State.silentPort (s : State) (p : Port) : Prop := (s.motor p).all (fun m => decide m.silent) = true

/-- A motor with an empty queue, an output of COAST or BRAKE and a state: its bridge takes the output and its duty is 0
(R108, R124). -/
def Motor.stoppedIn (m : Motor) (st : MotionState) (o : MotorOutput) : Motor :=
  { m with state := st, output := o, bridge := o, duty := 0, queue := [], target := none }

/-- The start of a segment `g` at the head of a queue (R102, R105): the motor runs with the given speed, remainder, setpoint and
integral, its counts of periods at 0, and its target where the segment has one. -/
def Motor.starting (m : Motor) (queue : List Segment) (g : Segment) (v : Int) (acc : Nat) (p integral : Int) : Motor :=
  { m with
    queue := queue, state := .running, output := .driven, v := v, acc := acc, p := p, integral := integral
    periodsRun := 0, settlePeriods := 0
    target := match g.kind with
      | .runTo => some g.position
      | .runBy => some (clampInt (-2000000000) 2000000000 ((p + 500).fdiv 1000 + g.position))
      | _ => none }

/-- A measured start (R102): from the motor's own position and speed. -/
def Motor.startingMeasured (m : Motor) (rated : Int) (g : Segment) : Motor :=
  m.starting [g] g (clampInt (-rated) rated m.speed) 0 (1000 * m.x) 0

/-- A continuous start (R102): the speed, the setpoint and the integral go on. -/
def Motor.startingContinuous (m : Motor) (rated : Int) (queue : List Segment) (g : Segment) : Motor :=
  m.starting queue g (clampInt (-rated) rated m.v) m.acc m.p m.integral

/-- A motor whose last segment ended with an end action and an acceleration (R107). -/
def Motor.endedWith (m : Motor) (a : EndAction) (accel : Nat) : Motor :=
  match a with
  | .coast => m.stoppedIn .idle .coast
  | .brake => m.stoppedIn .idle .brake
  | .hold => { m with queue := [], state := .holding, output := .driven, holdAccel := accel, target := none }

/-- The motor after the measurement of its control period (R114 to R116): the next period falls 1 ms later. -/
def Motor.periodMeasured (m : Motor) : Motor :=
  let x := m.encoder - m.offset
  { m with
    nextPeriod := m.nextPeriod + 1, x := x, speed := (x - m.ring.headD 0) * 50, ring := m.ring.tail ++ [x]
    discardNoted := false
    limitSet := if m.discardNoted then true else if x.natAbs < 2147000000 then false else m.limitSet }

/-- The foldback limit after a period in which `current` was sensed (R121). -/
def Motor.foldedBy (m : Motor) (current : Int) : Nat :=
  if m.settings.currentLimit < current.natAbs then max (m.foldback - 500) 1000 else min (m.foldback + 100) 10000

/-- The demanded duty `d` with supply compensation (R120): by the nominal voltage over S0, or by 1 while S0 is EMPTY. -/
def Motor.compensates (m : Motor) (s : State) (d : Int) : Int :=
  let volts : Int := if (s.cell (.sys 0)).tag = .empty then s.supply.settings.nominal
    else clampInt 4800 9000 (s.cell (.sys 0)).value
  if m.settings.compensation then (d * s.supply.settings.nominal).tdiv volts else d

/-- A measured and profiled motor of a hub `s` that drives at the demand `comp` for the rest of its period (R121, R122, R124,
R125): foldback, the limited duty, and one more stalled period where the demand is high and the shaft stands. -/
def Motor.drives (m : Motor) (s : State) (current comp : Int) : Motor :=
  let limit : Int := (min (min m.settings.dutyMax (m.foldedBy current)) (capOf s.supply.state) : Nat)
  { m with
    foldback := m.foldedBy current, duty := clampInt (-limit) limit comp, bridge := .driven
    stallTimer := if m.settings.stallDuty ≤ comp.natAbs ∧ m.speed.natAbs < m.settings.stallSpeed
      then min 65535 (m.stallTimer + 1) else 0 }

/-- A measured and profiled motor that is driven by the control law for the rest of its period (R118 to R123). -/
def Motor.drivesByLaw (m : Motor) (s : State) (current : Int) : Motor :=
  let e := clampInt (-1000000) 1000000 (m.p - 1000 * m.x)
  let i := clampInt (-(m.settings.integralLimit : Int)) m.settings.integralLimit (m.integral + e)
  let comp := m.compensates s ((m.settings.kp * e + m.settings.ki * i.tdiv 64 + m.settings.kf * m.v + 2048).fdiv 4096)
  let d := m.drives s current comp
  { d with integral := if d.duty ≠ comp ∧ e.sign = comp.sign then m.integral else i }

/-- A measured motor that is driven at the duty of a RUN_DUTY segment for the rest of its period (R104, R117, R120). -/
def Motor.drivesAtDuty (m : Motor) (s : State) (current duty : Int) : Motor :=
  { m.drives s current (m.compensates s duty) with integral := 0 }

/-- A measured motor whose output is COAST or BRAKE for the rest of its period (R117, R121, R124, R125). -/
def Motor.rests (m : Motor) (current : Int) : Motor :=
  { m with foldback := m.foldedBy current, duty := 0, bridge := m.output, stallTimer := 0 }

/-- The speed and the remainder after one step from `m`'s speed toward `w` with acceleration `a` (R103). -/
def Motor.steps (m : Motor) (w : Int) (a : Nat) : Motor :=
  let step : Int := ((m.acc + a) / 1000 : Nat)
  let v := if m.v < w then min w (m.v + step) else max w (m.v - step)
  { m with v := v, acc := if v = w then 0 else (m.acc + a) % 1000 }

/-- A measured and profiled motor for the rest of its period, by the duty path that its motion record takes (R117). -/
def Motor.takesPath (m : Motor) (s : State) (current : Int) : Motor :=
  if m.output ≠ .driven then m.rests current
  else match m.queue with
    | g :: _ => if m.state = .running ∧ g.kind = .runDuty then m.drivesAtDuty s current g.duty else m.drivesByLaw s current
    | [] => m.drivesByLaw s current

/-- What follows a head `g` that ended COMPLETED or NOT_SETTLED, with the segments `rest` behind it (R102, R106, R107). -/
def Motor.pastHead (m : Motor) (rated : Nat) (g : Segment) (rest : List Segment) : Motor :=
  match rest with
  | [] => m.endedWith g.endAction g.accel
  | h :: _ => m.startingContinuous rated rest h

/-- The test of SETTLING of a head `g` with target `x` in a period (R106): the head ends, or one more settle period is
counted. -/
def Motor.settles (m : Motor) (rated : Nat) (x : Int) (g : Segment) (rest : List Segment) : Motor :=
  let n := { m with settlePeriods := m.settlePeriods + 1 }
  if (m.x - x).natAbs ≤ m.settings.tolerance then m.pastHead rated g rest
  else if m.settings.settleTimeout ≤ m.settlePeriods + 1 then n.pastHead rated g rest
  else n

/-- One profile step of a RUN_TO or RUN_BY head `g` with target `x` (R95, R105): one more period run is counted, and the setpoint
moves on, or the profile is done and the motor settles. -/
def Motor.approaches (m : Motor) (rated : Nat) (x : Int) (g : Segment) (rest : List Segment) : Motor :=
  let r := 1000 * x - m.p
  let b := 500 * m.v.natAbs * m.v.natAbs / g.accel
  let w : Int := if m.v ≠ 0 ∧ m.v.sign ≠ r.sign then 0 else if r.natAbs ≤ b + m.v.natAbs then 0 else r.sign * g.speed.natAbs
  let n : Motor := { m.steps w g.accel with periodsRun := min 65535 (m.periodsRun + 1) }
  if (r = 0 ∧ n.v = 0) ∨ (n.v ≠ 0 ∧ n.v.sign = r.sign ∧ r.natAbs ≤ n.v.natAbs) then
    { n with p := 1000 * x, v := 0, acc := 0, state := .settling }.settles rated x g rest
  else { n with p := m.p + n.v }

/-- The motor of a port takes motion commands (R97): it is not LOCKED, its port is not SUSPENDED, the supply is not CRITICAL
and its link-loss condition does not hold. -/
abbrev State.takesMotion (s : State) (p : Port) (m : Motor) : Prop :=
  s.motor p = some m ∧ m.state ≠ .locked ∧ (s.port p).state ≠ .suspended ∧ s.supply.state ≠ .critical ∧
    lossHolds m s = false

/-- The REFUSED notice of a command for a target (R97, R141, R199), to its origin, with its tag. -/
def refusedNotice (o : Origin) (target : Nat) (command : Byte) (code : Nat) (now : Time) : Frame :=
  { channel := o.channel, kind := .notice, flags := 1, tag := o.tag
    payload := [4, BitVec.ofNat 8 target, command, BitVec.ofNat 8 code] ++ le32 now }

/-! ## Voices and the amplifier (R134, R140, R158) -/

/-- A voice is IDLE exactly while its note queue is empty (R140). -/
abbrev State.voicesConsistent (s : State) : Prop :=
  ∀ v : VoiceId, (s.voice v).state = VoiceState.idle ↔ (s.voice v).notes = []

/-- The output lies within 16 bits signed, and is 0 whenever the amplifier is not ON (R158). -/
abbrev State.outputSound (s : State) : Prop :=
  (-32768 ≤ s.speaker ∧ s.speaker ≤ 32767) ∧ (s.amp ≠ .on → s.speaker = 0)

/-- The gain cap of a supply state (R133). -/
def gainCapOf : SupplyState → Nat
  | .normal => 256
  | .low => 128
  | .critical => 0

/-- `s` after the mixer has taken the sum of the voice samples (R133, R158). -/
def State.mixed (s : State) (sum : Int) : State :=
  let scaled := (sum * (min s.sound.masterGain (gainCapOf s.supply.state) : Nat)).tdiv 256
  { s with
    clips := if -32768 ≤ scaled ∧ scaled ≤ 32767 then s.clips else min 65535 (s.clips + 1)
    speaker := if s.amp = .on then max (-32768) (min 32767 scaled) else 0 }

/-- A STREAM frame is well formed (R154). -/
abbrev Frame.wellFormedStream (f : Frame) : Prop :=
  2 ≤ f.payload.length ∧ num8 f.payload 0 ≤ 2 ∧ num8 f.payload 1 ≤ 1 ∧
    (num8 f.payload 0 = 0 → f.payload.length % 2 = 0)

/-- The samples that a well-formed STREAM frame holds (R154). -/
def Frame.samples (f : Frame) : Nat :=
  if num8 f.payload 0 = 0 then (f.payload.length - 2) / 2 else f.payload.length - 2

/-- The value of sample `i` of a well-formed STREAM frame in its format S16, U8 or U8R (R154). -/
def Frame.sample (f : Frame) (i : Nat) : Int :=
  let b (k : Nat) : Int := num8 f.payload (2 + k)
  if num8 f.payload 0 = 0 then
    let w := b (2 * i) + 256 * b (2 * i + 1)
    if w < 32768 then w else w - 65536
  else if num8 f.payload 0 = 1 then (b i - 128) * 256
  else (b i - 128) * 256 + b i

/-- A voice whose STREAM note finds no frame (R157). -/
def Voice.starving (r : Voice) (now : Time) : Voice :=
  { r with state := .starved, underruns := min 65535 (r.underruns + 1), starvedSince := now }

/-- No note of the voice has a route, so that no end of one is reported. -/
abbrev Voice.silent (r : Voice) : Prop := ∀ n ∈ r.notes, n.route = none

/-- A voice whose current note `n` starts at hub time `now` with the amplifier ON (R142, R151, R152): PLAYING from the
beginning, its first envelope step 1 ms later, a TONE with an attack of 0 at full level, in DECAY, or in SUSTAIN where its
decay is 0 as well. -/
def Voice.playing (r : Voice) (notes : List Note) (n : Note) (e : Envelope) (now : Time) : Voice :=
  let r' := { r with
    notes := notes, state := .playing, elapsed := 0, nextStep := now + 1, stopMarker := false, envPhase := .attack, level := 0 }
  match n.kind with
  | .rest => r'
  | .stream => { r' with playIndex := 0, secondUse := false }
  | .tone =>
    let t := { r' with
      phase := 0, increment := BitVec.ofNat 32 ((n.frequency * 8589934592 + 16000) / 32000) }
    if e.attack ≠ 0 then t
    else if e.decay ≠ 0 then { t with level := 65280, envPhase := .decay }
    else { t with level := 256 * e.sustain, envPhase := .sustain }

/-- A voice whose current note `n` waits for the amplifier (R142). -/
def Voice.awaiting (r : Voice) (notes : List Note) (n : Note) : Voice :=
  { r.playing notes n { attack := 1, decay := 0, sustain := 0, release := 0 } 0 with
    state := .waitingAmp, nextStep := r.nextStep }

/-- A voice as the amplifier enters ON at hub time `now` (R142, R159): one that waited enters PLAYING with its first envelope step
1 ms later, a TONE with an attack of 0 at full level, in DECAY, or in SUSTAIN where its decay is 0 as well; a STREAM and a REST
have no envelope. -/
def Voice.warmed (r : Voice) (envelopes : Vector Envelope 8) (now : Time) : Voice :=
  let r' := { r with state := .playing, nextStep := now + 1 }
  if r.state ≠ .waitingAmp then r
  else match r.notes with
    | n :: _ =>
      let e := envelopes.get n.envelope
      if n.kind ≠ .tone ∨ e.attack ≠ 0 then r'
      else if e.decay ≠ 0 then { r' with level := 65280, envPhase := .decay }
      else { r' with level := 256 * e.sustain, envPhase := .sustain }
    | [] => r'

/-- `s` with a voice whose note `n` starts at the head of a queue (R142, R159, R160). -/
def State.noteStarted (s : State) (v : VoiceId) (notes : List Note) (n : Note) : State :=
  match s.amp with
  | .on => { s.setVoice v ((s.voice v).playing notes n (s.envelopes.get n.envelope) s.hubTime) with idleTimer := none }
  | .off =>
    { s.setVoice v ((s.voice v).awaiting notes n) with
      idleTimer := none, amp := if s.supply.state = .critical then .off else .warming s.hubTime }
  | .warming _ => { s.setVoice v ((s.voice v).awaiting notes n) with idleTimer := none }

/-- `s` with a voice that holds no note any more and its stream queue as it is (R149, R160): where the amplifier is ON and every
voice is IDLE the idle timer starts, or the amplifier enters OFF where the idle-off time is 0. -/
def State.voiceRests (s : State) (v : VoiceId) (r : Voice) : State :=
  let t := s.setVoice v { r with state := .idle, notes := [] }
  if t.amp = .on ∧ ∀ w : VoiceId, (t.voice w).state = .idle then
    if t.sound.idleOff = 0 then { t with amp := .off, idleTimer := none, speaker := 0 }
    else { t with idleTimer := some t.hubTime }
  else t

/-- `s` after the current note of a voice ended with the notes `rest` behind it (R149): the next one starts, or the voice
rests. -/
def State.pastNote (s : State) (v : VoiceId) (rest : List Note) : State :=
  match rest with
  | [] => s.voiceRests v (s.voice v)
  | n :: _ => s.noteStarted v rest n

/-! ## Observers (R83) -/

/-- The hub runs and no write waits for its observers: how every command that runs leaves it. -/
abbrev State.settled (s : State) : Prop := s.inReset = false ∧ s.unobserved = []

/-- Nothing watches a cell: no reflex has it as its source, and no ACTIVE subscription reports it. -/
abbrev State.ignores (s : State) (c : CellId) : Prop :=
  (∀ i : Fin 16, (s.reflex i).cell ≠ c) ∧ ∀ i : Fin 24, (s.sub i).active = true → (s.sub i).cell ≠ c

/-- The hub runs, no write waits, the pool is conserved, and nothing watches S3: a pool operation has no further effect. -/
abbrev State.quiet (s : State) : Prop := s.settled ∧ s.conserved ∧ s.ignores (.sys 3)

/-- Nothing acts on a write of a cell: each reflex that has it as its source is DISABLED, and no ACTIVE subscription reports
it. -/
abbrev State.dormant (s : State) (c : CellId) : Prop :=
  (∀ i : Fin 16, (s.reflex i).cell = c → (s.reflex i).state = .disabled) ∧
    ∀ i : Fin 24, (s.sub i).active = true → (s.sub i).cell ≠ c

/-- A port that changes in silence: the hub is settled, nothing acts on a write of the port's cells, and neither the port nor
its motor has a route for events and notices. -/
abbrev State.stillPort (s : State) (p : Port) : Prop :=
  s.settled ∧ (∀ i : Fin 4, s.dormant (.port p i)) ∧ (s.port p).settings.eventRoute = none ∧ s.silentPort p

/-- `t` as a command that began in `s` leaves it: each reflex whose cell the command has written has last seen what the cell
holds (R168). A cell was written where its update count is another (R82). -/
def State.noted (t s : State) : State :=
  { t with
    reflexes := t.reflexes.map fun r =>
      if (t.cell r.cell).updateCount = (s.cell r.cell).updateCount then r
      else { r with lastValue := (t.cell r.cell).value, lastTag := (t.cell r.cell).tag } }

/-! ## Cells (R82) -/

/-- The cell record that a value write of `v` leaves (R82). -/
def Cell.written (c : Cell) (now : Time) (v : Int) (tag : CellTag) (w : Writer) : Cell :=
  { value := v, tag := tag, writer := w, timestamp := now, updateCount := c.updateCount + 1 }

/-- A cell tagged VALID or RANGE re-tagged STALE with its value and its writer kept; any other cell is not written
(R72, R82). -/
def Cell.staled (c : Cell) (now : Time) : Cell :=
  if c.tag = .valid || c.tag = .range then
    { c with tag := .stale, timestamp := now, updateCount := c.updateCount + 1 }
  else c

/-- A cell emptied: value 0, tag EMPTY, writer NONE; an EMPTY cell is not written (R49, R82). -/
def Cell.drained (c : Cell) (now : Time) : Cell :=
  if c.tag = .empty then c
  else { value := 0, tag := .empty, writer := .nobody, timestamp := now, updateCount := c.updateCount + 1 }

/-- The cells of a port after a third miss in a mode with `n` values (R72): the first `n` STALE, the others as they were. -/
def missedCells (n : Nat) (now : Time) (q : Quad Cell) : Quad Cell :=
  let cell (k : Nat) (c : Cell) : Cell := if k < n then c.staled now else c
  { q0 := cell 0 q.q0, q1 := cell 1 q.q1, q2 := cell 2 q.q2, q3 := cell 3 q.q3 }

/-- A raw value lies out of range for a smart mode (R78). -/
abbrev Mode.beyond (m : Mode) (raw : Int) : Prop := raw < m.rawMin ∨ m.rawMax < raw

/-- The value and the tag that a raw value of a smart mode gives (R76, R78). -/
def Mode.reads (m : Mode) (g : PortSettings) (raw : Int) : Int × CellTag :=
  if m.beyond raw then
    match g.policy with
    | .saturate => (if raw < m.rawMin then m.siMin else m.siMax, .valid)
    | .indefinite => (-2147483648, .range)
  else
    (g.rounding.quotient (m.siMin * (m.rawMax - m.rawMin) + (raw - m.rawMin) * (m.siMax - m.siMin)) (m.rawMax - m.rawMin)
      , .valid)

/-- The cells of a port as a mode with `n` values takes them (R74): the first `n` STALE, the others EMPTY. -/
def rewritten (n : Nat) (now : Time) (q : Quad Cell) : Quad Cell :=
  let cell (k : Nat) (c : Cell) : Cell := if k < n then c.staled now else c.drained now
  { q0 := cell 0 q.q0, q1 := cell 1 q.q1, q2 := cell 2 q.q2, q3 := cell 3 q.q3 }

/-- The attention record after latch `k` is set (R193, R195). A latch that was clear gives a pulse in PULSE mode where it is
unmasked: at once where no pulse or gap is in progress and none is owed, and otherwise as one more owed, up to 255. -/
def Attention.withLatch (a : Attention) (k : Nat) : Attention :=
  let due := a.latches.getLsbD k = false ∧ a.mode = .pulse ∧ a.mask.getLsbD k = true
  let free := a.pulse = .quiet ∧ a.owed = 0
  { a with
    latches := a.latches ||| (1#12 <<< k)
    pulse := if due ∧ free then .low else a.pulse
    owed := if due ∧ ¬free then min 255 (a.owed + 1) else a.owed }

/-- An attention latch is set (R193). -/
def State.latched (s : State) (k : Nat) : State := { s with attention := s.attention.withLatch k }

/-- `s` with a port cell written, on a port with no event route (R82, R89, R91): the write sets RANGE or not, makes the
raises that were due, and sets the latch PORT_FLAG where any flag is raised. -/
def State.portWritten (s : State) (p : Port) (i : Fin 4) (left : Cell) (range : Bool) : State :=
  let r := s.flag p
  let t := (s.setCell (.port p i) left).setFlagRec p
    { r with flags := if range then r.flags ||| 1 else r.flags, due := 0 }
  if r.due ≠ 0 ∨ (range = true ∧ r.flags.getLsbD 0 = false ∧ r.mask.getLsbD 0 = true) then
    t.latched 6
  else t

/-- Flag `k` of a port, clear before, is set: the latch PORT_FLAG follows where it is unmasked (R89). The port has no event
route. -/
def State.flagSet (s : State) (p : Port) (k : Nat) : State :=
  let r := s.flag p
  let t := s.setFlagRec p { r with flags := r.flags ||| flagBit k }
  if r.flags.getLsbD k then s else if r.mask.getLsbD k then t.latched 6 else t

/-- `s` after a control period of the motor `m` of a port with no event route and no raise due (R121, R126): the four cells hold
the motor as `c`, as it stood when they were written, and the motor is left as `after`; MOTOR_FAULT is set where the foldback
limit has fallen to 1000. -/
def State.periodLeft (s : State) (p : Port) (m c after : Motor) : State :=
  let q := s.cells.get p
  let write (cell : Cell) (v : Int) : Cell := cell.written s.hubTime v .valid .motor
  let t := { s.setMotor p (some after) with
    cells := s.cells.set p
      { q0 := write q.q0 c.x, q1 := write q.q1 c.speed, q2 := write q.q2 c.duty, q3 := write q.q3 c.state.code } }
  if 1000 < m.foldback ∧ c.foldback = 1000 then t.flagSet p 4 else t

/-- `s` after a due sample of a TOUCH device whose writes nothing acts on (R66, R67): the next one falls due an analog interval
later, cell 0 is written VALID with 1 above 2048 and 0 otherwise, and the DISABLED reflexes on the cell note it. -/
def State.touched (s : State) (p : Port) (raw : RawSample) : State :=
  ((s.setAcq p
    { s.acquisition p with
      nextDue := s.hubTime + BitVec.ofNat 32 (s.port p).settings.analogInterval }).portWritten p 0
    ((s.cell (.port p 0)).written s.hubTime (if 2048 < raw.val then 1 else 0) .valid .sensor) false).noted s

/-- The motor of a port right after attachment at hub time `now`, of a class with an entry (R94, R95, R114): IDLE with output
COAST, its settings at their defaults with the gains of the class, its loop record at its values, and its first control period
1 ms later. -/
def freshMotor (k : MotorClass) (e : ClassEntry) (now : Time) : Motor :=
  { cls := k, state := .idle, output := .coast, queue := [], v := 0, acc := 0, p := 0, target := none, periodsRun := 0
    settlePeriods := 0, holdAccel := 20000, offset := 0
    settings :=
      { kp := e.kp, ki := e.ki, kf := e.kf, integralLimit := 5000000, dutyMax := 10000, currentLimit := 1500
        stallDuty := 6000, stallSpeed := 20, stallTime := 300, tolerance := 2, settleTimeout := 500
        compensation := true, lossAction := .noAction, watched := .radio, lowWater := 0, noticeRoute := none }
    loaded := none, encoder := 0, x := 0, ring := List.replicate 20 0, speed := 0, integral := 0, foldback := 10000
    stallTimer := 0, duty := 0, discardNoted := false, limitSet := false, bridge := .coast, nextPeriod := now + 1 }

/-! ## Pool operations (R4, R9, R15) -/

/-- `s` with S3 written with `n` (R4). -/
def State.s3Written (s : State) (n : Nat) : State :=
  { s with sys := { s.sys with q3 := s.sys.q3.written s.hubTime n .valid .pool } }

/-- `s` after one pool operation that leaves `n` pages free (R4). -/
def State.withFree (s : State) (n : Nat) : State := { s.s3Written n with free := n }

/-- `s` with `n` more pages free, after which a head of the management queue that waits is considered again (R15, R186). -/
def State.withPages (s : State) (n : Nat) : State :=
  { s with free := s.free + n, mgmt := { s.mgmt with headWaits := false } }

/-- `s` after the release of `n` pages and the reviews that it starts (R4, R9, R15). -/
def State.afterRelease (s : State) (n : Nat) : State :=
  let r := reviewBoth (s.withPages n)
  r.s3Written r.free

/-- The head of a hold list has left it, and the frames `rest` are behind it. -/
def State.headLeft (s : State) (l : Link) (rest : List Frame) : State :=
  s.setLink l { s.link l with hold := rest, waiting := none }

/-- A down-link drop of a link is counted (R40). -/
def State.downLinkDrop (s : State) (l : Link) : State :=
  s.setLink l { s.link l with
    counters := { (s.link l).counters with downLinkDrops := min 65535 ((s.link l).counters.downLinkDrops + 1) } }

/-- A frame joins the tail of a link's urgent queue. -/
def State.withUrgent (s : State) (l : Link) (f : Frame) : State :=
  s.setLink l { s.link l with urgent := (s.link l).urgent ++ [f] }

/-- A frame joins the tail of a link's normal queue. -/
def State.withNormal (s : State) (l : Link) (f : Frame) : State :=
  s.setLink l { s.link l with normal := (s.link l).normal ++ [f] }

/-! ## Notices and events (R12, R26, R48, R90, R108, R109, R149) -/

/-- `s` after a notice or an event was handed to the credit manager for a link (R12), while no request is in progress and nothing
watches S3: a DOWN link counts a drop; no free page and a full urgent queue count a lost notice and set POOL_LOW; otherwise one
page leaves free and the frame joins the urgent queue. -/
def State.handed (s : State) (l : Link) (f : Frame) : State :=
  let u := s.link l
  if u.up = false then s.downLinkDrop l
  else if s.free = 0 ∨ 8 ≤ u.urgent.length then
    (s.setLink l { u with counters := { u.counters with lostNotices := min 65535 (u.counters.lostNotices + 1) } }).latched 10
  else (s.withFree (s.free - 1)).withUrgent l f

/-- `s` after a NOTICE frame was handed over for a route, where one is present (R26). -/
def State.notice (s : State) (route : Option Endpoint) (tag : Byte) (payload : List Byte) : State :=
  match route with
  | some e => s.handed e.link { channel := e.channel, kind := .notice, flags := 1, tag := tag, payload := payload }
  | none => s

/-- `s` after an EVENT frame was handed over for a route, where one is present: its tag is 0 (R26, R48). -/
def State.event (s : State) (route : Option Endpoint) (payload : List Byte) : State :=
  match route with
  | some e => s.handed e.link { channel := e.channel, kind := .event, flags := 1, tag := 0, payload := payload }
  | none => s

/-- No frame that a unit sends of its own has a further effect than `State.handed` gives it: the pool is quiet, and no request
in progress keeps a place of an urgent queue. -/
abbrev State.reports (s : State) : Prop := s.quiet ∧ s.mgmt.inProgress = none

/-- A port that changes with what it reports: the hub is settled, nothing acts on a write of the port's cells, its motor sends
no notice, and its event route is absent or its events are placed as `State.handed` says. -/
abbrev State.calmPort (s : State) (p : Port) : Prop :=
  s.settled ∧ (∀ i : Fin 4, s.dormant (.port p i)) ∧ s.silentPort p ∧
    ((s.port p).settings.eventRoute = none ∨ s.reports)

/-- `s` with the flags `raised` of a port raised in one PORT_FLAG event, which names the flags and the mask as they stand (R90,
R199); the latch PORT_FLAG is set already. -/
def State.flagEvent (s : State) (p : Port) (raised : BitVec 5) : State :=
  s.event (s.port p).settings.eventRoute
    ([2, BitVec.ofNat 8 p.code, raised.zeroExtend 8, (s.flag p).flags.zeroExtend 8, (s.flag p).mask.zeroExtend 8] ++
      le32 s.hubTime)

/-- Flag `k` of a port is set, and reported where that raises it: it was clear and is unmasked (R89, R90). -/
def State.flagReported (s : State) (p : Port) (k : Nat) : State :=
  let r := s.flag p
  if r.flags.getLsbD k = false ∧ r.mask.getLsbD k = true then (s.flagSet p k).flagEvent p (flagBit k) else s.flagSet p k

/-- `s` after the entry of a port to ACTIVE, EMPTY or FAULT was reported (R48, R199): the latch PORT_CHANGE of the port is set,
and the PORT_STATE event names the state, the class, the type code and the mode of an ACTIVE smart device, the line rate while
ACTIVE, and the reason in FAULT. -/
def State.portReported (s : State) (p : Port) : State :=
  let r := s.port p
  let smart : Prop := r.state = .active ∧ r.cls = .smart
  (s.latched p.code).event r.settings.eventRoute
    ([1, BitVec.ofNat 8 p.code, if r.state = .active then 4 else if r.state = .fault then 6 else 0, BitVec.ofNat 8 r.cls.code] ++
      le16 (if smart then (r.description.map Description.typeCode).getD 0 else 0) ++
      [if smart then BitVec.ofNat 8 r.selectedMode else 0, if r.state = .active then BitVec.ofNat 8 r.lineRate.code else 0
      , if r.state = .fault then BitVec.ofNat 8 r.faultReason.code else 0] ++ le32 s.hubTime)

/-- `s` after SEGMENT_END notices for the segments `ended`, head first, each with its outcome, at position `x` (R108, R199). -/
def State.segmentsReported (s : State) (p : Port) (x : Int) (ended : List (Segment × Byte)) : State :=
  ended.foldl (fun t e =>
    t.notice e.1.route e.1.tag ([1, BitVec.ofNat 8 p.code, e.1.tag, e.2] ++ leInt x ++ le32 t.hubTime)) s

/-- `s` after a MOTOR_STATE notice of the state `new`, from the state `prev`, for a motor that stands as `m` (R109, R199). -/
def State.motorReported (s : State) (p : Port) (new prev : Nat) (m : Motor) : State :=
  s.notice m.settings.noticeRoute 0
    ([3, BitVec.ofNat 8 p.code, BitVec.ofNat 8 new, BitVec.ofNat 8 prev, BitVec.ofNat 8 m.output.code
      , BitVec.ofNat 8 m.queue.length, if m.limitSet then 1 else 0] ++ le16 (s.classes.get m.cls).countsPerRev ++ leInt m.x ++
      le32 s.hubTime)

/-- `s` after the motor of a port went from `m` to `after` and its segments `ended` ended with their outcomes (R108, R109): the
SEGMENT_END notices in queue order, a LOW_WATER notice with the tag of the head that ended where the occupancy fell to the mark,
and a MOTOR_STATE notice where the state changed. -/
def State.motorMoved (s : State) (p : Port) (m after : Motor) (ended : List (Segment × Byte)) : State :=
  let g := after.settings
  let n := after.queue.length
  let t := (s.setMotor p (some after)).segmentsReported p after.x ended
  let u := match ended with
    | (head, _) :: _ =>
      if n < m.queue.length ∧ n = g.lowWater ∧ g.lowWater ≠ 0 then
        t.notice g.noticeRoute head.tag
          ([2, BitVec.ofNat 8 p.code, BitVec.ofNat 8 n, BitVec.ofNat 8 g.lowWater] ++ le32 s.hubTime)
      else t
    | [] => t
  if m.state = after.state then u else u.motorReported p after.state.code m.state.code after

/-- Every segment of a queue ends: the head with an outcome, those behind it FLUSHED (R108). -/
def segmentsEnd (outcome : Byte) : List Segment → List (Segment × Byte)
  | [] => []
  | g :: rest => (g, outcome) :: rest.map fun h => (h, 2)

/-- `s` after NOTE_END notices for the notes `ended` of a voice, the current one first, each with its outcome (R149, R199). -/
def State.notesReported (s : State) (v : VoiceId) (ended : List (Note × Byte)) : State :=
  ended.foldl (fun t e => t.notice e.1.route e.1.tag ([5, BitVec.ofNat 8 v.val, e.1.tag, e.2] ++ le32 t.hubTime)) s

/-- Every note of a queue ends: the current one with an outcome, those behind it FLUSHED (R149). -/
def notesEnd (outcome : Byte) : List Note → List (Note × Byte)
  | [] => []
  | n :: rest => (n, outcome) :: rest.map fun m => (m, 2)

/-! ## Replies (R14, R186, R187) -/

/-- A request without a chain of its own can be answered with a reply of `n` payload bytes: its link is UP, the pages are
free, and the urgent queue has room (R14, R186). -/
abbrev State.canAnswer (s : State) (o : Origin) (n : Nat) : Prop :=
  s.mgmt.resetTaken = none ∧ (s.link o.link).up = true ∧ pagesOf n ≤ s.free ∧ (s.link o.link).urgent.length < 8

/-- The reply of a request (R187): its kind, the URGENT flag, the channel and the tag of the request. -/
def replyTo (o : Origin) (payload : List Byte) : Frame :=
  { channel := o.channel, kind := .mgmtReply, flags := 1, tag := o.tag, payload := payload }

/-- `s` after a request was answered: the reply's pages leave free, and it joins the urgent queue of the request's link
(R4, R14). While it is carried out the unit holds the request in progress, and then nothing. -/
def State.answered (s : State) (o : Origin) (payload : List Byte) : State :=
  { (s.withFree (s.free - pagesOf payload.length)).withUrgent o.link (replyTo o payload) with
    mgmt := { s.mgmt with inProgress := none } }

/-- The code and the parameters of a reflex action in a record (R164, R200). -/
def ReflexAction.record : ReflexAction → List Byte
  | .motorReplace p g =>
    [0, BitVec.ofNat 8 p.code, g.kind, g.endAction] ++ le32 g.speed ++ le32 g.position ++ le16 g.duty.toNat ++
      le16 g.accel.toNat ++ le16 g.duration.toNat ++ [g.routeLink, g.routeChannel, g.tag]
  | .motorStop p e lock => [1, BitVec.ofNat 8 p.code, BitVec.ofNat 8 e.code, if lock then 1 else 0]
  | .voicePlay v n =>
    [2, BitVec.ofNat 8 v.val, n.kind, n.wavetable, n.envelope] ++ le16 n.frequency.toNat ++ le16 n.gain.toNat ++
      le16 n.duration.toNat ++ [n.routeLink, n.routeChannel, n.tag]
  | .voiceStop v cut => [3, BitVec.ofNat 8 v.val, if cut then 1 else 0]
  | .sendEvent e => [4, BitVec.ofNat 8 e.link.code, BitVec.ofNat 8 e.channel.val]

/-- The record of a LOAD of REFLEX (R200). -/
def Reflex.loadBytes (r : Reflex) : List Byte :=
  [BitVec.ofNat 8 r.cell.code, BitVec.ofNat 8 r.condition.code] ++ leInt r.t ++ leInt r.t2 ++ leInt r.hysteresis ++
    [BitVec.ofNat 8 r.mode.code] ++ r.action.record ++ routeBytes r.eventOnFire ++ [BitVec.ofNat 8 r.state.code]

/-- The record of a LOAD of SUBSCRIPTION (R200). -/
def Subscription.loadBytes (b : Subscription) : List Byte :=
  [BitVec.ofNat 8 b.cell.code, BitVec.ofNat 8 b.target.link.code, BitVec.ofNat 8 b.target.channel.val
  , BitVec.ofNat 8 b.mode.code] ++ le16 b.period ++ leInt b.deadband ++ le16 b.minInterval ++
    [if b.active then 0 else 1]

/-! ## A hub after a reset (R18, R19, R63) -/

/-- A link after a reset whose PRDY reads `up` (R18): granted 32 when UP, with the restart marker set. -/
def freshLink (up cts : Bool) : LinkUnit :=
  { up := up, receiver := .hunting, hold := [], waiting := none, urgent := [], normal := [], sending := none, cts := cts
    ceiling := 32, outstanding := if up then 32 else 0, pendingCredit := if up then 32 else 0, restart := up
    counters := LinkCounters.zero }

/-- A port after a reset at hub time `now` whose ID pin reads `band` (R43, R44, R63): DETECTING where the band is not 7, with
the band read next after 5 ms (R42). -/
def freshPort (now : Time) (band : Band) : PortRec :=
  { state := if band = 7 then .empty else .detecting, band := 7, cls := .noClass, description := none, selectedMode := 0
    lineRate := .r9600, queryCount := 0, modeChange := none, faultReason := .noReason
    debounce := if band = 7 then none else some { band := band, start := now }
    bandWatch := none, lineBreak := none, identification := none, window := none, recovery := none, nextReading := now + 5
    settings :=
      { analogInterval := 10, pollInterval := 0, mode := none, calibration := none, rounding := .nearestEven
        policy := .saturate, eventRoute := none }
    lineSent := [] }

/-- A cell after a reset at hub time `now` (R87). -/
def freshCell (now : Time) : Cell := { value := 0, tag := .empty, writer := .nobody, timestamp := now, updateCount := 0 }

/-- A voice after a reset (R162). -/
def freshVoice : Voice :=
  { state := .idle, notes := [], stream := [], loopOn := false, stopMarker := false, elapsed := 0, nextStep := 0
    envPhase := .attack, level := 0, phase := 0, increment := 0, playIndex := 0, secondUse := false, starvedSince := 0
    overflows := 0, underruns := 0, formatErrors := 0 }

/-- A reflex after a reset (R165). -/
def freshReflex : Reflex :=
  { cell := .port .a 0, condition := .above, t := 0, t2 := 0, hysteresis := 0, mode := .once
    action := .sendEvent { link := .radio, channel := 0 }, eventOnFire := none, state := .disabled, lastValue := 0
    lastTag := .empty, fireCount := 0, lastOutcome := .nothing }

/-- A subscription after a reset (R177). -/
def freshSubscription : Subscription :=
  { cell := .port .a 0, target := { link := .radio, channel := 0 }, mode := .change, period := 1000, deadband := 0
    minInterval := 10, active := false, lastValue := 0, lastTag := .empty, lastReport := none, nextExpiry := none
    pending := false, skipped := 0, attemptDue := false }

/-- round(32767 × sin(2π i / 64)) for i from 0 to 16 (R136), a quarter of the sine. -/
def quarterSine : List Int :=
  [0, 3212, 6393, 9512, 12539, 15446, 18204, 20787, 23170, 25329, 27245, 28898, 30273, 31356, 32137, 32609, 32767]

/-- The four default wavetables (R136): the sine made of its quarter, the square, the triangle and the sawtooth. -/
def freshWavetables : Quad (Vector Int 64) :=
  { q0 := Vector.ofFn fun i =>
      let k := i.val % 32
      let a := quarterSine.getD (if k ≤ 16 then k else 32 - k) 0
      if i.val < 32 then a else -a
    q1 := Vector.ofFn fun i => if i.val < 32 then 32767 else -32767
    q2 := Vector.ofFn fun i =>
      if i.val ≤ 15 then 2048 * i.val else if i.val = 16 then 32767
      else if i.val ≤ 47 then 2048 * (32 - i.val) else 2048 * (i.val - 64)
    q3 := Vector.ofFn fun i => 1024 * i.val - 32768 }

/-- The pages that stay free after the grants of a reset (R18). -/
def freshFree (radio controller : Bool) : Nat := 128 - (if radio then 32 else 0) - (if controller then 32 else 0)

/-- The hub out of a reset at hub time `now` with the links and bands that its pins show, and the commands that wait (R18,
R19, R34, R63, R64, R87, R88, R93, R128, R130, R136 to R138, R162, R165, R177, R193): S3 was written with 128, and once more
where a link was granted credit. -/
def freshHub (now : Time) (radio controller : LinkUnit) (bands : PerPort Band) (waiting : List Instr) : State :=
  let free := freshFree radio.up controller.up
  { inReset := false, hubTime := now, free := free
    links := { radio := radio, controller := controller }
    routes := everyLink (Vector.ofFn fun c : Channel => if c = 0 then Route.management else .pass c)
    ports := bands.map (freshPort now)
    acq := everyPort
      { schedule := .stopped, nextDue := 0, pollInterval := 5, pollWindow := none, missCount := 0, watchdog := none }
    calibration := Vector.replicate 6 []
    cells := everyPort (everyQuad (freshCell now))
    sys :=
      { q0 := freshCell now, q1 := freshCell now, q2 := freshCell now
        q3 := { value := free, tag := .valid, writer := .pool, timestamp := now
                updateCount := if radio.up || controller.up then 2 else 1 } }
    unobserved := []
    flags := everyPort { flags := 0, mask := 0, due := 0 }
    classes :=
      { s := { countsPerRev := 180, ratedMax := 1500, kp := 300, ki := 16, kf := 24000 }
        m := { countsPerRev := 360, ratedMax := 1000, kp := 400, ki := 32, kf := 36000 }
        l := { countsPerRev := 360, ratedMax := 900, kp := 500, ki := 40, kf := 41000 } }
    motors := everyPort none
    supply :=
      { ring := [], state := .normal, fallTimer := none, criticalTimer := none, riseTimer := none
        nextMeasurement := now + 10, settings := { low := 6300, critical := 5600, hysteresis := 200, nominal := 7200 }
        eventRoute := none }
    voices := everyQuad freshVoice
    wavetables := freshWavetables
    envelopes := Vector.replicate 8 { attack := 5, decay := 0, sustain := 255, release := 20 }
    sound := { masterGain := 256, idleOff := 2000 }
    amp := .off, idleTimer := none, clips := 0, speaker := 0
    reflexes := Vector.replicate 16 freshReflex
    subs := Vector.replicate 24 freshSubscription
    mgmt := { queue := [], headWaits := false, inProgress := none, resetTaken := none }
    attention := { latches := 0, mask := 0, mode := .level, pulse := .quiet, owed := 0 }
    pending := waiting }

/-- The hub held in reset by RESET_N (R18): both links DOWN and no band read. -/
def heldInReset (waiting : List Instr) : State :=
  { freshHub 0 (freshLink false false) (freshLink false false) (everyPort 7) waiting with inReset := true }

/-! ## The port line (R52) -/

/-- The commands that bring a message of a port line. -/
def lineCommands (p : Port) (kind : Byte) (m : LineReply) : List Instr :=
  [.descriptionReceived p m, .configureAccept p m, .selectAccept p m, .sampleReceived p m, .holdReceived p m
  , .portLineMessageRejected p kind m]

/-! ## Detach (R49) -/

/-- A port's records after a detach that nothing watches and nothing reports (R49): the line idle, the acquisition
stopped, the flags clear with the mask kept, the cells empty, no motor, no description. -/
def State.detached (s : State) (p : Port) : State :=
  { s with
    ports := s.ports.set p
      { s.port p with
        window := none, identification := none, lineBreak := none, description := none, selectedMode := 0
        lineRate := .r9600, modeChange := none, queryCount := 0 }
    acq := s.acq.set p
      { s.acquisition p with schedule := .stopped, missCount := 0, watchdog := none, pollWindow := none }
    flags := s.flags.set p { s.flag p with flags := 0, due := 0 }
    cells := s.cells.set p ((s.cells.get p).map fun c => c.drained s.hubTime)
    motors := s.motors.set p none }

/-- The port record of an EMPTY port (R42, R49). -/
def PortRec.emptied (r : PortRec) : PortRec :=
  { r with state := .empty, cls := .noClass, band := 7, debounce := none, bandWatch := none, recovery := none }

/-- `s` with a port that entered EMPTY, reported (R48, R49). -/
def State.portEmptied (s : State) (p : Port) : State :=
  let d := s.detached p
  (d.setPort p (d.port p).emptied).portReported p

/-- `s` with a port that entered FAULT for a reason, reported (R48 to R50); MODE_FAIL is not among it. -/
def State.portFaulted (s : State) (p : Port) (reason : FaultReason) : State :=
  let d := s.detached p
  State.portReported
    (d.setPort p { d.port p with state := .fault, faultReason := reason, debounce := none, recovery := some s.hubTime }) p

/-- `s` with a port that entered ACTIVE, reported (R48). -/
def State.portActive (s : State) (p : Port) : State :=
  (s.setPort p { s.port p with state := .active, window := none }).portReported p

/-- `s` with the first sample of a passive port that entered ACTIVE, converted to `v` (R64 to R66). -/
def State.firstSample (s : State) (p : Port) (v : Int) : State :=
  (s.setAcq p
    { s.acquisition p with
      schedule := .analog, nextDue := s.hubTime + BitVec.ofNat 32 (s.port p).settings.analogInterval, pollWindow := none
      missCount := 0, watchdog := none }).setCell
    (.port p 0) ((s.cell (.port p 0)).written s.hubTime v .valid .sensor)

/-- `s` after a port reset whose ID pin reads `band` (R62). -/
def State.portResetTo (s : State) (p : Port) (band : Band) : State :=
  let r := { ((s.detached p).port p).emptied with faultReason := .noReason }
  if band = 7 then (s.portEmptied p).setPort p r
  else (s.detached p).setPort p { r with state := .detecting, debounce := some { band := band, start := s.hubTime } }

/-- `s` with a port that entered SUSPENDED in silence (R60, R112): its sampling is stopped, a motor is IDLE with output COAST, and
the cells of any other device are STALE. -/
def State.portSuspended (s : State) (p : Port) : State :=
  let t := (s.setPort p { s.port p with state := .suspended, window := none, modeChange := none }).setAcq p
    { s.acquisition p with schedule := .stopped, missCount := 0, watchdog := none, pollWindow := none }
  match (s.port p).cls with
  | .motor _ => { t with motors := s.motors.set p ((s.motor p).map fun m => m.stoppedIn .idle .coast) }
  | _ => { t with cells := s.cells.set p ((s.cells.get p).map fun c => c.staled s.hubTime) }

/-- `s` with a mode change of a port recorded and its SELECT sent (R58, R69, R74). -/
def State.selectSent (s : State) (p : Port) (mode : Nat) : State :=
  let sent := { s.port p with
    modeChange := some mode, selectedMode := mode, window := some { kind := .select, start := s.hubTime }
    lineSent := lineMessage 0x04 [BitVec.ofNat 8 mode] }
  { (s.setPort p sent).setAcq p { s.acquisition p with pollInterval := sent.intervalInUse } with
    cells := s.cells.set p (rewritten sent.valueCount s.hubTime (s.cells.get p)) }

end Machine

end Sys2Proof
end

