-- ==== Sys2Proof/Certificates/Slice0/Obligations.lean ====
section
/-! DEFINITION. The statements for the provers. Each `Obligations.<Name>` is a proposition; OBLIGATIONS.json lists them with
the rules they rest on. -/

section

open Sys2Proof Sys2Proof.Machine

/-! ## The step, and what every command leaves -/

/-- One step runs the front command on the hub with the queue's rest. -/
def Obligations.StepRunsFrontCommand : Prop :=
  ∀ (c : Instr) (s : State), step { s with pending := c :: s.pending } = exec c s

/-- With no command waiting the hub clock ticks (the model's choice, log entry 1). While RESET_N is asserted it
stands, and no command but POWER_ON, RESET_N_ASSERT and RESET_N_RELEASE changes anything (R18; log entry 4). -/
def Obligations.IdleHubTicksAndHeldHubStands : Prop :=
  (∀ s : State, s.pending = [] →
    step s = .next { s with hubTime := if s.inReset then s.hubTime else s.hubTime + 1 }) ∧
  ∀ (c : Instr) (s : State), s.inReset = true → (∀ pins, c ≠ .powerOn pins) → c ≠ .resetNAssert →
    (∀ pins, c ≠ .resetNRelease pins) → exec c s = .next s

/-- Every command of every state answers a next state, leaves the commands behind it waiting, and leaves the list of
writes that wait for their observers empty (R83; the bound of log entry 6 empties it too). -/
def Obligations.EveryCommandIsCarriedOut : Prop :=
  ∀ (c : Instr) (s : State), ∃ t, exec c s = .next t ∧ t.pending = s.pending ∧ (s.settled → t.unobserved = [])

/-- The hub after reset: the tables and records at the values their rules give, the port timers stopped and no window
open (R43, R64). The pins are the model's choice (log entry 2), as are the values the spec does not give (log entry
3), which the statement leaves out. -/
def Obligations.ResetLeavesTheDefaults : Prop :=
  let s := State.reset
  s.inReset = false ∧ s.hubTime = 0 ∧ s.free = 128 ∧ s.unobserved = [] ∧ s.pending = [] ∧
    s.links = everyLink (freshLink false false) ∧
    s.routes = everyLink (Vector.ofFn fun c : Channel => if c = 0 then Route.management else .pass c) ∧
    (∀ p, (s.port p).state = .empty ∧ (s.port p).band = 7 ∧ (s.port p).cls = .noClass ∧ (s.port p).faultReason = .noReason ∧
      (s.port p).description = none ∧ (s.port p).selectedMode = 0 ∧ (s.port p).lineRate = .r9600 ∧
      (s.port p).queryCount = 0 ∧ (s.port p).modeChange = none ∧ (s.port p).debounce = none ∧
      (s.port p).bandWatch = none ∧ (s.port p).lineBreak = none ∧ (s.port p).identification = none ∧
      (s.port p).window = none ∧ (s.port p).recovery = none ∧
      (s.port p).settings =
        { analogInterval := 10, pollInterval := 0, mode := none, calibration := none, rounding := .nearestEven
          policy := .saturate, eventRoute := none } ∧
      (s.acquisition p).schedule = .stopped ∧ (s.acquisition p).missCount = 0 ∧ (s.acquisition p).watchdog = none ∧
      (s.acquisition p).pollWindow = none ∧ s.flag p = { flags := 0, mask := 0, due := 0 } ∧ s.motor p = none ∧
      ∀ i, s.cell (.port p i) = { value := 0, tag := .empty, writer := .nobody, timestamp := 0, updateCount := 0 }) ∧
    (∀ i, s.calibration.get i = []) ∧
    (∀ i, i ≠ 3 → s.cell (.sys i) = { value := 0, tag := .empty, writer := .nobody, timestamp := 0, updateCount := 0 }) ∧
    s.cell (.sys 3) = { value := 128, tag := .valid, writer := .pool, timestamp := 0, updateCount := 1 } ∧
    s.classes =
      { s := { countsPerRev := 180, ratedMax := 1500, kp := 300, ki := 16, kf := 24000 }
        m := { countsPerRev := 360, ratedMax := 1000, kp := 400, ki := 32, kf := 36000 }
        l := { countsPerRev := 360, ratedMax := 900, kp := 500, ki := 40, kf := 41000 } } ∧
    s.supply.state = .normal ∧ s.supply.ring = [] ∧ s.supply.fallTimer = none ∧ s.supply.criticalTimer = none ∧
    s.supply.riseTimer = none ∧ s.supply.nextMeasurement = 10 ∧
    s.supply.settings = { low := 6300, critical := 5600, hysteresis := 200, nominal := 7200 } ∧ s.supply.eventRoute = none ∧
    (∀ v, (s.voice v).state = .idle ∧ (s.voice v).notes = [] ∧ (s.voice v).stream = [] ∧ (s.voice v).loopOn = false ∧
      (s.voice v).stopMarker = false ∧ (s.voice v).phase = 0 ∧ (s.voice v).level = 0 ∧ (s.voice v).overflows = 0 ∧ (s.voice v).underruns = 0 ∧ (s.voice v).formatErrors = 0) ∧
    (∀ i : Fin 17, (s.wavetables.get 0).get ⟨i.val, by omega⟩ =
      [0, 3212, 6393, 9512, 12539, 15446, 18204, 20787, 23170, 25329, 27245, 28898, 30273, 31356, 32137, 32609, 32767].get i) ∧
    (∀ i : Fin 16, (s.wavetables.get 0).get ⟨32 - i.val, by omega⟩ = (s.wavetables.get 0).get ⟨i.val, by omega⟩) ∧
    (∀ i : Fin 32, (s.wavetables.get 0).get ⟨32 + i.val, by omega⟩ = -(s.wavetables.get 0).get ⟨i.val, by omega⟩) ∧
    (∀ i, (s.wavetables.get 1).get i = if i.val < 32 then 32767 else -32767) ∧
    (∀ i, (s.wavetables.get 2).get i =
      if i.val ≤ 15 then 2048 * (i.val : Int) else if i.val = 16 then 32767
      else if i.val ≤ 47 then 2048 * (32 - (i.val : Int)) else 2048 * ((i.val : Int) - 64)) ∧
    (∀ i, (s.wavetables.get 3).get i = 1024 * (i.val : Int) - 32768) ∧
    s.envelopes = Vector.replicate 8 { attack := 5, decay := 0, sustain := 255, release := 20 } ∧
    s.sound = { masterGain := 256, idleOff := 2000 } ∧ s.amp = .off ∧ s.idleTimer = none ∧ s.clips = 0 ∧
    s.reflexes = Vector.replicate 16
      { cell := .port .a 0, condition := .above, t := 0, t2 := 0, hysteresis := 0, mode := .once
        action := .sendEvent { link := .radio, channel := 0 }, eventOnFire := none, state := .disabled, lastValue := 0
        lastTag := .empty, fireCount := 0, lastOutcome := .nothing } ∧
    (∀ i, (s.sub i).cell = .port .a 0 ∧ (s.sub i).target = { link := .radio, channel := 0 } ∧ (s.sub i).mode = .change ∧
      (s.sub i).period = 1000 ∧ (s.sub i).deadband = 0 ∧ (s.sub i).minInterval = 10 ∧ (s.sub i).active = false ∧
      (s.sub i).lastValue = 0 ∧ (s.sub i).lastTag = .empty ∧ (s.sub i).lastReport = none ∧ (s.sub i).nextExpiry = none ∧
      (s.sub i).pending = false ∧ (s.sub i).skipped = 0) ∧
    s.mgmt.queue = [] ∧ s.mgmt.inProgress = none ∧ s.attention = { latches := 0, mask := 0, mode := .level, pulse := .quiet, owed := 0 }

/-- The hub after reset keeps every invariant of the spec. -/
def Obligations.InvariantsHoldAtReset : Prop :=
  let s := State.reset
  s.conserved ∧ s.freeShown ∧ s.linksSound ∧ s.bounded ∧ s.linesSound ∧ s.motorsConsistent ∧ s.dutyCapped ∧ s.voicesConsistent ∧
    s.outputSound ∧ s.settled

/-! ## Invariants that every step keeps -/

/-- Free, both reservations and the pages of all stored frames add to 128 in every state (R3), and S3 holds free with
writer POOL (R4): every step keeps both. -/
def Obligations.PoolStaysConserved : Prop :=
  (∀ s t : State, s.conserved → step s = .next t → t.conserved) ∧
  ∀ s t : State, s.conserved → s.freeShown → step s = .next t → t.freeShown

/-- No link's outstanding credit passes its ceiling, the ceilings stay within 8 to 48 and sum to at most 96, and a
DOWN link holds no credit and no frame (R5, R6, R16, R18). -/
def Obligations.LinksStaySound : Prop :=
  ∀ s t : State, s.linksSound → step s = .next t → t.linksSound

/-- No queue passes the size its rule gives it (R29, R30, R35, R95, R140). A port line carries at most one exchange at
a time: no POLL window is open beside another response window of the port, and only an ACTIVE port is polled (R52,
R65). -/
def Obligations.QueuesStayBounded : Prop :=
  (∀ s t : State, s.bounded → step s = .next t → t.bounded) ∧
  ∀ s t : State, s.linesSound → step s = .next t → t.linesSound

/-- Every motor keeps the table of motion states, in which the queue, the output and the bridge follow the state (R95,
R124), and no applied duty ever passes the supply's cap (R122, R133). -/
def Obligations.MotorsStayConsistent : Prop :=
  (∀ s t : State, s.motorsConsistent → step s = .next t → t.motorsConsistent) ∧
  ∀ s t : State, s.motorsConsistent → s.dutyCapped → step s = .next t → t.dutyCapped

/-- A voice is IDLE exactly while its note queue is empty (R140); the output stays within 16 bits signed and is 0
whenever the amplifier is not ON (R158). -/
def Obligations.SoundStaysConsistent : Prop :=
  (∀ s t : State, s.voicesConsistent → step s = .next t → t.voicesConsistent) ∧
  ∀ s t : State, s.outputSound → step s = .next t → t.outputSound

/-! ## Resets (R18, R19, R63, R192) -/

/-- Power-on, and RESET_N asserted and released, bring every block to its reset values, write S3 with 128, and then
bring up each link whose PRDY is high with a grant of 32 and each port whose band is not 7 to DETECTING (R18, R63).
Model's choices: the values the spec does not give for a reset (log entry 3); each port's band is read every 5 ms from
its reset (log entry 20); pin levels and readings are operands (log entry 25). -/
def Obligations.ResetsReinitialiseTheHub : Prop :=
  ∀ (pins : ResetPins) (s : State),
    let hub := freshHub 0 (freshLink pins.prdy.radio false) (freshLink pins.prdy.controller false) pins.bands s.pending
    exec (.powerOn pins) s = .next hub ∧ exec .resetNAssert s = .next (heldInReset s.pending) ∧
      exec (.resetNRelease pins) (heldInReset s.pending) = .next hub

/-- HUB_RESET is taken when its link is UP. Its re-initialisation, once no frame is on a wire, keeps hub time, the
link states and the CTS inputs, brings every block to its reset values, and answers with OK in one page where the link
is UP (R19, R192). Premises: the hub runs. Model's choices: the values the spec does not give for a reset (log entry
3); a request that arrives as a command has no chain, so its reply's pages leave free (log entry 7); what waits
between HUB_RESET and its re-initialisation (log entry 8); each port's band is read every 5 ms from its reset (log
entry 20); pin levels and readings are operands (log entry 25). -/
def Obligations.HubResetReinitialises : Prop :=
  (∀ (o : Origin) (s : State), s.settled → s.mgmt.resetTaken = none → (s.link o.link).up = true →
    exec (.hubReset o) s = .next { s with mgmt := { s.mgmt with resetTaken := some o } }) ∧
  ∀ (bands : PerPort Band) (o : Origin) (s : State), s.settled → s.mgmt.resetTaken = some o →
    (s.link .radio).sending = none → (s.link .controller).sending = none →
    let hub := freshHub s.hubTime (freshLink (s.link .radio).up (s.link .radio).cts)
      (freshLink (s.link .controller).up (s.link .controller).cts) bands s.pending
    exec (.hubReinitialisation bands) s =
      .next (if (s.link o.link).up then (hub.withFree (hub.free - 1)).withUrgent o.link (replyTo o [12, 0]) else hub)

/-! ## Links (chapters 01 and 02) -/

/-- SYNC takes a hunting receiver to HEADER, and a spent skip count takes it back to HUNTING (R22). A header above 248
bytes is a format error (R23); one that needs more pages than the outstanding credit is an overrun, which skips its
payload and its CRC and sets LINK_ERROR (R24). Premises: the hub runs. Model's choices: headers, payloads and messages
arrive whole, and a window opens as its message is sent (log entry 19). -/
def Obligations.ReceiverHuntsAndRefusesHeaders : Prop :=
  ∀ (l : Link) (s : State), s.settled → (s.link l).up = true →
    let u := s.link l
    (u.receiver = .hunting → exec (.syncByteReceived l) s = .next (s.setLink l { u with receiver := .header })) ∧
    (∀ n, u.receiver = .skipping n → exec (.skipCountSpent l) s = .next (s.setLink l { u with receiver := .hunting })) ∧
    ∀ b1 b2 b3 b4 : Byte, u.receiver = .header →
      (248 < b3.toNat →
        exec (.receiveHeader l b1 b2 b3 b4) s =
          .next (s.setLink l
            { u with receiver := .hunting
                     counters := { u.counters with formatErrors := min 65535 (u.counters.formatErrors + 1) } })) ∧
      (b3.toNat ≤ 248 → u.outstanding < (4 + b3.toNat + 31) / 32 →
        exec (.receiveHeader l b1 b2 b3 b4) s =
          .next ((s.setLink l
            { u with receiver := .skipping (b3.toNat + 2)
                     counters := { u.counters with overruns := min 65535 (u.counters.overruns + 1) } }).latched 9))

/-- An accepted header moves its pages from the reservation to the receive assembly, and the link is reviewed; S3 is
written where that review grants (R4, R6, R24). Premises: the hub runs, the pool is conserved, and nothing watches S3.
Model's choices: headers, payloads and messages arrive whole, and a window opens as its message is sent (log entry
19). -/
def Obligations.AcceptedHeaderTakesCredit : Prop :=
  ∀ (l : Link) (b1 b2 b3 b4 : Byte) (s : State), s.quiet → (s.link l).sound → (s.link l).up = true →
    (s.link l).receiver = .header → b3.toNat ≤ 248 → (4 + b3.toNat + 31) / 32 ≤ (s.link l).outstanding →
    let u := { s.link l with
      outstanding := (s.link l).outstanding - (4 + b3.toNat + 31) / 32, receiver := .payload (headerOf b1 b2 b3 b4) }
    let g := u.grant s.free
    exec (.receiveHeader l b1 b2 b3 b4) s =
      .next (if g = 0 then s.setLink l u
        else (s.withFree (s.free - g)).setLink l
          { u with outstanding := u.outstanding + g, pendingCredit := min 255 (u.pendingCredit + g) })

/-- A frame whose CRC fails is counted and released (R25). A good frame joins its hold list. One that finds the list
empty is classified at once: a kind that is not taken and a route of DROP release it with their counters; a request
joins the management queue; a PASS frame joins the other link's queue with its channel rewritten, or is dropped where
that link is DOWN; a STREAM frame joins its voice's queue; a DATA frame for a motor or a voice acts as the command
that its payload spells does, and is then released; and a head whose destination is full waits (R25 to R32, R198).
Premises: the hub runs, the pool is conserved, and nothing watches S3. Model's choices: headers, payloads and messages
arrive whole, and a window opens as its message is sent (log entry 19). -/
def Obligations.ReceivedFrameIsClassified : Prop :=
  ∀ (l : Link) (h : Header) (payload : List Byte) (lo hi : Byte) (s : State), s.quiet →
    (s.link l).receiver = .payload h → payload.length = h.length →
    let u := { s.link l with
      receiver := .hunting
      counters := { (s.link l).counters with framesReceived := min 65535 ((s.link l).counters.framesReceived + 1) } }
    let f := h.frame payload
    let pages := (4 + h.length + 31) / 32
    let arrives := exec (.receiveFrameEnd l payload lo hi) s
    let good : Prop := hi ++ lo = linkCrc (h.bytes ++ payload)
    let u0 := s.link l
    let badKind := (s.setLink l
      { u with waiting := none
               counters := { u.counters with badKindDrops := min 65535 (u.counters.badKindDrops + 1) } }).afterRelease pages
    let held := s.setLink l { u with hold := [f] }
    let o : Origin := { link := l, channel := h.channel, tag := h.tag }
    let hands (c : Instr) : Prop := ∃ t, exec c held = .next t ∧ arrives = .next ((t.headLeft l []).afterRelease pages)
    let refuses (target : Nat) : Prop := ∀ code more, payload = code :: more → u.up = true → 1 ≤ s.free →
      u.urgent.length < 8 → s.mgmt.inProgress = none →
      arrives = .next (((((held.withFree (s.free - 1)).withUrgent l
        (refusedNotice o target code 1 s.hubTime)).headLeft l [])).afterRelease pages)
    (¬good → arrives = .next ((s.setLink l
      { u0 with receiver := .hunting
                counters := { u0.counters with crcErrors := min 65535 (u0.counters.crcErrors + 1) } }).afterRelease
        pages)) ∧
    (good → u.hold ≠ [] → arrives = .next (s.setLink l { u with hold := u.hold ++ [f] })) ∧
    (good → u.hold = [] →
      ((h.kind = .credit ∨ ∃ n, h.kind = .unassigned n) → arrives = .next badKind) ∧
      ((h.kind ≠ .credit ∧ ∀ n, h.kind ≠ .unassigned n) →
        (s.route l h.channel = .drop →
          arrives = .next ((s.setLink l
            { u with waiting := none
                     counters := { u.counters with routeDrops := min 65535 (u.counters.routeDrops + 1) } }).afterRelease
              pages)) ∧
        (s.route l h.channel = .management →
          arrives = .next (if h.kind ≠ .mgmtRequest then badKind
            else if s.mgmt.queue.length < 4
              then { s.setLink l { u with waiting := none } with
                     mgmt := { s.mgmt with
                       queue := s.mgmt.queue ++ [{ link := l, frame := f }]
                       headWaits := if s.mgmt.queue = [] then false else s.mgmt.headWaits } }
              else s.setLink l { u with hold := [f], waiting := some .management })) ∧
        (∀ p, s.route l h.channel = .motor p →
          (h.kind ≠ .data → arrives = .next badKind) ∧
          (h.kind = .data →
            (∀ raw, payload = 1 :: segmentBytes raw → hands (.append p o raw)) ∧
            (∀ raw, payload = 2 :: segmentBytes raw → hands (.replace p o raw)) ∧
            (∀ a, payload = [3, a] → hands (.abort p o a)) ∧
            (payload = [4] → hands (.zero p o)) ∧
            (motorCommandOf payload = none → refuses p.code))) ∧
        (∀ v, s.route l h.channel = .sound v → h.kind = .data →
          (∀ raw, payload = 1 :: noteBytes raw → hands (.queue v o raw)) ∧
          (∀ raw, payload = 2 :: noteBytes raw → hands (.play v o raw)) ∧
          (payload = [3] → hands (.stopRelease v o)) ∧
          (payload = [4] → hands (.stopCut v o)) ∧
          (∀ g : BitVec 16, payload = 5 :: le16 g.toNat → hands (.setGain v o g)) ∧
          (∀ mode, payload = [6, mode] → hands (.setLoop v o mode)) ∧
          (soundCommandOf payload = none → refuses (16 + v.val))) ∧
        (∀ v, s.route l h.channel = .sound v → h.kind ≠ .data →
          arrives = .next (if h.kind ≠ .stream then badKind
            else if (s.voice v).stream.length < 12
              then (s.setLink l { u with waiting := none }).setVoice v
                { s.voice v with stream := (s.voice v).stream ++ [f]
                                 state := if (s.voice v).state = .starved then .playing else (s.voice v).state }
              else ((s.setLink l { u with waiting := none }).setVoice v
                { s.voice v with overflows := min 65535 ((s.voice v).overflows + 1) }).afterRelease pages)) ∧
        ∀ out, s.route l h.channel = .pass out →
          let other := s.link l.other
          arrives = .next (if other.up = false
            then ((s.setLink l { u with waiting := none }).setLink l.other
              { other with
                counters := { other.counters with downLinkDrops := min 65535 (other.counters.downLinkDrops + 1) } }).afterRelease
                pages
            else if f.isUrgent then
              (if other.urgent.length < 8
                then (s.setLink l { u with waiting := none }).withUrgent l.other { f with channel := out }
                else s.setLink l { u with hold := [f], waiting := some (.pass .urgent out) })
            else if other.normal.length < 24
              then (s.setLink l { u with waiting := none }).withNormal l.other { f with channel := out }
              else s.setLink l { u with hold := [f], waiting := some (.pass .normal out) })))

/-- A waiting head is handed over once its destination has room, and waits on while it has none: a request to the
management queue, a PASS frame to the urgent or the normal queue of the other link (R32). Where that link is DOWN, or
goes DOWN, a PASS head is released and counted as a down-link drop of it (R32, R38). When a head has left, the frame
behind it is classified in turn: one that is not taken is released with its counter, and a PASS frame whose queue is
full waits with every frame behind it (R27, R28, R29, R31). Premises: the hub runs, the pool is conserved, and nothing
watches S3. Model's choices: an event that is not due has no effect (log entry 4); a row that a larger step holds
stands for its own effect alone (log entry 5); the order of the steps at a link DOWN and its one write of S3 (log
entry 18); a link DOWN is a release for a request that waits, even where the link held no frame (log entry 43). -/
def Obligations.WaitingHeadIsHandedOver : Prop :=
  ∀ (l : Link) (f : Frame) (rest : List Frame) (s : State), s.settled → (s.link l).hold = f :: rest →
    let other := s.link l.other
    let left := s.headLeft l rest
    let queued : State := { left with
      mgmt := { s.mgmt with
        queue := s.mgmt.queue ++ [{ link := l, frame := f }]
        headWaits := if s.mgmt.queue = [] then false else s.mgmt.headWaits } }
    let handover := exec (.waitingHeadHandover l) s
    ((s.link l).waiting = some .management →
      (4 ≤ s.mgmt.queue.length → handover = .next s) ∧
      (s.mgmt.queue.length < 4 →
        (rest = [] → handover = .next queued) ∧
        ∀ g more, rest = g :: more →
          (more = [] → s.quiet → g.kind = .credit →
            handover = .next ((queued.setLink l
              { left.link l with
                hold := []
                counters := { (s.link l).counters with
                  badKindDrops := min 65535 ((s.link l).counters.badKindDrops + 1) } }).afterRelease g.pages)) ∧
          (more = [] → s.quiet → g.kind = .data → s.route l g.channel = .drop →
            handover = .next ((queued.setLink l
              { left.link l with
                hold := []
                counters := { (s.link l).counters with
                  routeDrops := min 65535 ((s.link l).counters.routeDrops + 1) } }).afterRelease g.pages)) ∧
          ∀ out, g.kind = .data → g.isUrgent = false → s.route l g.channel = .pass out → other.up = true →
            24 ≤ other.normal.length →
            handover = .next (queued.setLink l { left.link l with waiting := some (.pass .normal out) }))) ∧
    (∀ out, (s.link l).waiting = some (.pass .urgent out) → other.up = true →
      (8 ≤ other.urgent.length → handover = .next s) ∧
      (other.urgent.length < 8 → rest = [] → handover = .next (left.withUrgent l.other { f with channel := out }))) ∧
    (∀ out, (s.link l).waiting = some (.pass .normal out) → other.up = true →
      (24 ≤ other.normal.length → handover = .next s) ∧
      (other.normal.length < 24 → rest = [] → handover = .next (left.withNormal l.other { f with channel := out }))) ∧
    ∀ q out, (s.link l).waiting = some (.pass q out) → rest = [] → s.quiet →
      (other.up = false → handover = .next ((left.downLinkDrop l.other).afterRelease f.pages)) ∧
      (other.up = true → (∀ p m, s.motor p = some m → m.settings.lossAction = .noAction) →
        let taken := { freshLink false other.cts with ceiling := other.ceiling, counters := other.counters }
        let t := review l ((s.setLink l.other taken).withPages (other.outstanding + other.storedPages))
        let fallen := (t.s3Written t.free).latched 8
        exec (.linkDown l.other) s =
          .next (((fallen.headLeft l []).downLinkDrop l.other).afterRelease f.pages))

/-- An idle transmitter with CTS high starts a CREDIT frame while an amount is pending, else the head of the urgent
queue, else the head of the normal queue; with CTS low or nothing to send it starts nothing (R10, R36). Premises: the
hub runs. Model's choices: pin levels and readings are operands (log entry 25); a CREDIT frame carries URGENT clear
(log entry 32). -/
def Obligations.TransmitterStartsInOrder : Prop :=
  ∀ (l : Link) (s : State), s.settled → (s.link l).up = true → (s.link l).sending = none → s.mgmt.resetTaken = none →
    let u := { s.link l with cts := true }
    exec (.transmitStart l false) s = .next (s.setLink l { s.link l with cts := false }) ∧
    (0 < u.pendingCredit →
      exec (.transmitStart l true) s = .next (s.setLink l
        { u with
          pendingCredit := 0, restart := false
          sending := some
            { source := .credit
              bytes := wireBytes
                { channel := 0, kind := .credit, flags := if u.restart then 4 else 0, tag := 0
                  payload := [BitVec.ofNat 8 (if u.restart then u.outstanding else u.pendingCredit)] } } })) ∧
    (∀ f rest, u.pendingCredit = 0 → u.urgent = f :: rest →
      exec (.transmitStart l true) s =
        .next (s.setLink l { u with sending := some { source := .queue .urgent, bytes := wireBytes f } })) ∧
    (∀ f rest, u.pendingCredit = 0 → u.urgent = [] → u.normal = f :: rest →
      exec (.transmitStart l true) s =
        .next (s.setLink l { u with sending := some { source := .queue .normal, bytes := wireBytes f } })) ∧
    (u.pendingCredit = 0 → u.urgent = [] → u.normal = [] → exec (.transmitStart l true) s = .next (s.setLink l u))

/-- A sent frame leaves its queue, is counted, and its pages are released; a sent CREDIT frame moves no page and
counts nothing (R37). Premises: the hub runs, the pool is conserved, and nothing watches S3. -/
def Obligations.SentFrameLeavesItsQueue : Prop :=
  ∀ (l : Link) (bytes : List Byte) (s : State),
    let u := s.link l
    let counted := { u.counters with framesTransmitted := min 65535 (u.counters.framesTransmitted + 1) }
    (s.quiet → ∀ f rest, u.sending = some { source := .queue .urgent, bytes := bytes } → u.urgent = f :: rest →
      exec (.frameTransmitted l) s =
        .next ((s.setLink l { u with sending := none, urgent := rest, counters := counted }).afterRelease f.pages)) ∧
    (s.quiet → ∀ f rest, u.sending = some { source := .queue .normal, bytes := bytes } → u.normal = f :: rest →
      exec (.frameTransmitted l) s =
        .next ((s.setLink l { u with sending := none, normal := rest, counters := counted }).afterRelease f.pages)) ∧
    (s.settled → u.sending = some { source := .credit, bytes := bytes } →
      exec (.creditFrameSent l) s = .next (s.setLink l { u with sending := none }))

/-- The bytes that the transmitter sends for a frame are SYNC, the channel with the kind's code in the high four bits,
the flags, the length, the tag, the payload, and the CRC over them with its low byte first. A receiver reads the
header of that frame in them and finds its CRC good (R20, R25, R196). The CRC of no byte is 0xFFFF, and each further
byte enters it bit by bit, most significant first: the register moves up by one, and takes the polynomial x^16 + x^12
+ x^5 + 1 where the bit that leaves it differs from the bit that enters (R21). -/
def Obligations.SentFrameIsReadBack : Prop :=
  (∀ f : Frame, f.payload.length ≤ 248 →
    let b1 := BitVec.ofNat 8 (f.channel.val + 16 * f.kind.code)
    let length := BitVec.ofNat 8 f.payload.length
    ∃ lo hi : Byte,
      wireBytes f = [0xC3, b1, f.flags, length, f.tag] ++ f.payload ++ [lo, hi] ∧
        hi ++ lo = linkCrc ([b1, f.flags, length, f.tag] ++ f.payload) ∧
        (headerOf b1 f.flags length f.tag).frame f.payload = f ∧
        (headerOf b1 f.flags length f.tag).length = f.payload.length ∧
        (headerOf b1 f.flags length f.tag).bytes = [b1, f.flags, length, f.tag]) ∧
  linkCrc [] = 0xFFFF ∧
  (∀ (bs : List Byte) (b : Byte),
    linkCrc (bs ++ [b]) = (List.range 8).foldl
      (fun (crc : BitVec 16) (i : Nat) => (crc <<< 1) ^^^ (if crc.msb = b.getMsbD i then 0 else 0x1021)) (linkCrc bs)) ∧
  FrameKind.data.code = 0 ∧ FrameKind.stream.code = 1 ∧ FrameKind.mgmtRequest.code = 2 ∧ FrameKind.mgmtReply.code = 3 ∧
    FrameKind.report.code = 4 ∧ FrameKind.notice.code = 5 ∧ FrameKind.event.code = 6 ∧ FrameKind.credit.code = 7 ∧
    ∀ n : Fin 8, (FrameKind.unassigned n).code = 8 + n.val

/-- A link that comes UP is granted the smaller of its ceiling and free − 8, with the restart marker set, and
LINK_CHANGE is set (R17, R39). A link that goes DOWN gives up its reservation and every frame it holds, keeps its
ceiling, its counters and its CTS input, has the other link reviewed, and sets LINK_CHANGE (R16, R38); here no motor
acts on the loss and no frame of the other link waits for this one. A link that is UP or DOWN already is left as it
is. Premises: the hub runs, the pool is conserved, and nothing watches S3. Model's choices: an event that is not due
has no effect (log entry 4); the order of the steps at a link DOWN and its one write of S3 (log entry 18); a link DOWN
is a release for a request that waits, even where the link held no frame (log entry 43). -/
def Obligations.LinkChangesMoveThePool : Prop :=
  (∀ (l : Link) (s : State), s.quiet → (s.link l).sound →
    let u := s.link l
    let g := if 9 ≤ s.free then min u.ceiling (s.free - 8) else 0
    exec (.linkUp l) s = .next (if u.up then s else
      ((if g = 0 then s else s.withFree (s.free - g)).setLink l
        { u with up := true, restart := true, outstanding := g, pendingCredit := g }).latched 8)) ∧
  ∀ (l : Link) (s : State), s.quiet → (∀ q out, (s.link l.other).waiting ≠ some (.pass q out)) →
    (∀ p m, s.motor p = some m → m.settings.lossAction = .noAction) →
    let u := s.link l
    let taken := { freshLink false u.cts with ceiling := u.ceiling, counters := u.counters }
    let t := review l.other ((s.setLink l taken).withPages (u.outstanding + u.storedPages))
    exec (.linkDown l) s = .next (if u.up then (t.s3Written t.free).latched 8 else s)

/-- A link that goes DOWN stops each motor that watches it with a link-loss action: its queue is emptied, it is IDLE,
and its output is that of the action (R111). Premises: the hub runs, the pool is conserved, and nothing watches S3.
Model's choices: a link loss with action BRAKE brakes the IDLE motor of a SUSPENDED port too (log entry 33). -/
def Obligations.LinkLossStopsTheMotor : Prop :=
  ∀ (l : Link) (p : Port) (m : Motor) (s : State), s.quiet → (s.link l).up = true →
    (∀ q out, (s.link l.other).waiting ≠ some (.pass q out)) → s.motor p = some m → m.settings.lossAction ≠ .noAction →
    (m.settings.watched = .either ∨ m.settings.watched = .radio ∧ l = .radio ∨
      m.settings.watched = .controller ∧ l = .controller) →
    m.state ≠ .locked →
    ∃ t, exec (.linkDown l) s = .next t ∧
      t.motor p = some (m.stoppedIn .idle (if m.settings.lossAction = .brake then .brake else .coast))

/-- Setting a latch sets its bit and no other, and changes neither the mask nor the line mode (R193). In PULSE mode
the change of an unmasked latch from clear to set begins a pulse where none is in progress, none ended less than 100
µs before and none is owed, and otherwise raises the owed count, which saturates at 255; a latch that is set already,
a masked one and LEVEL mode give no pulse (R195). ATTN_N is low in LEVEL mode while a latch is set and unmasked, and
in PULSE mode during a pulse (R194). A pulse that ends leaves the line high for the gap; at the gap's end an owed
pulse begins, or the line rests (R195). Premises: the hub runs. -/
def Obligations.AttentionPulsesFollowEachOther : Prop :=
  (∀ (a : Attention) (k : Nat),
    let b := a.setLatch k
    (∀ j, j < 12 → (b.latches.getLsbD j = true ↔ a.latches.getLsbD j = true ∨ j = k)) ∧
      b.mask = a.mask ∧ b.mode = a.mode ∧
      ((a.mode = .level ∨ a.latches.getLsbD k = true ∨ a.mask.getLsbD k = false) → b.pulse = a.pulse ∧ b.owed = a.owed) ∧
      (a.mode = .pulse → a.latches.getLsbD k = false → a.mask.getLsbD k = true →
        (a.pulse = .quiet → a.owed = 0 → b.pulse = .low ∧ b.owed = 0) ∧
        ((a.pulse ≠ .quiet ∨ a.owed ≠ 0) → b.pulse = a.pulse ∧ b.owed = min 255 (a.owed + 1)))) ∧
  (∀ a : Attention,
    (a.mode = .level → (a.lineLow = true ↔ ∃ k, k < 12 ∧ a.latches.getLsbD k = true ∧ a.mask.getLsbD k = true)) ∧
    (a.mode = .pulse → (a.lineLow = true ↔ a.pulse = .low))) ∧
  (∀ (k : Nat) (s : State), setLatch k s = s.latched k) ∧
  ∀ s : State, s.settled →
    (s.attention.pulse = .low →
      exec .attnPulseEnd s = .next { s with attention := { s.attention with pulse := .gap } }) ∧
    (s.attention.pulse = .gap →
      exec .attnPulseGapEnd s = .next { s with attention :=
        if s.attention.owed = 0 then { s.attention with pulse := .quiet }
        else { s.attention with pulse := .low, owed := s.attention.owed - 1 } })

/-! ## The frame pool (chapter 01) -/

/-- A credit review (R7): it grants exactly when the link is UP, its deficit is at least 4, or at least 1 with the
restart marker set, and free is above 8. The grant is the smaller of the deficit and free − 8; it moves from free to
the reservation and is added to the pending amount, which saturates at 255 (R10). Reviews of both links take the link
with the smaller outstanding credit first, RADIO when they are equal (R9). -/
def Obligations.CreditReviewsGrantInOrder : Prop :=
  (∀ (l : Link) (s : State),
    let u := s.link l
    let deficit := u.ceiling - u.outstanding
    let grants : Prop := u.up = true ∧ (4 ≤ deficit ∨ u.restart = true ∧ 1 ≤ deficit) ∧ 9 ≤ s.free
    (grants →
      let g := min deficit (s.free - 8)
      1 ≤ g ∧ review l s =
        { s.setLink l { u with outstanding := u.outstanding + g, pendingCredit := min 255 (u.pendingCredit + g) } with
          free := s.free - g }) ∧
    (¬grants → u.pendingCredit ≤ 255 → review l s = s)) ∧
  ∀ s : State, reviewBoth s =
    if (s.link .controller).outstanding < (s.link .radio).outstanding then review .radio (review .controller s)
    else review .controller (review .radio s)

/-- A notice or an event at the credit manager (R12): a DOWN link counts a drop; no free page or a full urgent queue
counts a lost notice and sets POOL_LOW; otherwise one page leaves free, the frame joins the urgent queue, and S3 is
written and waits for its observers (R4, R83). Model's choices: the order of the observers (log entry 6); a request's
reply takes its pages and its place on the urgent queue before the request's own effects (log entry 12). -/
def Obligations.NoticesArePlacedOrDropped : Prop :=
  ∀ (l : Link) (f : Frame) (s : State), s.conserved → s.mgmt.inProgress = none →
    let u := s.link l
    (u.up = false →
      placeUrgent l f s =
        s.setLink l { u with counters := { u.counters with downLinkDrops := min 65535 (u.counters.downLinkDrops + 1) } }) ∧
    (u.up = true → (s.free = 0 ∨ 8 ≤ u.urgent.length) →
      placeUrgent l f s =
        (s.setLink l
          { u with counters := { u.counters with lostNotices := min 65535 (u.counters.lostNotices + 1) } }).latched 10) ∧
    (u.up = true → 1 ≤ s.free → u.urgent.length < 8 →
      let t := (s.withFree (s.free - 1)).withUrgent l f
      placeUrgent l f s = { t with unobserved := s.unobserved ++ [{ cell := .sys 3, left := t.cell (.sys 3) }] })

/-! ## Management requests (chapter 12) -/

/-- The head of the management queue is discarded where its link is DOWN, waits while its link's urgent queue is full,
and is otherwise answered: a request that fails a check is answered with its status in its own chain, whose surplus
pages are released, and changes nothing else (R186, R187). An accepted LOAD of every table (R189), PORT_CONTROL
(R190), MOTOR_UNLOCK, REFLEX_ARM, the clearing reads (R191), SET_ATTENTION and SET_FLAG_MASK have the effect of their
commands and are answered OK in the request's own chain, and HUB_RESET is taken (R19, R192). A READ whose reply is
longer than its request extends the chain by the pages that it lacks, and waits while free holds fewer (R14). A head
that waits is not considered until pages are released: its consideration then changes nothing (R186). Premises: the
hub runs, the pool is conserved, and nothing watches S3; for PORT_CONTROL nothing acts on a write of the port's cells,
and neither the port nor its motor has a route. Model's choices: an event that is not due has no effect (log entry 4);
headers, payloads and messages arrive whole, and a window opens as its message is sent (log entry 19); a loaded record
comes into force at the next period, and READ returns it before (log entry 22); the codes of two-valued fields (log
entry 24); pin levels and readings are operands (log entry 25); a pulse that a change to LEVEL ends leaves the gap
after it (log entry 29); RADIO's ceiling stands first in a LINK_SETTINGS record (log entry 45). -/
def Obligations.QueuedRequestIsConsidered : Prop :=
  ∀ (band : Band) (raw : RawSample) (e : MgmtEntry) (rest : List MgmtEntry) (s : State), s.quiet →
    s.mgmt.resetTaken = none → s.mgmt.queue = e :: rest →
    let o : Origin := { link := e.link, channel := e.frame.channel, tag := e.frame.tag }
    let considered := exec (.mgmtHeadConsideration band raw) s
    let left := { s with mgmt := { s.mgmt with queue := rest, inProgress := none } }
    let waits := { s with mgmt := { s.mgmt with headWaits := true } }
    (s.mgmt.headWaits = true → considered = .next s) ∧
    (s.mgmt.headWaits = false →
    ((s.link e.link).up = false →
      considered = .next ({ s with mgmt := { s.mgmt with queue := rest } }.afterRelease e.frame.pages)) ∧
    ((s.link e.link).up = true → 8 ≤ (s.link e.link).urgent.length → requestOf e.frame.payload ≠ some .hubReset →
      considered = .next waits) ∧
    ((s.link e.link).up = true → (s.link e.link).urgent.length < 8 →
      (∀ (table index : Byte) (t : Table) (bs : List Byte), e.frame.payload = [3, table, index] →
        Table.ofCode table.toNat = some t → t ≠ .voice → t ≠ .mixer → index.toNat < t.entries →
        readTable t index.toNat s = some bs →
        let more := (4 + (2 + bs.length) + 31) / 32 - 1
        let reply := replyTo o (3 :: 0 :: bs)
        considered = .next (if more = 0 then left.withUrgent e.link reply
          else if s.free < more then waits
          else (left.withFree (s.free - more)).withUrgent e.link reply)) ∧
      (requestOf e.frame.payload = none → ∀ code more, e.frame.payload = code :: more →
        let t := left.withUrgent e.link (replyTo o [code, 1])
        considered = .next (if e.frame.pages = 1 then t else t.afterRelease (e.frame.pages - 1))) ∧
      (∀ q, requestOf e.frame.payload = some q → q.check s ≠ .ok →
        let t := left.withUrgent e.link (replyTo o [q.code, BitVec.ofNat 8 (q.check s).code])
        considered = .next (if e.frame.pages = 1 then t else t.afterRelease (e.frame.pages - 1))) ∧
      let takes (payload reply : List Byte) (t : State) : Prop := e.frame.payload = payload →
        let u := t.withUrgent e.link (replyTo o reply)
        considered = .next (if e.frame.pages = 1 then u else u.afterRelease (e.frame.pages - 1))
      let loads (table index : Byte) (record : List Byte) (t : State) : Prop :=
        takes (2 :: table :: index :: record) [2, 0, table, index] t
      takes [1] [1, 0, 0x31, 0x5A, 0x6C, 0x02, 1, 6, 4, 128, 16, 24] left ∧
      (∀ (table index : Byte) (record : List Byte), 13 ≤ table.toNat → takes (2 :: table :: index :: record) [2, 2] left) ∧
      (∀ (l : Link) (c : Channel) (r : Route), loads 0 (BitVec.ofNat 8 (16 * l.code + c.val)) r.bytes (left.setRoute l c r)) ∧
      (∀ (i : Fin 3) (c : MotorClass) (k : ClassEntry), MotorClass.ofIndex i.val = some c → 1 ≤ k.countsPerRev →
        k.countsPerRev ≤ 65535 → 1 ≤ k.ratedMax → k.ratedMax ≤ 20000 → k.kp ≤ 4095 → k.ki ≤ 4095 → k.kf ≤ 65535 →
        (∀ p, s.motor p = none ∨ (s.port p).cls ≠ .motor c) →
        loads 1 (BitVec.ofNat 8 i.val) k.bytes { left with classes := s.classes.set c k }) ∧
      (∀ (p : Port) (m : Motor) (g : MotorSettings), s.motor p = some m → g.inRange = true →
        loads 2 (BitVec.ofNat 8 p.code) g.bytes (left.setMotor p (some { m with loaded := some g }))) ∧
      (∀ (p : Port) (g : PortSettings), 1 ≤ g.analogInterval → g.analogInterval ≤ 1000 → g.pollInterval ≤ 1000 →
        (∀ m, g.mode = some m → m < 8) →
        ((s.port p).state = .active → g.calibration = (s.port p).settings.calibration) →
        loads 3 (BitVec.ofNat 8 p.code) g.bytes (left.setPort p { s.port p with settings := g })) ∧
      (∀ (i : Fin 6) (t : List Breakpoint), 2 ≤ t.length → t.length ≤ 16 → breakpointsRise t = true →
        (∀ b ∈ t, -2147483648 ≤ b.val ∧ b.val ≤ 2147483647) →
        (∀ p, (s.port p).state = .active → (s.port p).settings.calibration ≠ some i) →
        loads 4 (BitVec.ofNat 8 i.val) (calibrationBytes t) { left with calibration := s.calibration.set i.val t i.isLt }) ∧
      (∀ (i : Fin 4) (w : Vector Int 64), (∀ k : Fin 64, -32768 ≤ w.get k ∧ w.get k ≤ 32767) →
        loads 5 (BitVec.ofNat 8 i.val) (wavetableBytes w) { left with wavetables := s.wavetables.set i w }) ∧
      (∀ (i : Fin 8) (k : Envelope), k.attack ≤ 65535 → k.decay ≤ 65535 → k.sustain ≤ 255 → k.release ≤ 65535 →
        loads 6 (BitVec.ofNat 8 i.val) k.bytes { left with envelopes := s.envelopes.set i.val k i.isLt }) ∧
      (∀ (i : Fin 16) (bs : List Byte) (r : Reflex), reflexOf bs = some r → r.cell ≠ .sys 3 →
        loads 7 (BitVec.ofNat 8 i.val) bs
          (left.setReflex i { r with lastValue := (s.cell r.cell).value, lastTag := (s.cell r.cell).tag })) ∧
      (∀ (i : Fin 24) (bs : List Byte) (b : Subscription), bs.length = 13 → subscriptionOf bs = some b → b.cell ≠ .sys 3 →
        let c := s.cell b.cell
        let expiry := if b.active = true ∧ b.mode ≠ .change then some (s.hubTime + BitVec.ofNat 32 b.period) else none
        let loaded := { b with lastValue := c.value, lastTag := c.tag, nextExpiry := expiry }
        (b.active = false → loads 8 (BitVec.ofNat 8 i.val) bs (left.setSub i loaded)) ∧
        (b.active = true → (s.link b.target.link).up = false →
          loads 8 (BitVec.ofNat 8 i.val) bs (left.setSub i { loaded with skipped := 1 })) ∧
        (b.active = true → (s.link b.target.link).up = true → 1 ≤ s.free → (s.link b.target.link).normal.length < 24 →
          loads 8 (BitVec.ofNat 8 i.val) bs
            (((left.withFree (s.free - 1)).withNormal b.target.link (reportFrame i loaded c s.hubTime)).setSub i
              { loaded with lastReport := some s.hubTime, pending := false, attemptDue := false }))) ∧
      (∀ g : SupplySettings, 4800 ≤ g.low → g.low ≤ 9000 → 4500 ≤ g.critical → g.critical < g.low → g.hysteresis ≤ 1000 →
        4800 ≤ g.nominal → g.nominal ≤ 9000 → loads 9 0 g.bytes { left with supply := { s.supply with settings := g } }) ∧
      (∀ g : SoundSettings, g.masterGain ≤ 256 → g.idleOff ≤ 65535 →
        loads 10 0 g.bytes (if s.amp = .on ∧ timerReached s.hubTime s.idleTimer g.idleOff = true
          then { left with sound := g, amp := .off, idleTimer := none, speaker := 0 } else { left with sound := g })) ∧
      (∀ a b : Nat, 8 ≤ a → a ≤ 48 → 8 ≤ b → b ≤ 48 → (s.link .radio).outstanding ≤ a → (s.link .controller).outstanding ≤ b →
        a ≤ (s.link .radio).ceiling → b ≤ (s.link .controller).ceiling →
        loads 11 0 [BitVec.ofNat 8 a, BitVec.ofNat 8 b]
          ((left.setLink .radio { s.link .radio with ceiling := a }).setLink .controller
            { s.link .controller with ceiling := b })) ∧
      (∀ r : Option Endpoint, loads 12 0 (routeBytes r) { left with supply := { s.supply with eventRoute := r } }) ∧
      (∀ (v : VoiceId) (bs : List Byte), readTable .voice v.val s = some bs →
        takes [3, 15, BitVec.ofNat 8 v.val] (3 :: 0 :: bs)
          (left.setVoice v { s.voice v with overflows := 0, underruns := 0, formatErrors := 0 })) ∧
      (∀ bs : List Byte, readTable .mixer 0 s = some bs → takes [3, 16, 0] (3 :: 0 :: bs) { left with clips := 0 }) ∧
      (∀ (p : Port) (mode : Byte), s.stillPort p → (s.flag p).due = 0 →
        let r := s.port p
        let a := s.acquisition p
        let controls (operation : Byte) (t : State) : Prop :=
          takes [4, BitVec.ofNat 8 p.code, operation, mode] [4, 0] (t.noted s)
        controls 0 (left.portResetTo p band) ∧ (r.state = .active → controls 1 (left.portSuspended p)) ∧
        (r.state = .suspended → r.cls = .touch →
          controls 2 ((left.portActive p).firstSample p (if 2048 < raw.val then 1 else 0))) ∧
        ∀ d, r.state = .active → r.cls = .smart → r.modeChange = none → r.description = some d →
          mode.toNat < d.modes.length →
          (r.window.isSome ∨ a.pollWindow.isSome → controls 3 (left.setPort p { r with modeChange := some mode.toNat })) ∧
          (r.window = none → a.pollWindow = none → controls 3 (left.selectSent p mode.toNat))) ∧
      (∀ (p : Port) (m : Motor), s.motor p = some m → m.state = .locked → m.silent →
        takes [5, BitVec.ofNat 8 p.code] [5, 0] (left.setMotor p (some { m with state := .idle }))) ∧
      (∀ i : Fin 16, takes [6, BitVec.ofNat 8 i.val] [6, 0] (left.setReflex i { s.reflex i with state := .armed })) ∧
      (∀ (p : Port) (mask : Byte),
        let r := s.flag p
        takes [7, BitVec.ofNat 8 p.code] [7, 0, r.flags.zeroExtend 8, r.mask.zeroExtend 8]
          (left.setFlagRec p { r with flags := 0, due := 0 }) ∧
        (mask.toNat < 32 →
          takes [11, BitVec.ofNat 8 p.code, mask] [11, 0] (left.setFlagRec p
            { r with mask := mask.truncate 5
                     due := (r.due &&& mask.truncate 5) ||| (r.flags &&& mask.truncate 5 &&& ~~~r.mask) }))) ∧
      (let a := s.attention
       takes [8] ([8, 0] ++ le16 a.latches.toNat ++ le16 a.mask.toNat ++ [BitVec.ofNat 8 a.mode.code])
          { left with attention := { a with latches := 0 } } ∧
        ∀ (mask : BitVec 16) (mode : LineMode), mask.toNat < 4096 →
          takes (9 :: (le16 mask.toNat ++ [BitVec.ofNat 8 mode.code])) [9, 0]
            { left with attention :=
                if a.mode = .pulse ∧ mode = .level then
                  { a with mask := mask.truncate 12, mode := mode, owed := 0
                           pulse := if a.pulse = .low then .gap else a.pulse }
                else { a with mask := mask.truncate 12, mode := mode } }) ∧
      ∀ l : Link, takes [10, BitVec.ofNat 8 l.code] ([10, 0] ++ (s.link l).counters.bytes)
        (left.setLink l { s.link l with counters := LinkCounters.zero })) ∧
    ((s.link e.link).up = true → e.frame.payload = [12] →
      considered = .next { s with mgmt := { s.mgmt with resetTaken := some o } }))

/-- IDENTIFY is answered OK with the vendor code, the part code, the revision and the sizes of the hub (R188).
Premises: the hub runs, the pool is conserved, and nothing watches S3. Model's choices: a request that arrives as a
command has no chain, so its reply's pages leave free (log entry 7). -/
def Obligations.IdentifyAnswersWithTheHubsCodes : Prop :=
  ∀ (o : Origin) (s : State), s.quiet → s.canAnswer o 12 →
    exec (.identify o) s = .next (s.answered o [1, 0, 0x31, 0x5A, 0x6C, 0x02, 1, 6, 4, 128, 16, 24])

/-- A READ of a table other than VOICE and MIXER is answered with the entry and changes nothing (R189): for each of
the fifteen tables with the bytes of its record, little end first (R200), an optional field of one byte as 255 and an
optional route as 255 and 0 where absent, and an optional time with its presence byte (R197). A motor that is DETACHED
and a port without a description are answered NO_DEVICE. Premises: the hub runs, the pool is conserved, and nothing
watches S3. Model's choices: a request that arrives as a command has no chain, so its reply's pages leave free (log
entry 7); a loaded record comes into force at the next period, and READ returns it before (log entry 22); the codes of
two-valued fields (log entry 24); RADIO's ceiling stands first in a LINK_SETTINGS record (log entry 45). -/
def Obligations.ReadAnswersWithTheEntry : Prop :=
  ∀ (o : Origin) (s : State), s.quiet →
    (∀ (t i : Byte) (tab : Table) (bs : List Byte), Table.ofCode t.toNat = some tab → tab ≠ .voice → tab ≠ .mixer →
      i.toNat < tab.entries → readTable tab i.toNat s = some bs → s.canAnswer o (bs.length + 2) →
      exec (.read o t i) s = .next (s.answered o (3 :: 0 :: bs))) ∧
    let gives (table : Byte) (index : Nat) (bs : List Byte) : Prop :=
      s.canAnswer o (bs.length + 2) → exec (.read o table (BitVec.ofNat 8 index)) s = .next (s.answered o (3 :: 0 :: bs))
    (∀ (l : Link) (c : Channel), gives 0 (16 * l.code + c.val) (match s.route l c with
      | .drop => [0, 0, 0, 0]
      | .management => [1, 0, 0, 0]
      | .motor p => [2, BitVec.ofNat 8 p.code, 0, 0]
      | .sound v => [3, 0, BitVec.ofNat 8 v.val, 0]
      | .pass out => [4, 0, 0, BitVec.ofNat 8 out.val])) ∧
    (∀ (i : Fin 3) (k : MotorClass), [MotorClass.s, .m, .l][i] = k →
      let e := s.classes.get k
      gives 1 i.val (le16 e.countsPerRev ++ le16 e.ratedMax ++ le16 e.kp ++ le16 e.ki ++ le16 e.kf)) ∧
    (∀ (p : Port) (m : Motor), s.motor p = some m →
      let g := m.loaded.getD m.settings
      gives 2 p.code (le16 g.kp ++ le16 g.ki ++ le16 g.kf ++ leInt g.integralLimit ++ le16 g.dutyMax ++
        le16 g.currentLimit ++ le16 g.stallDuty ++ le16 g.stallSpeed ++ le16 g.stallTime ++ le16 g.tolerance ++
        le16 g.settleTimeout ++ [if g.compensation then 0 else 1, BitVec.ofNat 8 g.lossAction.code,
          BitVec.ofNat 8 g.watched.code, BitVec.ofNat 8 g.lowWater] ++ routeBytes g.noticeRoute)) ∧
    (∀ p : Port, s.motor p = none → s.canAnswer o 2 →
      exec (.read o 2 (BitVec.ofNat 8 p.code)) s = .next (s.answered o [3, 6])) ∧
    (∀ p : Port,
      let g := (s.port p).settings
      gives 3 p.code (le16 g.analogInterval ++ le16 g.pollInterval ++
        [match g.mode with
          | some m => BitVec.ofNat 8 m
          | none => 255,
         match g.calibration with
          | some i => BitVec.ofNat 8 i.val
          | none => 255,
         BitVec.ofNat 8 g.rounding.code, BitVec.ofNat 8 g.policy.code] ++ routeBytes g.eventRoute)) ∧
    (∀ i : Fin 6,
      let t := s.calibration.get i
      gives 4 i.val (BitVec.ofNat 8 t.length :: t.flatMap fun b => le16 b.raw ++ leInt b.val)) ∧
    (∀ i : Fin 4, gives 5 i.val ((s.wavetables.get i).toList.flatMap fun v => le16 (BitVec.ofInt 16 v).toNat)) ∧
    (∀ i : Fin 8,
      let e := s.envelopes.get i
      gives 6 i.val (le16 e.attack ++ le16 e.decay ++ [BitVec.ofNat 8 e.sustain] ++ le16 e.release)) ∧
    (∀ i : Fin 16,
      let r := s.reflex i
      gives 7 i.val (r.loadBytes ++ leInt r.lastValue ++ [BitVec.ofNat 8 r.lastTag.code, BitVec.ofNat 8 r.fireCount] ++
        match r.lastOutcome with
        | .nothing => [0, 0]
        | .done => [1, 0]
        | .noTarget => [2, 0]
        | .refused code => [3, BitVec.ofNat 8 code.code])) ∧
    (∀ i : Fin 24,
      let b := s.sub i
      let time (t : Option Time) : List Byte := match t with
        | some t => 1 :: le32 t
        | none => [0, 0, 0, 0, 0]
      gives 8 i.val (b.loadBytes ++ leInt b.lastValue ++ [BitVec.ofNat 8 b.lastTag.code] ++ time b.lastReport ++
        time b.nextExpiry ++ [if b.pending then 1 else 0] ++ le16 b.skipped)) ∧
    (let g := s.supply.settings
     gives 9 0 (le16 g.low ++ le16 g.critical ++ le16 g.hysteresis ++ le16 g.nominal)) ∧
    gives 10 0 (le16 s.sound.masterGain ++ le16 s.sound.idleOff) ∧
    gives 11 0 [BitVec.ofNat 8 (s.link .radio).ceiling, BitVec.ofNat 8 (s.link .controller).ceiling] ∧
    gives 12 0 (match s.supply.eventRoute with
      | some e => [BitVec.ofNat 8 e.link.code, BitVec.ofNat 8 e.channel.val]
      | none => [255, 0]) ∧
    (∀ (p : Port) (d : Description), (s.port p).description = some d →
      gives 13 p.code (le16 d.typeCode ++
        [BitVec.ofNat 8 d.highestRate, BitVec.ofNat 8 d.defaultMode, BitVec.ofNat 8 d.modes.length] ++
        d.modes.flatMap fun m => [BitVec.ofNat 8 m.valueCount, BitVec.ofNat 8 m.format.code] ++ leInt m.rawMin ++
          leInt m.rawMax ++ leInt m.siMin ++ leInt m.siMax ++ le16 m.minInterval)) ∧
    (∀ p : Port, (s.port p).description = none → s.canAnswer o 2 →
      exec (.read o 13 (BitVec.ofNat 8 p.code)) s = .next (s.answered o [3, 6])) ∧
    ∀ c : CellId,
      let r := s.cell c
      gives 14 c.code (leInt r.value ++ [BitVec.ofNat 8 r.tag.code, BitVec.ofNat 8 r.writer.code] ++ le32 r.timestamp ++
        [r.updateCount])

/-- READ of VOICE and of MIXER, READ_FLAGS, READ_ATTENTION and READ_COUNTERS answer with what they read and clear it:
the counters of a voice and the clip counter (R163), the flags and the raises due with the mask kept (R92), the
latches with the mask and the line mode kept, and the nine counters of the link (R191). Premises: the hub runs, the
pool is conserved, and nothing watches S3. Model's choices: a request that arrives as a command has no chain, so its
reply's pages leave free (log entry 7). -/
def Obligations.ClearingReadsClearWhatTheyRead : Prop :=
  ∀ (o : Origin) (s : State), s.quiet →
    (∀ v : VoiceId, s.canAnswer o 14 →
      exec (.readVoice o (BitVec.ofNat 8 v.val)) s =
        .next ((s.setVoice v { s.voice v with overflows := 0, underruns := 0, formatErrors := 0 }).answered o
          (let r := s.voice v
           [3, 0, (match r.state with
             | .idle => 0
             | .waitingAmp => 1
             | .playing => 2
             | .releasing => 3
             | .starved => 4), if r.loopOn then 1 else 0, BitVec.ofNat 8 r.notes.length, BitVec.ofNat 8 r.stream.length] ++
            (match r.notes with
              | n :: _ => [match n.kind with
                  | .tone => 0
                  | .stream => 1
                  | .rest => 2, n.tag]
              | [] => [255, 0]) ++ le16 r.overflows ++ le16 r.underruns ++ le16 r.formatErrors))) ∧
    (∀ i : Byte, 4 ≤ i.toNat → s.canAnswer o 2 → exec (.readVoice o i) s = .next (s.answered o [3, 3])) ∧
    (s.canAnswer o 7 →
      exec (.readMixer o 0) s =
        .next ({ s with clips := 0 }.answered o
          (([3, 0, match s.amp with
            | .off => 0
            | .warming _ => 1
            | .on => 2] : List Byte) ++ le16 (min s.sound.masterGain (gainCapOf s.supply.state)) ++ le16 s.clips))) ∧
    (∀ p : Port, s.canAnswer o 4 →
      exec (.readFlags o (BitVec.ofNat 8 p.code)) s =
        .next ((s.setFlagRec p { s.flag p with flags := 0, due := 0 }).answered o
          [7, 0, (s.flag p).flags.zeroExtend 8, (s.flag p).mask.zeroExtend 8])) ∧
    (s.canAnswer o 7 →
      exec (.readAttention o) s =
        .next ({ s with attention := { s.attention with latches := 0 } }.answered o
          ([8, 0] ++ le16 s.attention.latches.toNat ++ le16 s.attention.mask.toNat ++
            [BitVec.ofNat 8 s.attention.mode.code]))) ∧
    ∀ l : Link, s.canAnswer o 20 →
      exec (.readCounters o (BitVec.ofNat 8 l.code)) s =
        .next ((s.setLink l { s.link l with counters := LinkCounters.zero }).answered o
          (let c := (s.link l).counters
           [10, 0] ++ le16 c.framesReceived ++ le16 c.formatErrors ++ le16 c.crcErrors ++ le16 c.overruns ++ le16 c.badKindDrops ++
            le16 c.routeDrops ++ le16 c.downLinkDrops ++ le16 c.lostNotices ++ le16 c.framesTransmitted))

/-- SET_ATTENTION replaces the mask and the line mode, and a change from PULSE to LEVEL ends a pulse and drops the
owed ones (R193, R195). SET_FLAG_MASK replaces a port's mask: a set flag that it unmasks becomes due, and a flag it
masks is due no longer (R91). REFLEX_ARM arms a reflex with its record kept (R176). MOTOR_UNLOCK takes a LOCKED motor
to IDLE with output BRAKE (R110), and its MOTOR_STATE notice stands ahead of the reply (R109, R190). Premises: the hub
runs, the pool is conserved, and nothing watches S3; where the motor has a notice route, no request is in progress,
and free and the urgent queue of the reply have room for the notice and the reply. Model's choices: a request that
arrives as a command has no chain, so its reply's pages leave free (log entry 7); a request's reply takes its pages
and its place on the urgent queue before the request's own effects (log entry 12); a pulse that a change to LEVEL ends
leaves the gap after it (log entry 29). -/
def Obligations.SettingRequestsTakeEffect : Prop :=
  ∀ (o : Origin) (s : State), s.quiet → s.canAnswer o 2 →
    (∀ (mask : BitVec 16) (mode : LineMode), mask.toNat < 4096 →
      exec (.setAttention o mask (BitVec.ofNat 8 mode.code)) s =
        .next (State.answered
          { s with attention :=
              if s.attention.mode = .pulse ∧ mode = .level then
                { s.attention with mask := mask.truncate 12, mode := mode, owed := 0
                                   pulse := if s.attention.pulse = .low then .gap else s.attention.pulse }
              else { s.attention with mask := mask.truncate 12, mode := mode } } o [9, 0])) ∧
    (∀ (p : Port) (mask : Byte), mask.toNat < 32 →
      let r := s.flag p
      exec (.setFlagMask o (BitVec.ofNat 8 p.code) mask) s =
        .next ((s.setFlagRec p
          { r with mask := mask.truncate 5
                   due := (r.due &&& mask.truncate 5) ||| (r.flags &&& mask.truncate 5 &&& ~~~r.mask) }).answered
            o [11, 0])) ∧
    (∀ i : Fin 16,
      exec (.reflexArm o (BitVec.ofNat 8 i.val)) s =
        .next ((s.setReflex i { s.reflex i with state := .armed }).answered o [6, 0])) ∧
    ∀ (p : Port) (m : Motor), s.motor p = some m → m.state = .locked →
      (m.silent ∨ s.reports ∧ 2 ≤ s.free ∧ (s.link o.link).urgent.length < 7) →
      exec (.motorUnlock o (BitVec.ofNat 8 p.code)) s =
        .next ((s.motorMoved p m { m with state := .idle } []).answered o [5, 0])

/-- A request that fails a check is answered with its status and changes nothing else (R187): BAD_INDEX for a port, an
index or a link out of range, BAD_TABLE for a READ of an unknown table, BAD_VALUE for a record of another length or
with a field out of its range, spelled byte by byte for each table (R33, R44, R79, R93, R94, R130, R135, R138, R175,
R178, R200), and for a mode or a mask out of range (R58, R92), IN_USE for a class that a motor holds (R93), for a
calibration table that an ACTIVE port names and for another index while the port is ACTIVE (R79, R80), NO_DEVICE for
the settings and the lock of a motor that is absent (R94, R110), and WRONG_STATE for a port or a motor in another
state (R58, R60, R61, R110). Premises: the hub runs, the pool is conserved, and nothing watches S3. Model's choices: a
request that arrives as a command has no chain, so its reply's pages leave free (log entry 7); RADIO's ceiling stands
first in a LINK_SETTINGS record (log entry 45). -/
def Obligations.RefusedRequestsChangeNothing : Prop :=
  ∀ (o : Origin) (s : State), s.quiet → s.canAnswer o 2 →
    let refuses (c : Instr) (code : Byte) : Prop := exec c s = .next (s.answered o [2, code])
    (∀ (i : Byte) (bs : List Byte),
      (32 ≤ i.toNat → refuses (.loadRoute o i bs) 3) ∧ (3 ≤ i.toNat → refuses (.loadMotorClass o i bs) 3) ∧
      (6 ≤ i.toNat → refuses (.loadMotorSettings o i bs) 3 ∧ refuses (.loadPortSettings o i bs) 3 ∧
        refuses (.loadCalibration o i bs) 3) ∧
      (4 ≤ i.toNat → refuses (.loadWavetable o i bs) 3) ∧ (8 ≤ i.toNat → refuses (.loadEnvelope o i bs) 3) ∧
      (16 ≤ i.toNat → refuses (.loadReflex o i bs) 3) ∧ (24 ≤ i.toNat → refuses (.loadSubscription o i bs) 3) ∧
      (1 ≤ i.toNat → refuses (.loadSupplySettings o i bs) 3 ∧ refuses (.loadSoundSettings o i bs) 3 ∧
        refuses (.loadLinkSettings o i bs) 3 ∧ refuses (.loadEventRoutes o i bs) 3)) ∧
    (∀ (i : Byte) (bs : List Byte),
      let n (k : Nat) : Nat := (bs.getD k 0).toNat
      let w (k : Nat) : Nat := n k + 256 * n (k + 1)
      let z (k : Nat) : Int := (BitVec.ofNat 32 (w k + 65536 * w (k + 2))).toInt
      let noRoute (k : Nat) : Prop := n k ≠ 255 ∧ (1 < n k ∨ 15 < n (k + 1))
      let size : Nat := [20, 3, 13, 2, 2].getD (n 15) 0
      (i.toNat < 32 →
        bs.length ≠ 4 ∨ 4 < n 0 ∨ n 0 = 2 ∧ 5 < n 1 ∨ n 0 = 3 ∧ 3 < n 2 ∨ n 0 = 4 ∧ 15 < n 3 →
        refuses (.loadRoute o i bs) 4) ∧
      (i.toNat < 3 → bs.length ≠ 10 ∨ w 0 = 0 ∨ w 2 = 0 ∨ 20000 < w 2 ∨ 4095 < w 4 ∨ 4095 < w 6 →
        refuses (.loadMotorClass o i bs) 4) ∧
      (∀ p : Port, i = BitVec.ofNat 8 p.code → bs.length ≠ 30 ∨ s.motor p ≠ none →
        bs.length ≠ 30 ∨ 4095 < w 0 ∨ 4095 < w 2 ∨ z 6 < 0 ∨ 10000000 < z 6 ∨ 10000 < w 10 ∨ 10000 < w 12 ∨ 10000 < w 14 ∨
          10000 < w 16 ∨ w 18 = 0 ∨ 10000 < w 20 ∨ 1 < n 24 ∨ 2 < n 25 ∨ 2 < n 26 ∨ 3 < n 27 ∨ noRoute 28 →
        refuses (.loadMotorSettings o i bs) 4) ∧
      (i.toNat < 6 →
        bs.length ≠ 10 ∨ w 0 = 0 ∨ 1000 < w 0 ∨ 1000 < w 2 ∨ n 4 ≠ 255 ∧ 7 < n 4 ∨ n 5 ≠ 255 ∧ 5 < n 5 ∨ 3 < n 6 ∨ 1 < n 7 ∨
          noRoute 8 →
        refuses (.loadPortSettings o i bs) 4) ∧
      (i.toNat < 6 →
        n 0 < 2 ∨ 16 < n 0 ∨ bs.length ≠ 1 + 6 * n 0 ∨ (∃ k, k + 1 < n 0 ∧ w (7 + 6 * k) ≤ w (1 + 6 * k)) ∨
          4095 < w (6 * n 0 - 5) →
        refuses (.loadCalibration o i bs) 4) ∧
      (i.toNat < 4 → bs.length ≠ 128 → refuses (.loadWavetable o i bs) 4) ∧
      (i.toNat < 8 → bs.length ≠ 7 → refuses (.loadEnvelope o i bs) 4) ∧
      (i.toNat < 16 →
        bs.length ≠ 19 + size ∨ 27 < n 0 ∨ 6 < n 1 ∨ z 10 < 0 ∨ (n 1 = 4 ∨ n 1 = 5) ∧ z 6 < z 2 ∨ 1 < n 14 ∨ 4 < n 15 ∨
          n 15 < 2 ∧ 5 < n 16 ∨ n 15 = 1 ∧ (2 < n 17 ∨ 1 < n 18) ∨ (n 15 = 2 ∨ n 15 = 3) ∧ 3 < n 16 ∨ n 15 = 3 ∧ 1 < n 17 ∨
          n 15 = 4 ∧ (1 < n 16 ∨ 15 < n 17) ∨ noRoute (16 + size) ∨ 1 < n (18 + size) →
        refuses (.loadReflex o i bs) 4) ∧
      (i.toNat < 24 →
        bs.length ≠ 13 ∨ 27 < n 0 ∨ 1 < n 1 ∨ 15 < n 2 ∨ 2 < n 3 ∨ z 6 < 0 ∨ 1 < n 12 → refuses (.loadSubscription o i bs) 4) ∧
      (bs.length ≠ 8 ∨ w 0 < 4800 ∨ 9000 < w 0 ∨ w 2 < 4500 ∨ w 0 ≤ w 2 ∨ 1000 < w 4 ∨ w 6 < 4800 ∨ 9000 < w 6 →
        refuses (.loadSupplySettings o 0 bs) 4) ∧
      (bs.length ≠ 4 ∨ 256 < w 0 → refuses (.loadSoundSettings o 0 bs) 4) ∧
      (bs.length ≠ 2 ∨ n 0 < 8 ∨ 48 < n 0 ∨ n 1 < 8 ∨ 48 < n 1 → refuses (.loadLinkSettings o 0 bs) 4) ∧
      (bs.length ≠ 2 ∨ noRoute 0 → refuses (.loadEventRoutes o 0 bs) 4)) ∧
    (∀ (p : Port) (g : MotorSettings), s.motor p = none → g.inRange = true →
      refuses (.loadMotorSettings o (BitVec.ofNat 8 p.code) g.bytes) 6) ∧
    (∀ (i : Fin 3) (c : MotorClass) (e : ClassEntry) (p : Port), MotorClass.ofIndex i.val = some c → 1 ≤ e.countsPerRev →
      e.countsPerRev ≤ 65535 → 1 ≤ e.ratedMax → e.ratedMax ≤ 20000 → e.kp ≤ 4095 → e.ki ≤ 4095 → e.kf ≤ 65535 →
      s.motor p ≠ none → (s.port p).cls = .motor c → refuses (.loadMotorClass o (BitVec.ofNat 8 i.val) e.bytes) 5) ∧
    (∀ (i : Fin 6) (t : List Breakpoint) (p : Port), 2 ≤ t.length → t.length ≤ 16 → breakpointsRise t = true →
      (s.port p).state = .active → (s.port p).settings.calibration = some i →
      refuses (.loadCalibration o (BitVec.ofNat 8 i.val) (calibrationBytes t)) 5) ∧
    (∀ (p : Port) (g : PortSettings), 1 ≤ g.analogInterval → g.analogInterval ≤ 1000 → g.pollInterval ≤ 1000 →
      (∀ m, g.mode = some m → m < 8) → (s.port p).state = .active → g.calibration ≠ (s.port p).settings.calibration →
      refuses (.loadPortSettings o (BitVec.ofNat 8 p.code) g.bytes) 5) ∧
    (∀ t i : Byte, 17 ≤ t.toNat → exec (.read o t i) s = .next (s.answered o [3, 2])) ∧
    (∀ (t i : Byte) (n : Nat), [32, 3, 6, 6, 6, 4, 8, 16, 24, 1, 1, 1, 1, 6, 28, 4, 1][t.toNat]? = some n → n ≤ i.toNat →
      exec (.read o t i) s = .next (s.answered o [3, 3])) ∧
    (∀ (p : Byte) (band : Band) (raw : RawSample) (mode : Byte), 6 ≤ p.toNat →
      ∀ c ∈ [Instr.portReset o p band, .portSuspend o p, .portResume o p raw, .selectMode o p mode],
        exec c s = .next (s.answered o [4, 3])) ∧
    (∀ p : Port, (s.port p).state ≠ .active →
      exec (.portSuspend o (BitVec.ofNat 8 p.code)) s = .next (s.answered o [4, 7])) ∧
    (∀ (p : Port) (raw : RawSample), (s.port p).state ≠ .suspended →
      exec (.portResume o (BitVec.ofNat 8 p.code) raw) s = .next (s.answered o [4, 7])) ∧
    (∀ (p : Port) (mode : Byte), (s.port p).cls ≠ .smart ∨ (s.port p).state ≠ .active ∨ (s.port p).modeChange ≠ none →
      exec (.selectMode o (BitVec.ofNat 8 p.code) mode) s = .next (s.answered o [4, 7])) ∧
    (∀ (p : Port) (mode : Byte) (d : Description), (s.port p).cls = .smart → (s.port p).state = .active →
      (s.port p).modeChange = none → (s.port p).description = some d → d.modes.length ≤ mode.toNat →
      exec (.selectMode o (BitVec.ofNat 8 p.code) mode) s = .next (s.answered o [4, 4])) ∧
    (∀ p mask : Byte, 6 ≤ p.toNat →
      exec (.motorUnlock o p) s = .next (s.answered o [5, 3]) ∧ exec (.setFlagMask o p mask) s = .next (s.answered o [11, 3])) ∧
    (∀ p : Port, s.motor p = none → exec (.motorUnlock o (BitVec.ofNat 8 p.code)) s = .next (s.answered o [5, 6])) ∧
    (∀ (p : Port) (m : Motor), s.motor p = some m → m.state ≠ .locked →
      exec (.motorUnlock o (BitVec.ofNat 8 p.code)) s = .next (s.answered o [5, 7])) ∧
    (∀ i : Byte, 16 ≤ i.toNat → exec (.reflexArm o i) s = .next (s.answered o [6, 3])) ∧
    (∀ p : Byte, 6 ≤ p.toNat → exec (.readFlags o p) s = .next (s.answered o [7, 3])) ∧
    (∀ (mask : BitVec 16) (mode : Byte), 4096 ≤ mask.toNat ∨ 2 ≤ mode.toNat →
      exec (.setAttention o mask mode) s = .next (s.answered o [9, 4])) ∧
    (∀ l : Byte, 2 ≤ l.toNat → exec (.readCounters o l) s = .next (s.answered o [10, 3])) ∧
    ∀ (p : Port) (mask : Byte), 32 ≤ mask.toNat →
      exec (.setFlagMask o (BitVec.ofNat 8 p.code) mask) s = .next (s.answered o [11, 4])

/-- The record of a LOAD of each table is read as the entry whose bytes it holds, and a segment and a note as theirs
(R197, R198, R200 and the rules of the tables). A loaded reflex has seen and fired nothing, and a loaded subscription
has reported nothing and owes a report where it is ACTIVE. A field of two or four bytes stands low byte first, a
signed one in two's complement (R197). Model's choices: the codes of two-valued fields (log entry 24); RADIO's ceiling
stands first in a LINK_SETTINGS record (log entry 45). -/
def Obligations.TableRecordsAreReadBack : Prop :=
  (∀ r : Route, routeEntryOf r.bytes = some r) ∧
  (∀ e : ClassEntry, 1 ≤ e.countsPerRev → e.countsPerRev ≤ 65535 → 1 ≤ e.ratedMax → e.ratedMax ≤ 20000 → e.kp ≤ 4095 →
    e.ki ≤ 4095 → e.kf ≤ 65535 → classEntryOf e.bytes = some e) ∧
  (∀ g : MotorSettings, g.inRange = true → motorSettingsOf g.bytes = some (some g)) ∧
  (∀ g : PortSettings, 1 ≤ g.analogInterval → g.analogInterval ≤ 1000 → g.pollInterval ≤ 1000 →
    (∀ m, g.mode = some m → m < 8) → portSettingsOf g.bytes = some g) ∧
  (∀ t : List Breakpoint, 2 ≤ t.length → t.length ≤ 16 → breakpointsRise t = true →
    (∀ b ∈ t, -2147483648 ≤ b.val ∧ b.val ≤ 2147483647) → calibrationOf (calibrationBytes t) = some t) ∧
  (∀ w : Vector Int 64, (∀ i : Fin 64, -32768 ≤ w.get i ∧ w.get i ≤ 32767) → wavetableOf (wavetableBytes w) = w) ∧
  (∀ e : Envelope, e.attack ≤ 65535 → e.decay ≤ 65535 → e.sustain ≤ 255 → e.release ≤ 65535 → envelopeOf e.bytes = e) ∧
  (∀ g : SupplySettings, 4800 ≤ g.low → g.low ≤ 9000 → 4500 ≤ g.critical → g.critical < g.low → g.hysteresis ≤ 1000 →
    4800 ≤ g.nominal → g.nominal ≤ 9000 → supplySettingsOf g.bytes = some g) ∧
  (∀ g : SoundSettings, g.masterGain ≤ 256 → g.idleOff ≤ 65535 → soundSettingsOf g.bytes = some g) ∧
  (∀ r : Option Endpoint, routeOf (byteAt (routeBytes r) 0) (byteAt (routeBytes r) 1) = some r) ∧
  (∀ r : Reflex, -2147483648 ≤ r.t → r.t ≤ 2147483647 → -2147483648 ≤ r.t2 → r.t2 ≤ 2147483647 →
    r.hysteresis ≤ 2147483647 → ((r.condition = .inside ∨ r.condition = .outside) → r.t ≤ r.t2) → r.state ≠ .fired →
    reflexOf r.loadBytes = some { r with lastValue := 0, lastTag := .empty, fireCount := 0, lastOutcome := .nothing }) ∧
  (∀ b : Subscription, 10 ≤ b.period → b.period ≤ 60000 → b.deadband ≤ 2147483647 → 10 ≤ b.minInterval →
    b.minInterval ≤ 1000 → b.loadBytes.length = 13 ∧ subscriptionOf b.loadBytes = some
      { b with lastValue := 0, lastTag := .empty, lastReport := none, nextExpiry := none, pending := b.active, skipped := 0
               attemptDue := false }) ∧
  (∀ a b : Nat, 8 ≤ a → a ≤ 48 → 8 ≤ b → b ≤ 48 → a + b ≤ 96 →
    ceilingsOf [BitVec.ofNat 8 a, BitVec.ofNat 8 b] = some (a, b)) ∧
  (∀ r : RawSegment, (segmentBytes r).length = 19 ∧ rawSegmentAt (segmentBytes r) 0 = r) ∧
  (∀ r : RawNote, (noteBytes r).length = 12 ∧ rawNoteAt (noteBytes r) 0 = r) ∧
  (∀ n : Nat, le16 n = [BitVec.ofNat 8 n, BitVec.ofNat 8 (n / 256)]) ∧
  (∀ t : Time, le32 t = [t.extractLsb' 0 8, t.extractLsb' 8 8, t.extractLsb' 16 8, t.extractLsb' 24 8]) ∧
  ∀ v : Int, leInt v = le32 (BitVec.ofInt 32 v)

/-- An accepted LOAD replaces its table entry and is answered OK with the table and the index (R189): a route (R33), a
motor class that no port holds (R93), the settings of a port (R44, R80), a calibration table that no ACTIVE port names
(R79), a wavetable (R136), an envelope (R137), the supply settings (R130) and the supply event route (R135); the
settings of an attached motor, which wait for its next control period (R94); the sound settings, which turn the
amplifier off where the idle timer has run for the new time (R138, R160); and a reflex, with the cell as it stands as
last seen (R175). Premises: the hub runs, the pool is conserved, and nothing watches S3. Model's choices: a request
that arrives as a command has no chain, so its reply's pages leave free (log entry 7); a loaded record comes into
force at the next period, and READ returns it before (log entry 22). -/
def Obligations.LoadsReplaceTableEntries : Prop :=
  ∀ (o : Origin) (s : State), s.quiet → s.canAnswer o 4 →
    (∀ (l : Link) (c : Channel) (r : Route),
      let i := BitVec.ofNat 8 (16 * l.code + c.val)
      exec (.loadRoute o i r.bytes) s = .next ((s.setRoute l c r).answered o [2, 0, 0, i])) ∧
    (∀ (i : Fin 3) (c : MotorClass) (e : ClassEntry), MotorClass.ofIndex i.val = some c → 1 ≤ e.countsPerRev →
      e.countsPerRev ≤ 65535 → 1 ≤ e.ratedMax → e.ratedMax ≤ 20000 → e.kp ≤ 4095 → e.ki ≤ 4095 → e.kf ≤ 65535 →
      (∀ p, s.motor p = none ∨ (s.port p).cls ≠ .motor c) →
      exec (.loadMotorClass o (BitVec.ofNat 8 i.val) e.bytes) s =
        .next ({ s with classes := s.classes.set c e }.answered o [2, 0, 1, BitVec.ofNat 8 i.val])) ∧
    (∀ (p : Port) (g : PortSettings), 1 ≤ g.analogInterval → g.analogInterval ≤ 1000 → g.pollInterval ≤ 1000 →
      (∀ m, g.mode = some m → m < 8) →
      ((s.port p).state = .active → g.calibration = (s.port p).settings.calibration) →
      exec (.loadPortSettings o (BitVec.ofNat 8 p.code) g.bytes) s =
        .next ((s.setPort p { s.port p with settings := g }).answered o [2, 0, 3, BitVec.ofNat 8 p.code])) ∧
    (∀ (i : Fin 6) (t : List Breakpoint), 2 ≤ t.length → t.length ≤ 16 → breakpointsRise t = true →
      (∀ b ∈ t, -2147483648 ≤ b.val ∧ b.val ≤ 2147483647) →
      (∀ p, (s.port p).state = .active → (s.port p).settings.calibration ≠ some i) →
      exec (.loadCalibration o (BitVec.ofNat 8 i.val) (calibrationBytes t)) s =
        .next ({ s with calibration := s.calibration.set i.val t i.isLt }.answered o [2, 0, 4, BitVec.ofNat 8 i.val])) ∧
    (∀ (i : Fin 4) (w : Vector Int 64), (∀ k : Fin 64, -32768 ≤ w.get k ∧ w.get k ≤ 32767) →
      exec (.loadWavetable o (BitVec.ofNat 8 i.val) (wavetableBytes w)) s =
        .next ({ s with wavetables := s.wavetables.set i w }.answered o [2, 0, 5, BitVec.ofNat 8 i.val])) ∧
    (∀ (i : Fin 8) (e : Envelope), e.attack ≤ 65535 → e.decay ≤ 65535 → e.sustain ≤ 255 → e.release ≤ 65535 →
      exec (.loadEnvelope o (BitVec.ofNat 8 i.val) e.bytes) s =
        .next ({ s with envelopes := s.envelopes.set i.val e i.isLt }.answered o [2, 0, 6, BitVec.ofNat 8 i.val])) ∧
    (∀ g : SupplySettings, 4800 ≤ g.low → g.low ≤ 9000 → 4500 ≤ g.critical → g.critical < g.low → g.hysteresis ≤ 1000 →
      4800 ≤ g.nominal → g.nominal ≤ 9000 →
      exec (.loadSupplySettings o 0 g.bytes) s =
        .next ({ s with supply := { s.supply with settings := g } }.answered o [2, 0, 9, 0])) ∧
    (∀ r : Option Endpoint,
      exec (.loadEventRoutes o 0 (routeBytes r)) s =
        .next ({ s with supply := { s.supply with eventRoute := r } }.answered o [2, 0, 12, 0])) ∧
    (∀ (p : Port) (m : Motor) (g : MotorSettings), s.motor p = some m → g.inRange = true →
      exec (.loadMotorSettings o (BitVec.ofNat 8 p.code) g.bytes) s =
        .next ((s.setMotor p (some { m with loaded := some g })).answered o [2, 0, 2, BitVec.ofNat 8 p.code])) ∧
    (∀ g : SoundSettings, g.masterGain ≤ 256 → g.idleOff ≤ 65535 →
      exec (.loadSoundSettings o 0 g.bytes) s =
        .next (State.answered (if s.amp = .on ∧ timerReached s.hubTime s.idleTimer g.idleOff = true
          then { s with sound := g, amp := .off, idleTimer := none, speaker := 0 } else { s with sound := g }) o
            [2, 0, 10, 0])) ∧
    ∀ (i : Fin 16) (bs : List Byte) (r : Reflex), reflexOf bs = some r → r.cell ≠ .sys 3 →
      exec (.loadReflex o (BitVec.ofNat 8 i.val) bs) s =
        .next ((s.setReflex i { r with lastValue := (s.cell r.cell).value, lastTag := (s.cell r.cell).tag }).answered o
          [2, 0, 7, BitVec.ofNat 8 i.val])

/-- A LOAD of SUBSCRIPTION stores the record with the cell as it stands as last reported. An ACTIVE one attempts a
report at once: it is built where its link is UP and has room, and is counted as skipped where its link is DOWN (R178,
R181, R182). Premises: the hub runs, the pool is conserved, and nothing watches S3. Model's choices: a request that
arrives as a command has no chain, so its reply's pages leave free (log entry 7). -/
def Obligations.LoadOfSubscriptionAttemptsAReport : Prop :=
  ∀ (o : Origin) (i : Fin 24) (bs : List Byte) (b : Subscription) (s : State), s.quiet → s.canAnswer o 4 →
    bs.length = 13 → subscriptionOf bs = some b → b.cell ≠ .sys 3 →
    let c := s.cell b.cell
    let expiry := if b.active = true ∧ b.mode ≠ .change then some (s.hubTime + BitVec.ofNat 32 b.period) else none
    let loaded := { b with lastValue := c.value, lastTag := c.tag, nextExpiry := expiry }
    let reply : List Byte := [2, 0, 8, BitVec.ofNat 8 i.val]
    let answer := exec (.loadSubscription o (BitVec.ofNat 8 i.val) bs) s
    (b.active = false → answer = .next ((s.setSub i loaded).answered o reply)) ∧
    (b.active = true → (s.link b.target.link).up = false →
      answer = .next ((s.setSub i { loaded with skipped := 1 }).answered o reply)) ∧
    (b.active = true → (s.link b.target.link).up = true → 2 ≤ s.free → (s.link b.target.link).normal.length < 24 →
      answer = .next ((((s.withFree (s.free - 1)).withNormal b.target.link (reportFrame i loaded c s.hubTime)).setSub i
        { loaded with lastReport := some s.hubTime, pending := false, attemptDue := false }).answered o reply))

/-- A LOAD of LINK_SETTINGS replaces both ceilings, and a link whose ceiling rose is reviewed with the pages that the
reply left free (R5, R8); a ceiling below the credit outstanding is refused with IN_USE. Premises: the hub runs, the
pool is conserved, and nothing watches S3. Model's choices: a request that arrives as a command has no chain, so its
reply's pages leave free (log entry 7); a request's reply takes its pages and its place on the urgent queue before the
request's own effects (log entry 12); RADIO's ceiling stands first in a LINK_SETTINGS record (log entry 45). -/
def Obligations.LoadOfCeilingsReviewsTheLink : Prop :=
  ∀ (o : Origin) (a b : Nat) (s : State), s.quiet → s.linksSound → s.canAnswer o 4 → 8 ≤ a → a ≤ 48 → 8 ≤ b →
    b ≤ 48 → a + b ≤ 96 →
    let answer := exec (.loadLinkSettings o 0 [BitVec.ofNat 8 a, BitVec.ofNat 8 b]) s
    let radio := { s.link .radio with ceiling := a }
    let controller := { s.link .controller with ceiling := b }
    let set := (s.setLink .radio radio).setLink .controller controller
    ((a < radio.outstanding ∨ b < controller.outstanding) → answer = .next (s.answered o [2, 5])) ∧
    (radio.outstanding ≤ a → controller.outstanding ≤ b →
      (a ≤ (s.link .radio).ceiling → b ≤ (s.link .controller).ceiling → answer = .next (set.answered o [2, 0, 11, 0])) ∧
      ((s.link .radio).ceiling < a → b ≤ (s.link .controller).ceiling →
        let g := radio.grant (s.free - 1)
        answer = .next (if g = 0 then set.answered o [2, 0, 11, 0]
          else ((set.withFree (s.free - g)).setLink .radio
            { radio with outstanding := radio.outstanding + g
                         pendingCredit := min 255 (radio.pendingCredit + g) }).answered o [2, 0, 11, 0])) ∧
      (a ≤ (s.link .radio).ceiling → (s.link .controller).ceiling < b →
        let g := controller.grant (s.free - 1)
        answer = .next (if g = 0 then set.answered o [2, 0, 11, 0]
          else ((set.withFree (s.free - g)).setLink .controller
            { controller with outstanding := controller.outstanding + g
                              pendingCredit := min 255 (controller.pendingCredit + g) }).answered o [2, 0, 11, 0])) ∧
      ((s.link .radio).ceiling < a → (s.link .controller).ceiling < b →
        let r := reviewBoth { set with free := s.free - 1 }
        ∃ t, answer = .next t ∧ t.free = r.free ∧
          t.links = (r.withUrgent o.link (replyTo o [2, 0, 11, 0])).links))

/-- PORT_CONTROL (R58, R60 to R62): RESET detaches the port and reads its band; SUSPEND stops its sampling, makes its
cells STALE and halts its motor; RESUME brings a passive port back with a first sample, a motor IDLE with COAST, and a
smart port by CONFIGURE; SELECT_MODE records the mode and, with the line free, sends SELECT. The event of an entry to
EMPTY or ACTIVE, and the notices of a motor that a SUSPEND stops, are handed over before the reply, which stands
behind them (R48, R108, R109, R190). Premises: the hub runs, the pool is conserved, and nothing watches S3; nothing
acts on a write of the port's cells, and its motor has no route; where an event or a notice has a route, no request is
in progress, and free and the urgent queue of the reply have room for them and the reply. Model's choices: a request
that arrives as a command has no chain, so its reply's pages leave free (log entry 7); a request's reply takes its
pages and its place on the urgent queue before the request's own effects (log entry 12); headers, payloads and
messages arrive whole, and a window opens as its message is sent (log entry 19); pin levels and readings are operands
(log entry 25); SEGMENT_END notices come first, then LOW_WATER with the tag of the head that ended, then MOTOR_STATE
(log entry 31). -/
def Obligations.PortControlActsOnThePort : Prop :=
  (∀ (o : Origin) (p : Port) (s : State), s.quiet → s.calmPort p → s.canAnswer o 2 → (s.flag p).due = 0 →
    ((s.port p).settings.eventRoute = none ∨ 2 ≤ s.free ∧ (s.link o.link).urgent.length < 7) →
    let i := BitVec.ofNat 8 p.code
    let r := s.port p
    let a := s.acquisition p
    let answers (c : Instr) (t : State) : Prop := exec c s = .next ((t.answered o [4, 0]).noted s)
    (∀ band : Band, answers (.portReset o i band) (s.portResetTo p band)) ∧
    (r.state = .active → answers (.portSuspend o i) (s.portSuspended p)) ∧
    (∀ raw : RawSample, r.state = .suspended → r.cls = .touch →
      answers (.portResume o i raw) ((s.portActive p).firstSample p (if 2048 < raw.val then 1 else 0))) ∧
    (∀ raw : RawSample, r.state = .suspended → r.cls = .light → r.settings.calibration = none →
      answers (.portResume o i raw) ((s.portActive p).firstSample p raw.val)) ∧
    (∀ (raw : RawSample) (c : MotorClass) (m : Motor), r.state = .suspended → r.cls = .motor c → s.motor p = some m →
      answers (.portResume o i raw) ((s.portActive p).setMotor p (some (m.stoppedIn .idle .coast)))) ∧
    (∀ raw : RawSample, r.state = .suspended → r.cls = .smart →
      answers (.portResume o i raw)
        { s.setPort p
            { r with
              state := .configuring, identification := none
              window := some { kind := .configure r.lineRate, start := s.hubTime }
              lineSent := lineMessage 0x02
                ([BitVec.ofNat 8 r.lineRate.code, BitVec.ofNat 8 r.selectedMode] ++ le16 r.intervalInUse) } with
          cells := s.cells.set p ((s.cells.get p).map fun c => c.drained s.hubTime) }) ∧
    ∀ (mode : Byte) (d : Description), r.state = .active → r.cls = .smart → r.modeChange = none →
      r.description = some d → mode.toNat < d.modes.length →
      (r.window.isSome ∨ a.pollWindow.isSome →
        answers (.selectMode o i mode) (s.setPort p { r with modeChange := some mode.toNat })) ∧
      (r.window = none → a.pollWindow = none → answers (.selectMode o i mode) (s.selectSent p mode.toNat))) ∧
  ∀ (o : Origin) (p : Port) (c : MotorClass) (m : Motor) (s : State), s.reports → s.canAnswer o 2 →
    (s.port p).state = .active → (s.port p).cls = .motor c → s.motor p = some m → m.queue.length + 2 ≤ s.free →
    (s.link o.link).urgent.length + m.queue.length < 7 →
    let stopped := (s.setPort p { s.port p with state := .suspended, window := none, modeChange := none }).setAcq p
      { s.acquisition p with schedule := .stopped, missCount := 0, watchdog := none, pollWindow := none }
    exec (.portSuspend o (BitVec.ofNat 8 p.code)) s =
      .next ((stopped.motorMoved p m (m.stoppedIn .idle .coast)
        (if m.executing then segmentsEnd 10 m.queue else [])).answered o [4, 0])

/-! ## Ports (chapter 03) -/

/-- The class of each ID band is that of the band table, and the class is sent as the number of its band (R41). -/
def Obligations.BandGivesTheDeviceClass : Prop :=
  DeviceClass.ofBand 0 = .short ∧ DeviceClass.ofBand 1 = .touch ∧ DeviceClass.ofBand 2 = .light ∧
    DeviceClass.ofBand 3 = .smart ∧ DeviceClass.ofBand 4 = .motor .s ∧ DeviceClass.ofBand 5 = .motor .m ∧
    DeviceClass.ofBand 6 = .motor .l ∧ DeviceClass.ofBand 7 = .noClass ∧
    ∀ b : Band, (DeviceClass.ofBand b).code = b.val

/-- A reading of an ID band falls every 5 ms (R42): an EMPTY port starts detection on a band other than 7; a DETECTING
port keeps its candidate, starts again on another, and is EMPTY on 7; any other port watches a band that differs from
its own (R45). A band watch that has stood for 50 ms detaches the port (R47, R49): band 7 leaves it EMPTY, and another
band starts detection on it; a port in FAULT only follows band 7. An entry to EMPTY sets the port's latch PORT_CHANGE
and is reported to the port's event route (R48, R199). Premises: the hub runs, nothing acts on a write of the port's
cells, and its motor has no route; where the port has an event route, the pool is conserved, nothing watches S3 and no
request is in progress. Model's choices: an event that is not due has no effect (log entry 4); a port that leaves
FAULT for EMPTY is detached once more (log entry 17); each port's band is read every 5 ms from its reset (log entry
20). -/
def Obligations.BandsStartDetectionAndDetach : Prop :=
  (∀ (p : Port) (band : Band) (s : State), s.calmPort p →
    let r := { s.port p with nextReading := (s.port p).nextReading + 5 }
    let reads := exec (.idBandRead p band) s
    let read := s.setPort p r
    let detecting := s.setPort p
      { r with state := .detecting, debounce := some { band := band, start := s.hubTime }, bandWatch := none
               recovery := none }
    (reached s.hubTime (s.port p).nextReading = false → reads = .next s) ∧
    (reached s.hubTime (s.port p).nextReading = true →
      (r.state = .empty → reads = .next (if band = 7 then read else detecting)) ∧
      (∀ c, r.state = .detecting → r.debounce = some c →
        reads = .next (if band = 7 then (read.portEmptied p).noted s else if c.band = band then read else detecting)) ∧
      (r.state ≠ .empty → r.state ≠ .detecting →
        let watch := if band = r.band then none
          else if r.bandWatch.map Candidate.band = some band then r.bandWatch
          else some { band := band, start := s.hubTime }
        reads = .next (s.setPort p { r with bandWatch := watch })))) ∧
  ∀ (p : Port) (c : Candidate) (s : State), s.calmPort p → (s.port p).bandWatch = some c →
    50 ≤ elapsedSince s.hubTime c.start →
    let expires := exec (.bandWatchExpiry p) s
    let emptied := s.portEmptied p
    ((s.port p).state.attached = true →
      expires = .next (State.noted (if c.band = 7 then emptied else emptied.setPort p
        { emptied.port p with state := .detecting, debounce := some { band := c.band, start := s.hubTime } }) s)) ∧
    ((s.port p).state = .fault →
      expires = .next (if c.band = 7 then emptied.noted s else s.setPort p { s.port p with bandWatch := none }))

/-- A band that has stood for 50 ms ends detection by its class (R45, R46, R48): a TOUCH or LIGHT port is ACTIVE with
a first sample; a motor port is ACTIVE with its motor record, its settings and its loop record at the values of
attachment, the gains those of its class, and its first control period 1 ms later (R94, R95, R114); a smart port
begins its identification with a line break; and a shorted one is in FAULT. An entry to ACTIVE or FAULT sets the
port's latch PORT_CHANGE and hands a PORT_STATE event with the state, the class, the line rate and the fault reason to
the port's event route (R48, R199). Before 50 ms nothing happens. Premises: the hub runs, nothing acts on a write of
the port's cells, and its motor has no route; where the port has an event route, the pool is conserved, nothing
watches S3 and no request is in progress. Model's choices: an event that is not due has no effect (log entry 4); the
entry is reported before the first sample (log entry 21); pin levels and readings are operands (log entry 25). -/
def Obligations.DebounceAttachesTheDevice : Prop :=
  ∀ (p : Port) (raw : RawSample) (c : Candidate) (s : State), s.calmPort p → (s.flag p).due = 0 →
    (s.port p).state = .detecting → (s.port p).debounce = some c →
    let r := { s.port p with band := c.band, cls := DeviceClass.ofBand c.band, debounce := none }
    let entered := (s.setPort p r).portActive p
    let expires := exec (.debounceExpiry p raw) s
    (elapsedSince s.hubTime c.start < 50 → expires = .next s) ∧
    (50 ≤ elapsedSince s.hubTime c.start →
      (c.band = 1 → expires = .next ((entered.firstSample p (if 2048 < raw.val then 1 else 0)).noted s)) ∧
      (c.band = 2 → r.settings.calibration = none → expires = .next ((entered.firstSample p raw.val).noted s)) ∧
      (∀ k, DeviceClass.ofBand c.band = .motor k →
        expires = .next (entered.setMotor p (some (freshMotor k (s.classes.get k) s.hubTime)))) ∧
      (c.band = 3 → expires = .next (s.setPort p
        { r with state := .identifying, lineRate := .r9600, lineBreak := some s.hubTime })) ∧
      (c.band = 0 → expires = .next (((s.setPort p r).portFaulted p .short).noted s)))

/-- The timeouts of a port (R50, R54, R57, R59, R73): identification after 1500 ms, CONFIGURE and SELECT after 200 ms,
and the sample watchdog after 1000 ms enter FAULT with their reasons, CONFIGURE and SELECT with the flag MODE_FAIL;
and after 500 ms in FAULT the port reads its band again. Each entry to FAULT or EMPTY is reported by a PORT_STATE
event before the raise of MODE_FAIL by a PORT_FLAG event (R48, R50, R90, R199). Premises: the hub runs, nothing acts
on a write of the port's cells, and its motor has no route; where the port has an event route, the pool is conserved,
nothing watches S3 and no request is in progress. Model's choices: a port that leaves FAULT for EMPTY is detached once
more (log entry 17); pin levels and readings are operands (log entry 25). -/
def Obligations.TimeoutsEnterFault : Prop :=
  ∀ (p : Port) (t : Time) (deaf : Bool) (s : State), s.calmPort p →
    let r := s.port p
    (r.state = .identifying → r.identification = some t → 1500 ≤ elapsedSince s.hubTime t →
      exec (.identifyTimeout p) s = .next ((s.portFaulted p .identifyTimeout).noted s)) ∧
    (∀ rate, r.window = some { kind := .configure rate, start := t, deaf := deaf } → 200 ≤ elapsedSince s.hubTime t →
      exec (.configureTimeout p) s = .next (((s.portFaulted p .configureTimeout).flagReported p 3).noted s)) ∧
    (r.window = some { kind := .select, start := t, deaf := deaf } → 200 ≤ elapsedSince s.hubTime t →
      exec (.selectTimeout p) s = .next (((s.portFaulted p .selectTimeout).flagReported p 3).noted s)) ∧
    (r.state = .active → (s.acquisition p).watchdog = some t → 1000 ≤ elapsedSince s.hubTime t →
      exec (.sampleWatchdogExpiry p) s = .next ((s.portFaulted p .sampleTimeout).noted s)) ∧
    ∀ band : Band, r.state = .fault → r.recovery = some t → 500 ≤ elapsedSince s.hubTime t →
      exec (.faultRecoveryExpiry p band) s = .next (if band = 7 then (s.portEmptied p).noted s else s.setPort p
        { r with state := .detecting, debounce := some { band := band, start := s.hubTime }, bandWatch := none
                 recovery := none })

/-- Identification (R53 to R56): QUERY is sent at the end of a line break of 20 ms and again every 500 ms up to three
times, and a valid DESCRIPTION takes the port to CONFIGURING, with its cells EMPTY, its rate and mode chosen, and
CONFIGURE sent. A DESCRIPTION is invalid, and counts as not received, exactly for the listed faults; a valid one holds
the fields sent, with each minimum interval clamped (R55). The check bytes are the two running sums modulo 255 (R51).
The mode chosen is that of the port settings where the description has it, and otherwise its default (R56); the poll
interval is the larger of the minimum interval of the selected mode and the setting (R65, R69). The ACCEPT of
CONFIGURE takes the port to ACTIVE at the rate sent and starts its polling (R57, R65), reported with its type code and
its mode (R48); the ACCEPT of SELECT ends the mode change (R59); and a recorded mode change is sent once the line is
free (R58, R74). A message whose check fails is discarded, and after a length byte above 250 every message of that
window is (R52). A message in a window finds no POLL window open beside it, as the invariant of QueuesStayBounded says
(R52). Premises: the hub runs and nothing acts on a write of the port's cells, and neither the port nor its motor has
a route, but that the port may have an event route at an ACCEPT and at a SELECT, where the pool is conserved, nothing
watches S3 and no request is in progress. Model's choices: headers, payloads and messages arrive whole, and a window
opens as its message is sent (log entry 19). -/
def Obligations.SmartDeviceIsIdentifiedAndConfigured : Prop :=
  (∀ (p : Port) (s : State), s.stillPort p → (s.port p).state = .identifying →
    let r := s.port p
    (∀ t, r.lineBreak = some t → 20 ≤ elapsedSince s.hubTime t →
      exec (.lineBreakEnd p) s = .next (s.setPort p
        { r with
          lineBreak := none, identification := some s.hubTime, lineSent := [0, 1, 1, 1], queryCount := 1
          window := some { kind := .query, start := s.hubTime } })) ∧
    (∀ t, r.identification = some t → r.queryCount < 3 → 500 * r.queryCount ≤ elapsedSince s.hubTime t →
      exec (.queryRetry p) s = .next (s.setPort p
        { r with lineSent := [0, 1, 1, 1], queryCount := r.queryCount + 1
                 window := some { kind := .query, start := s.hubTime } })) ∧
    ∀ (t : Time) (m : LineReply) (d : Description), r.window = some { kind := .query, start := t } →
      (s.acquisition p).pollWindow = none → replyGood 0x11 m = true → descriptionOf m.payload = some d → (s.flag p).due = 0 →
      let rate := LineRate.ofCode (min d.highestRate 2)
      let chosen := { r with description := some d, selectedMode := chosenMode d r.settings }
      exec (.descriptionReceived p m) s = .next (State.noted
        { s.setPort p
            { chosen with
              state := .configuring, identification := none
              window := some { kind := .configure rate, start := s.hubTime }
              lineSent := lineMessage 0x02
                ([BitVec.ofNat 8 rate.code, BitVec.ofNat 8 chosen.selectedMode] ++ le16 chosen.intervalInUse) } with
          cells := s.cells.set p ((s.cells.get p).map fun c => c.drained s.hubTime) } s)) ∧
  (∀ (p : Port) (t : Time) (m : LineReply) (s : State), s.settled → (s.port p).state = .identifying →
    (s.port p).window = some { kind := .query, start := t } → (s.acquisition p).pollWindow = none →
    m.payload.length ≤ 250 → descriptionOf m.payload = none → exec (.descriptionReceived p m) s = .next s) ∧
  (∀ bs : List Byte,
    let n := num8 bs 4
    (descriptionOf bs = none ↔ n = 0 ∨ 8 < n ∨ bs.length ≠ 5 + 20 * n ∨ n ≤ num8 bs 3 ∨
      ∃ k, k < n ∧
        let i := 5 + 20 * k
        (num8 bs i = 0 ∨ 4 < num8 bs i ∨ 2 < num8 bs (i + 1) ∨ int32 bs (i + 6) ≤ int32 bs (i + 2))) ∧
    ∀ d, descriptionOf bs = some d →
      d.typeCode = num16 bs 0 ∧ d.highestRate = num8 bs 2 ∧ d.defaultMode = num8 bs 3 ∧ d.modes.length = n ∧
      ∀ k e, d.modes[k]? = some e →
        let i := 5 + 20 * k
        e.valueCount = num8 bs i ∧ e.format.code = num8 bs (i + 1) ∧ e.rawMin = int32 bs (i + 2) ∧
          e.rawMax = int32 bs (i + 6) ∧ e.siMin = int32 bs (i + 10) ∧ e.siMax = int32 bs (i + 14) ∧
          e.minInterval = max 5 (min 1000 (num16 bs (i + 18)))) ∧
  (∀ (kind : Byte) (m : LineReply),
    let bs := (BitVec.ofNat 8 m.payload.length :: kind :: m.payload).map BitVec.toNat
    let sum1 := bs.sum % 255
    let sum2 := ((List.range bs.length).map fun i => (bs.length - i) * bs.getD i 0).sum % 255
    (replyGood kind m = true ↔ m.sum1.toNat = sum1 ∧ m.sum2.toNat = sum2) ∧
      lineMessage kind m.payload =
        BitVec.ofNat 8 m.payload.length :: kind :: (m.payload ++ [BitVec.ofNat 8 sum1, BitVec.ofNat 8 sum2])) ∧
  (∀ (p : Port) (m : LineReply) (kind : Byte) (w : OpenWindow) (s : State), s.settled → (s.port p).window = some w →
    (s.acquisition p).pollWindow = none → ∀ c ∈ lineCommands p kind m,
    (w.deaf = true → exec c s = .next s) ∧
    (w.deaf = false → 250 < m.payload.length →
      exec c s = .next (s.setPort p { s.port p with window := some { w with deaf := true } })) ∧
    (m.payload.length ≤ 250 → (∀ k, replyGood k m = false) → exec c s = .next s)) ∧
  (∀ (d : Description) (g : PortSettings),
    chosenMode d g = match g.mode with
      | some k => if k < d.modes.length then k else d.defaultMode
      | none => d.defaultMode) ∧
  (∀ (r : PortRec) (d : Description) (e : Mode), r.description = some d → d.modes[r.selectedMode]? = some e →
    r.intervalInUse = max e.minInterval r.settings.pollInterval ∧ r.valueCount = e.valueCount ∧
      r.currentMode = some e) ∧
  ∀ (p : Port) (t : Time) (m : LineReply) (s : State), s.calmPort p → (s.flag p).due = 0 → replyGood 0x12 m = true →
    m.payload = [BitVec.ofNat 8 (s.port p).selectedMode] →
    let r := s.port p
    let a := s.acquisition p
    (∀ rate, r.state = .configuring → r.window = some { kind := .configure rate, start := t } → a.pollWindow = none →
      exec (.configureAccept p m) s = .next (((s.setPort p { r with lineRate := rate }).portActive p).setAcq p
        { schedule := .poll, nextDue := s.hubTime + BitVec.ofNat 32 r.intervalInUse, pollInterval := r.intervalInUse
          pollWindow := none, missCount := 0, watchdog := some s.hubTime })) ∧
    (r.state = .active → r.window = some { kind := .select, start := t } → a.pollWindow = none →
      exec (.selectAccept p m) s = .next ((s.setPort p { r with window := none, modeChange := none }).setAcq p
        { a with missCount := 0, nextDue := s.hubTime + BitVec.ofNat 32 a.pollInterval })) ∧
    ∀ mode, r.state = .active → r.modeChange = some mode → r.window = none → a.pollWindow = none →
      exec (.selectDeferredSend p) s = .next ((s.selectSent p mode).noted s)

/-! ## Sampling and conversion (chapter 04) -/

/-- A TOUCH device gives 1 above 2048 and 0 otherwise, written VALID to cell 0, whatever the port settings, and sets
no flag (R67, R82); the write makes the raises that were due (R91). The sample is taken when it is due, and the next
one falls due an analog interval later (R66). Premises: the hub runs, nothing acts on a write of the port's cells, and
neither the port nor its motor has a route. -/
def Obligations.TouchGivesOneAbove2048 : Prop :=
  ∀ (p : Port) (raw : RawSample) (s : State), s.stillPort p → (s.port p).cls = .touch → (s.acquisition p).schedule = .analog →
    reached s.hubTime (s.acquisition p).nextDue = true →
    exec (.analogSample p raw) s = .next (s.touched p raw)

/-- A LIGHT device gives its raw value where it names no table or an empty one, and otherwise the value that its table
gives: within the table a point of the segment that holds it, rounded, and beyond the table the nearer end or
INDEFINITE with RANGE set (R68, R77, R78), for tables of every size. Premises: the hub runs, nothing acts on a write
of the port's cells, and neither the port nor its motor has a route. -/
def Obligations.LightIsConvertedByItsTable : Prop :=
  ∀ (p : Port) (raw : RawSample) (s : State), s.stillPort p → (s.port p).cls = .light → (s.acquisition p).schedule = .analog →
    reached s.hubTime (s.acquisition p).nextDue = true →
    let g := (s.port p).settings
    let sampled := s.setAcq p { s.acquisition p with nextDue := s.hubTime + BitVec.ofNat 32 g.analogInterval }
    let gives (v : Int) (tag : CellTag) (range : Bool) : Prop :=
      exec (.analogSample p raw) s =
        .next ((sampled.portWritten p 0 ((s.cell (.port p 0)).written s.hubTime v tag .sensor) range).noted s)
    let beyond (v : Int) : Prop :=
      (g.policy = .saturate → gives v .valid true) ∧ (g.policy = .indefinite → gives (-2147483648) .range true)
    (g.calibration = none → gives raw.val .valid false) ∧
    ∀ i, g.calibration = some i →
      let table := s.calibration.get i
      (table = [] → gives raw.val .valid false) ∧
      (breakpointsRise table = true → (∀ b ∈ table, -2147483648 ≤ b.val ∧ b.val ≤ 2147483647) →
        (∀ (before after : List Breakpoint) (a b : Breakpoint), table = before ++ a :: b :: after → a.raw ≤ raw.val →
          raw.val ≤ b.raw →
          gives (g.rounding.quotient
            (a.val * ((b.raw : Int) - a.raw) + ((raw.val : Int) - a.raw) * (b.val - a.val)) ((b.raw : Int) - a.raw))
            .valid false) ∧
        (∀ a rest, table = a :: rest → raw.val < a.raw → beyond a.val) ∧
        ∀ before b, table = before ++ [b] → b.raw < raw.val → beyond b.val)

/-- Rounding (R75): NEAREST_EVEN gives the nearest integer and the even one at a half, TOWARD_ZERO truncates, DOWN
gives the floor and UP the ceiling; all four give a quotient that is an integer; and the rounded result of a
conversion in range lies between the values that bound it. -/
def Obligations.RoundingModesRoundTheQuotient : Prop :=
  (∀ n d : Int, 0 < d →
    (let q := Rounding.nearestEven.quotient n d
     2 * (n - q * d) ≤ d ∧ -d ≤ 2 * (n - q * d) ∧ ((2 * (n - q * d) = d ∨ 2 * (n - q * d) = -d) → q % 2 = 0)) ∧
    (let q := Rounding.towardZero.quotient n d
     (0 ≤ n → q * d ≤ n ∧ n < (q + 1) * d) ∧ (n ≤ 0 → n ≤ q * d ∧ (q - 1) * d < n)) ∧
    (let q := Rounding.down.quotient n d
     q * d ≤ n ∧ n < (q + 1) * d) ∧
    (let q := Rounding.up.quotient n d
     n ≤ q * d ∧ (q - 1) * d < n) ∧
    ∀ (r : Rounding) (k : Int), n = k * d → r.quotient n d = k) ∧
  ∀ (r : Rounding) (x0 x1 y0 y1 x : Int), x0 < x1 → x0 ≤ x → x ≤ x1 →
    min y0 y1 ≤ interpolate r x0 x1 y0 y1 x ∧ interpolate r x0 x1 y0 y1 x ≤ max y0 y1

/-- A good SAMPLE (R71, R76, R78): the misses are cleared, the watchdog restarts, the POLL window closes, and cells 0
to n − 1 take the converted values with writer SENSOR while the others keep theirs. The raw values follow the mode's
byte, each of one, two or four bytes in two's complement, low byte first (R71, R201). RANGE is set where a value lies
out of range, and no other flag changes; the first write makes the raises that were due, and a raise sets the latch
PORT_FLAG and is reported to the port's event route with the flags raised, the flags as they stand and the mask (R89
to R91, R199). Nothing else of the hub changes. Premises: the hub runs, nothing acts on a write of the port's cells,
and its motor has no route; where the port has an event route, the pool is conserved, nothing watches S3 and no
request is in progress. Model's choices: headers, payloads and messages arrive whole, and a window opens as its
message is sent (log entry 19). -/
def Obligations.GoodSampleWritesItsCells : Prop :=
  ∀ (p : Port) (m : LineReply) (d : Description) (mode : Mode) (bytes : List Byte) (w : PollWindow) (s : State),
    s.calmPort p → (s.port p).window = none → (s.acquisition p).pollWindow = some w → w.deaf = false →
    m.payload.length ≤ 250 → replyGood 0x13 m = true → (s.port p).description = some d →
    d.modes[(s.port p).selectedMode]? = some mode → m.payload = BitVec.ofNat 8 (s.port p).selectedMode :: bytes →
    let size : Nat := match mode.format with
      | .int8 => 1
      | .int16 => 2
      | .int32 => 4
    bytes.length = mode.valueCount * size → mode.valueCount ≤ 4 → mode.rawMin < mode.rawMax →
    -2147483648 ≤ mode.siMin → mode.siMin ≤ 2147483647 → -2147483648 ≤ mode.siMax → mode.siMax ≤ 2147483647 →
    let raw (i : Nat) : Int :=
      let b (k : Nat) : Nat := (bytes.getD (size * i + k) 0).toNat
      match mode.format with
      | .int8 => if b 0 < 128 then b 0 else (b 0 : Int) - 256
      | .int16 =>
        let n := b 0 + 256 * b 1
        if n < 32768 then n else (n : Int) - 65536
      | .int32 =>
        let n := b 0 + 256 * b 1 + 65536 * b 2 + 16777216 * b 3
        if n < 2147483648 then n else (n : Int) - 4294967296
    let raws := (List.range mode.valueCount).map raw
    let r := s.flag p
    let cell (i : Fin 4) : Cell := match raws[i.val]? with
      | some x =>
        let c := mode.reads (s.port p).settings x
        (s.cell (.port p i)).written s.hubTime c.1 c.2 .sensor
      | none => s.cell (.port p i)
    let beyond : Prop := ∃ x ∈ raws, mode.beyond x
    let atFirst : Prop := ∃ x ∈ raws.take 1, mode.beyond x
    let unmasks : Prop := r.flags.getLsbD 0 = false ∧ r.mask.getLsbD 0 = true
    let sampled : State :=
      { s with
        cells := s.cells.set p { q0 := cell 0, q1 := cell 1, q2 := cell 2, q3 := cell 3 }
        flags := s.flags.set p
          { flags := if beyond then r.flags ||| 1 else r.flags, mask := r.mask, due := if raws = [] then r.due else 0 }
        attention := if raws ≠ [] ∧ (r.due ≠ 0 ∨ beyond ∧ unmasks) then s.attention.withLatch 6 else s.attention
        acq := s.acq.set p { s.acquisition p with missCount := 0, watchdog := some s.hubTime, pollWindow := none } }
    let raises (raised flags : BitVec 5) (t : State) : State := t.event (s.port p).settings.eventRoute
      ([2, BitVec.ofNat 8 p.code, raised.zeroExtend 8, flags.zeroExtend 8, r.mask.zeroExtend 8] ++ le32 s.hubTime)
    let raised := r.due ||| (if atFirst ∧ unmasks then 1 else 0)
    let written := if raws ≠ [] ∧ raised ≠ 0 then raises raised (if atFirst then r.flags ||| 1 else r.flags) sampled else sampled
    exec (.sampleReceived p m) s = .next (State.noted
      (if ¬atFirst ∧ beyond ∧ unmasks then raises 1 (r.flags ||| 1) written else written) s)

/-- Polling (R69, R70, R72): POLL is sent when it is due on a free line; a HOLD and a window that closes are misses,
and the third in turn, with no raise due, makes the cells of the mode STALE and sets STALE; a SAMPLE of another mode
or size sets PROTOCOL and then is a miss; a failed check and a message of another kind set PROTOCOL and leave the
window open. A raise of PROTOCOL or STALE sets the latch PORT_FLAG and is reported to the port's event route (R89,
R90, R199). After a length byte above 250 the receiver discards every message of that window (R52). Premises: the hub
runs, nothing acts on a write of the port's cells, and its motor has no route; where the port has an event route, the
pool is conserved, nothing watches S3 and no request is in progress. Model's choices: an event that is not due has no
effect (log entry 4); headers, payloads and messages arrive whole, and a window opens as its message is sent (log
entry 19); a SAMPLE that does not fit sets PROTOCOL before its exchange ends in a miss (log entry 30); a HOLD is a
HOLD whatever payload it carries (log entry 42). -/
def Obligations.PollingCountsMisses : Prop :=
  ∀ (p : Port) (s : State), s.calmPort p → (s.port p).window = none →
    let r := s.port p
    let a := s.acquisition p
    let misses (t : State) : State := t.setAcq p { a with pollWindow := none, missCount := min 3 (a.missCount + 1) }
    let missed := misses s
    let makesStale (t : State) : State := (State.flagReported
      { misses t with cells := s.cells.set p (missedCells r.valueCount s.hubTime (s.cells.get p)) } p 1).noted s
    let stale := makesStale s
    let protocol := s.flagReported p 2
    (a.schedule = .poll → reached s.hubTime a.nextDue = true → a.pollWindow = none → r.modeChange = none →
      exec (.pollDue p) s = .next ((s.setAcq p
        { a with
          pollInterval := r.intervalInUse, nextDue := s.hubTime + BitVec.ofNat 32 r.intervalInUse
          pollWindow := some { closes := s.hubTime + BitVec.ofNat 32 (min r.intervalInUse 100) } }).setPort p
        { r with lineSent := [0, 3, 3, 3] })) ∧
    ∀ w, a.pollWindow = some w →
      (reached s.hubTime w.closes = false → exec (.pollWindowClose p) s = .next s) ∧
      (reached s.hubTime w.closes = true → a.missCount ≠ 2 → exec (.pollWindowClose p) s = .next missed) ∧
      (reached s.hubTime w.closes = true → a.missCount = 2 → (s.flag p).due = 0 →
        exec (.pollWindowClose p) s = .next stale) ∧
      ∀ (kind : Byte) (m : LineReply),
        (∀ c ∈ lineCommands p kind m,
          (w.deaf = true → exec c s = .next s) ∧
          (w.deaf = false → 250 < m.payload.length →
            exec c s = .next (s.setAcq p { a with pollWindow := some { w with deaf := true } }))) ∧
        (w.deaf = false → m.payload.length ≤ 250 →
          (replyGood 0x14 m = true → a.missCount ≠ 2 → exec (.holdReceived p m) s = .next missed) ∧
          (replyGood 0x14 m = true → a.missCount = 2 → (s.flag p).due = 0 → exec (.holdReceived p m) s = .next stale) ∧
          (replyGood 0x14 m = false → exec (.holdReceived p m) s = .next protocol) ∧
          (replyGood 0x13 m = false → exec (.sampleReceived p m) s = .next protocol) ∧
          (∀ mode, replyGood 0x13 m = true → r.currentMode = some mode → a.missCount ≠ 2 →
            (m.payload.head? ≠ some (BitVec.ofNat 8 r.selectedMode) ∨
              m.payload.length ≠ 1 + mode.valueCount * mode.format.size) →
            exec (.sampleReceived p m) s = .next (misses protocol)) ∧
          (∀ mode, replyGood 0x13 m = true → r.currentMode = some mode → a.missCount = 2 → (s.flag p).due = 0 →
            (m.payload.head? ≠ some (BitVec.ofNat 8 r.selectedMode) ∨
              m.payload.length ≠ 1 + mode.valueCount * mode.format.size) →
            exec (.sampleReceived p m) s = .next (makesStale protocol)) ∧
          (kind ≠ 0x13 → kind ≠ 0x14 → exec (.portLineMessageRejected p kind m) s = .next protocol))

/-! ## Motion (chapters 06 and 07) -/

/-- The motor commands on a motor that takes them (R98 to R102, R107, R115): APPEND waits behind the executing
segments, or starts from the measured state, or goes on from HOLDING; REPLACE starts at once in the place of them all;
ABORT ends them with its end action; ZERO makes the present position the origin; and an encoder step counts. Each
segment that ends is reported to its notice route with its outcome, SUPERSEDED or ABORTED for the head and FLUSHED
behind it, and a change of the motor's state to its notice route (R108, R109, R199); each notice is placed, or counted
as lost or dropped (R12). Premises: the hub runs, and either the motor sends no notice, or the pool is conserved,
nothing watches S3 and no request is in progress. Model's choices: x at a ZERO (log entry 15); SEGMENT_END notices
come first, then LOW_WATER with the tag of the head that ended, then MOTOR_STATE (log entry 31). -/
def Obligations.MotorCommandsActOnTheMotor : Prop :=
  (∀ (p : Port) (o : Origin) (m : Motor) (s : State), s.takesMotion p m → m.consistent →
    (s.settled ∧ m.silent ∨ s.reports) →
    let rated := (s.classes.get m.cls).ratedMax
    let ends (c : Instr) (m' : Motor) (ended : List (Segment × Byte)) : Prop := exec c s = .next (s.motorMoved p m m' ended)
    let becomes (c : Instr) (m' : Motor) : Prop := ends c m' []
    (∀ (raw : RawSegment) (g : Segment), parseSegment raw = some g →
      let h := g.clamped rated
      (m.executing = true → m.queue.length < 4 → becomes (.append p o raw) { m with queue := m.queue ++ [h] }) ∧
      (m.executing = false → m.state ≠ .holding → becomes (.append p o raw) (m.startingMeasured rated h)) ∧
      (m.state = .holding → becomes (.append p o raw) (m.startingContinuous rated [h] h)) ∧
      ((m.executing = true ∨ m.state = .holding) →
        ends (.replace p o raw) (m.startingContinuous rated [h] h) (segmentsEnd 1 m.queue)) ∧
      (m.executing = false → m.state ≠ .holding → becomes (.replace p o raw) (m.startingMeasured rated h))) ∧
    (∀ a : EndAction,
      let c := Instr.abort p o (BitVec.ofNat 8 a.code)
      (∀ g rest, m.executing = true → m.queue = g :: rest → ends c (m.endedWith a g.accel) (segmentsEnd 3 m.queue)) ∧
      (m.executing = false → a ≠ .hold → becomes c (m.endedWith a 0)) ∧
      (m.state = .holding → a = .hold → becomes c m) ∧
      (m.executing = false → m.state ≠ .holding → a = .hold → becomes c
        { m with state := .holding, output := .driven, p := 1000 * m.x, acc := 0, integral := 0, holdAccel := 20000
                 v := clampInt (-(rated : Int)) rated m.speed, target := none })) ∧
    (m.executing = false → becomes (.zero p o)
      { m with offset := m.offset + m.x, ring := m.ring.map (fun y => y - m.x), x := 0
               p := if m.state = .holding then m.p - 1000 * m.x else m.p }) ∧
    ∀ forward : Bool,
      let n := if forward then m.encoder + 1 else m.encoder - 1
      becomes (.encoderStep p forward)
        (if n.natAbs ≤ 2147000000 ∧ (n - m.offset).natAbs ≤ 2147000000 then { m with encoder := n }
          else { m with discardNoted := true })) ∧
  MotionState.idle.code = 1 ∧ MotionState.running.code = 2 ∧ MotionState.settling.code = 3 ∧ MotionState.holding.code = 4 ∧
    MotionState.stalled.code = 5 ∧ MotionState.locked.code = 6 ∧ MotorOutput.coast.code = 0 ∧ MotorOutput.brake.code = 1 ∧
    MotorOutput.driven.code = 2

/-- A segment as it is stored (R96): the speed is clamped to the rated maximum, a RUN_TO position to two thousand
million counts, the duty to 10000 and the acceleration to 100 to 20000, each to the nearer bound, and no other field
changes. A kind, an end action or a link that is not listed, or a RUN_TO or RUN_BY with speed 0, is malformed. A note
(R139) is malformed for an unlisted kind, a TONE with a wavetable above 3 or an envelope above 7, a TONE or a REST of
duration 0, and a route whose link or channel is out of range; its frequency and its gain are clamped to the nearer
bound. Model's choices: a notice-route channel above 15 does not make a segment malformed (log entry 10). -/
def Obligations.SegmentsAreCheckedAndClamped : Prop :=
  (∀ (g : Segment) (rated : Nat),
    g.clamped rated =
      { g with
        speed := max (-(rated : Int)) (min rated g.speed)
        position := if g.kind = .runTo then max (-2000000000) (min 2000000000 g.position) else g.position
        duty := max (-10000) (min 10000 g.duty)
        accel := max 100 (min 20000 g.accel) }) ∧
  (∀ r : RawSegment,
    (parseSegment r = none ↔ 3 < r.kind.toNat ∨ 2 < r.endAction.toNat ∨ (1 < r.routeLink.toNat ∧ r.routeLink ≠ 255) ∨
      ((r.kind = 1 ∨ r.kind = 2) ∧ r.speed = 0)) ∧
    ∀ g, parseSegment r = some g →
      [SegmentKind.runSpeed, .runTo, .runBy, .runDuty][r.kind.toNat]? = some g.kind ∧
        g.endAction.code = r.endAction.toNat ∧ g.speed = r.speed.toInt ∧ g.position = r.position.toInt ∧
        g.duty = r.duty.toInt ∧ g.accel = r.accel.toNat ∧ g.duration = r.duration.toNat ∧ g.tag = r.tag ∧
        (g.route = none ↔ r.routeLink = 255) ∧
        ∀ e, g.route = some e → e.link.code = r.routeLink.toNat ∧
          (r.routeChannel.toNat < 16 → e.channel.val = r.routeChannel.toNat)) ∧
  ∀ r : RawNote,
    (parseNote r = none ↔ 2 < r.kind.toNat ∨ (r.kind = 0 ∧ (3 < r.wavetable.toNat ∨ 7 < r.envelope.toNat)) ∨
      (r.kind ≠ 1 ∧ r.duration = 0) ∨ (r.routeLink ≠ 255 ∧ (1 < r.routeLink.toNat ∨ 15 < r.routeChannel.toNat))) ∧
    ∀ n, parseNote r = some n →
      n.kind.code = r.kind.toNat ∧ n.gain = min 256 r.gain.toNat ∧ n.duration = r.duration.toNat ∧ n.tag = r.tag ∧
        (n.kind = .tone → n.frequency = max 20 (min 8000 r.frequency.toNat) ∧ n.wavetable.val = r.wavetable.toNat ∧
          n.envelope.val = r.envelope.toNat) ∧
        (n.route = none ↔ r.routeLink = 255) ∧
        ∀ e, n.route = some e → e.link.code = r.routeLink.toNat ∧ e.channel.val = r.routeChannel.toNat

/-- A refused motor or sound command changes nothing but what its REFUSED notice changes (R97, R141): a malformed one;
every motor command for a port without a motor, for a LOCKED motor, for a SUSPENDED port, while the supply is
CRITICAL, and while the link-loss condition holds (R111); an APPEND to a full queue, and a ZERO while a segment runs;
a note while the supply is CRITICAL, a ninth note, and a gain for an IDLE voice. Premises: the hub runs, the pool is
conserved, and nothing watches S3. -/
def Obligations.RefusedCommandsSendANotice : Prop :=
  ∀ (o : Origin) (s : State), s.quiet → (s.link o.link).up = true → 1 ≤ s.free → (s.link o.link).urgent.length < 8 →
    s.mgmt.inProgress = none →
    let refuses (c : Instr) (target : Nat) (command : Byte) (code : Nat) : Prop :=
      exec c s =
        .next ((s.withFree (s.free - 1)).withUrgent o.link (refusedNotice o target command code s.hubTime))
    (∀ (p : Port) (raw : RawSegment), parseSegment raw = none →
      refuses (.append p o raw) p.code 1 1 ∧ refuses (.replace p o raw) p.code 2 1) ∧
    (∀ (p : Port) (a : Byte), 3 ≤ a.toNat → refuses (.abort p o a) p.code 3 1) ∧
    let refusesAll (p : Port) (code : Nat) : Prop :=
      (∀ raw : RawSegment, parseSegment raw ≠ none →
        refuses (.append p o raw) p.code 1 code ∧ refuses (.replace p o raw) p.code 2 code) ∧
      (∀ a : Byte, a.toNat < 3 → refuses (.abort p o a) p.code 3 code) ∧ refuses (.zero p o) p.code 4 code
    (∀ p : Port, s.motor p = none → refusesAll p 6) ∧
    (∀ (p : Port) (m : Motor), s.motor p = some m → m.state = .locked → refusesAll p 8) ∧
    (∀ (p : Port) (m : Motor), s.motor p = some m → m.state ≠ .locked →
      ((s.port p).state = .suspended ∨ s.supply.state = .critical ∨
        m.settings.lossAction ≠ .noAction ∧
          ((s.link .radio).up = false ∧ m.settings.watched ≠ .controller ∨
            (s.link .controller).up = false ∧ m.settings.watched ≠ .radio)) →
      refusesAll p 7) ∧
    (∀ (p : Port) (m : Motor), s.takesMotion p m → m.executing = true → refuses (.zero p o) p.code 4 7) ∧
    (∀ (p : Port) (m : Motor) (raw : RawSegment) (g : Segment), s.takesMotion p m → 4 ≤ m.queue.length →
      parseSegment raw = some g → refuses (.append p o raw) p.code 1 9) ∧
    (∀ (v : VoiceId) (raw : RawNote), parseNote raw = none →
      refuses (.queue v o raw) (16 + v.val) 1 1 ∧ refuses (.play v o raw) (16 + v.val) 2 1) ∧
    (∀ (v : VoiceId) (raw : RawNote) (n : Note), parseNote raw = some n → s.supply.state = .critical →
      refuses (.queue v o raw) (16 + v.val) 1 7 ∧ refuses (.play v o raw) (16 + v.val) 2 7) ∧
    (∀ (v : VoiceId) (raw : RawNote) (n : Note), parseNote raw = some n → s.supply.state ≠ .critical →
      8 ≤ (s.voice v).notes.length → refuses (.queue v o raw) (16 + v.val) 1 9) ∧
    ∀ (v : VoiceId) (g : BitVec 16), (s.voice v).state = .idle → refuses (.setGain v o g) (16 + v.val) 5 7

/-- A control period falls 1 ms after the one before it, and not earlier (R114). One of a motor at rest (R115, R116,
R121, R124 to R126): position and speed are measured, the foldback limit follows the sensed current, the duty is 0,
the stall timer is 0, and the four cells are written in order. Premises: the hub runs, nothing acts on a write of the
port's cells, and neither the port nor its motor has a route. Model's choices: an event that is not due has no effect
(log entry 4). -/
def Obligations.PeriodAtRestMeasuresTheMotor : Prop :=
  ∀ (p : Port) (m : Motor) (current : Int) (s : State), s.stillPort p → (s.flag p).due = 0 → s.motor p = some m →
    let k := m.periodMeasured
    let period := exec (.motorControlPeriod p current) s
    (reached s.hubTime m.nextPeriod = false → period = .next s) ∧
    (reached s.hubTime m.nextPeriod = true → (m.state = .idle ∨ m.state = .stalled ∨ m.state = .locked) →
      m.output ≠ .driven → m.loaded = none → k.x ≤ 2147483647 → -2147483648 ≤ k.x → k.speed ≤ 2147483647 →
      -2147483648 ≤ k.speed →
      period = .next ((s.periodLeft p m (k.rests current) (k.rests current)).noted s))

/-- A control period of a motor that is driven (R103 to R107, R117 to R123): the profile takes its step for the kind
of the head or for HOLDING, SETTLING ends the head or counts, the duty is that of the control law or of RUN_DUTY with
its limits, the cells are written, and a head whose duration is reached ends. A period of a high demand and a low
speed raises the stall timer, and one that takes it to the stall time halts the motor in STALLED, before the cells are
written, and sets MOTOR_FAULT (R110, R125). A loaded settings record comes into force at the period, which examines
the link-loss condition with it (R94, R111). Premises: the hub runs, nothing acts on a write of the port's cells, and
neither the port nor its motor has a route. Model's choices: a duration ends after the cells of its period are written
(log entry 16); a loaded record comes into force at the next period, and READ returns it before (log entry 22); the
setpoint is held as an exact integer (log entry 23); a link loss with action BRAKE brakes the IDLE motor of a
SUSPENDED port too (log entry 33); link loss is examined after the measurement of the first period after a LOAD (log
entry 35); a segment behind SETTLING has its duty path in the period of that end (log entry 36); periods run counts
RUNNING periods alone, the one in which a profile is done included (log entry 37); a timer that a LOAD leaves at or
above the stall time stalls in the next period that meets the test (log entry 46). -/
def Obligations.DrivenPeriodFollowsItsPath : Prop :=
  ∀ (p : Port) (m : Motor) (current : Int) (s : State), s.stillPort p → (s.flag p).due = 0 → s.motor p = some m →
    reached s.hubTime m.nextPeriod = true →
    let k := m.periodMeasured
    k.x ≤ 2147483647 → -2147483648 ≤ k.x → k.speed ≤ 2147483647 → -2147483648 ≤ k.speed →
    let rated := (s.classes.get m.cls).ratedMax
    let period := exec (.motorControlPeriod p current) s
    let leaves (c after : Motor) : Prop :=
      let halted := { c.stoppedIn .stalled .coast with stallTimer := 0 }
      period = .next (State.noted
        (if c.stallTimer ≠ 0 ∧ m.settings.stallTime ≤ c.stallTimer then (s.periodLeft p m halted halted).flagSet p 4
          else s.periodLeft p m c after) s)
    let runs := min 65535 (m.periodsRun + 1)
    (m.loaded = none → m.output = .driven →
      (∀ g rest, m.state = .running → m.queue = g :: rest →
        let expires (c : Motor) : Motor := if g.duration ≠ 0 ∧ g.duration ≤ runs then c.pastHead rated g rest else c
        (g.kind = .runSpeed →
          let f := k.steps g.speed g.accel
          let c := { f with p := m.p + f.v, periodsRun := runs }.takesPath s current
          leaves c (expires c)) ∧
        (g.kind = .runDuty →
          let c := { k with p := 1000 * k.x, v := clampInt (-(rated : Int)) rated k.speed, periodsRun := runs }.takesPath s
            current
          leaves c (expires c)) ∧
        ∀ x, (g.kind = .runTo ∨ g.kind = .runBy) → m.target = some x →
          let c := (k.approaches rated x g rest).takesPath s current
          leaves c c) ∧
      (∀ g rest x, m.state = .settling → m.queue = g :: rest → m.target = some x →
        let c := (k.settles rated x g rest).takesPath s current
        leaves c c) ∧
      (m.state = .holding → m.queue = [] →
        let f := k.steps 0 m.holdAccel
        let c := { f with p := m.p + f.v }.takesPath s current
        leaves c c)) ∧
    ∀ g : MotorSettings, m.loaded = some g →
      let m' := { m with settings := g, loaded := none }
      (g.lossAction = .noAction ∨ ((s.link .radio).up = true ∨ g.watched = .controller) ∧
          ((s.link .controller).up = true ∨ g.watched = .radio) →
        period = exec (.motorControlPeriod p current) (s.setMotor p (some m'))) ∧
      (g.lossAction ≠ .noAction → g.noticeRoute = none → m.state ≠ .locked →
        (s.link .radio).up = false ∧ g.watched ≠ .controller ∨ (s.link .controller).up = false ∧ g.watched ≠ .radio →
        let c := (m'.periodMeasured.stoppedIn .idle (if g.lossAction = .brake then .brake else .coast)).rests current
        leaves c c)

/-- The ends that a period alone can bring (R104, R106, R107, R110, R125): a settle timeout and a duration end the
head, after which the next segment starts continuously or the end action is applied; a stall halts the motor in
STALLED and sets MOTOR_FAULT. The SEGMENT_END notice of the head carries NOT_SETTLED, COMPLETED or STALLED, LOW_WATER
follows it where the occupancy fell to the mark, and MOTOR_STATE where the state changed (R108, R109, R199). The stops
from outside the queue report SUPPLY, SUSPENDED, LINK_LOST, LOCKED and DETACHED in the same way, a detach with the
state DETACHED (R110 to R112). Premises: the hub runs, and either nothing acts on a write of the port's cells, and
neither the port nor its motor has a route, or the pool is conserved, nothing watches S3 and no request is in
progress. Model's choices: an event that is not due has no effect (log entry 4); a row that a larger step holds stands
for its own effect alone (log entry 5); SEGMENT_END notices come first, then LOW_WATER with the tag of the head that
ended, then MOTOR_STATE (log entry 31); a link loss with action BRAKE brakes the IDLE motor of a SUSPENDED port too
(log entry 33); the events of a period alone read the settings in force, not a loaded record that waits (log entry
44); a timer that a LOAD leaves at or above the stall time stalls in the next period that meets the test (log entry
46). -/
def Obligations.SegmentEndsFollowTheirRules : Prop :=
  (∀ (p : Port) (m : Motor) (g : Segment) (rest : List Segment) (s : State), s.motor p = some m →
    (s.stillPort p ∨ s.reports) →
    let rated := (s.classes.get m.cls).ratedMax
    let ends (outcome : Byte) (m' : Motor) : State := s.motorMoved p m (m'.pastHead rated g rest) [(g, outcome)]
    (reached s.hubTime m.nextPeriod = false → exec (.settleTimeout p) s = .next s ∧
      exec (.segmentDurationEnd p) s = .next s ∧ exec (.stallDetected p) s = .next s) ∧
    (reached s.hubTime m.nextPeriod = true →
    (m.queue = g :: rest → m.state = .settling → ∀ x, m.target = some x → m.settings.tolerance < (m.x - x).natAbs →
      m.settings.settleTimeout ≤ m.settlePeriods + 1 →
      exec (.settleTimeout p) s = .next (ends 5 { m with settlePeriods := m.settlePeriods + 1 })) ∧
    (m.queue = g :: rest → m.state = .running → (g.kind = .runSpeed ∨ g.kind = .runDuty) → g.duration ≠ 0 →
      g.duration ≤ m.periodsRun + 1 → m.periodsRun < 65535 →
      exec (.segmentDurationEnd p) s = .next (ends 0 { m with periodsRun := m.periodsRun + 1 })) ∧
    (m.output = .driven → m.settings.stallTime ≤ m.stallTimer + 1 →
      exec (.stallDetected p) s = .next ((s.flagReported p 4).motorMoved p m
        { m.stoppedIn .stalled .coast with stallTimer := 0 } (if m.executing then segmentsEnd 4 m.queue else []))))) ∧
  ∀ (p : Port) (m : Motor) (s : State), s.motor p = some m → s.conserved → s.mgmt.inProgress = none →
    let stops (t : State) (outcome : Byte) (after : Motor) : Prop :=
      { t with unobserved := [] } =
        { s.motorMoved p m after (if m.executing then segmentsEnd outcome m.queue else []) with unobserved := [] }
    (m.state ≠ .locked → stops (supplyHalt p s) 9 (m.stoppedIn (if m.state = .stalled then .stalled else .idle) .coast)) ∧
    stops (suspendMotor p s) 10 (m.stoppedIn .idle .coast) ∧
    (m.state ≠ .locked → lossHolds m s = true →
      stops (examineLoss p s) 8 (m.stoppedIn .idle (if m.settings.lossAction = .brake then .brake else .coast))) ∧
    stops (takeMotion p .lock m s) 7 (m.stoppedIn .locked .brake) ∧
    { detachMotor p s with unobserved := [] } =
      { ((s.setMotor p none).segmentsReported p m.x (if m.executing then segmentsEnd 6 m.queue else [])).motorReported p 0
          m.state.code (m.stoppedIn .idle .coast) with unobserved := [] }

/-! ## Supply (chapter 08) -/

/-- A measurement (R129, R131) writes S0 with the mean of the last eight voltages and S1 with the current, runs the
dwell timers, and writes S2 the first time; a fall to LOW and a rise, once their dwell has passed, cap the duties,
write S2, set SUPPLY_CHANGE and send SUPPLY_STATE to the supply's event route with the new and the previous state, S0,
S1 and the hub time (R132, R133, R135, R199). A measurement at which a dwell has passed makes that change with the
values it wrote, CRITICAL before the others (R129, R131). Nothing watches the supply's cells. Premises: the hub runs;
where the supply has an event route, the pool is conserved, nothing watches S3 and no request is in progress. Model's
choices: an event that is not due has no effect (log entry 4); a row that a larger step holds stands for its own
effect alone (log entry 5); an output sample acts at each command, and a supply measurement is due 10 ms after the
last one was taken (log entry 27); a fall or a rise as a command of its own acts with no measurement due, on S0 as the
last measurement wrote it (log entry 47). -/
def Obligations.SupplyIsMeasuredAndChangesState : Prop :=
  ∀ s : State, s.settled → s.ignores (.sys 0) → s.ignores (.sys 1) → s.ignores (.sys 2) →
    (s.supply.eventRoute = none ∨ s.reports) →
    let u := s.supply
    let g := u.settings
    let write (c : Cell) (v : Int) : Cell := c.written s.hubTime v .valid .supply
    let timer (holds : Prop) [Decidable holds] (t : Option Time) : Option Time :=
      if holds then some (t.getD s.hubTime) else none
    let ran (t : Option Time) (dwell : Nat) : Prop := ∃ t0, t = some t0 ∧ dwell ≤ elapsedSince s.hubTime t0
    (∀ (voltage : Fin 12001) (current : Fin 20001),
      let ring := if u.ring = [] then List.replicate 8 voltage.val else u.ring.tail ++ [voltage.val]
      let v : Nat := ring.sum / 8
      let measures := exec (.supplyMeasurement voltage current) s
      let measured (first : Bool) : State :=
        { s with
          supply := { u with
            ring := ring, nextMeasurement := s.hubTime + 10
            fallTimer := timer (u.state = .normal ∧ v < g.low) u.fallTimer
            criticalTimer := timer (u.state ≠ .critical ∧ v < g.critical) u.criticalTimer
            riseTimer := timer (u.state = .low ∧ g.low + g.hysteresis ≤ v ∨
              u.state = .critical ∧ g.critical + g.hysteresis ≤ v) u.riseTimer }
          sys := { q0 := write s.sys.q0 v, q1 := write s.sys.q1 current.val
                   q2 := if first then write s.sys.q2 u.state.code else s.sys.q2, q3 := s.sys.q3 } }
      let critical : Prop := u.state ≠ .critical ∧ v < g.critical ∧ ran u.criticalTimer 50
      let low : Prop := u.state = .normal ∧ v < g.low ∧ ran u.fallTimer 200
      let rise : Prop :=
        (u.state = .low ∧ g.low + g.hysteresis ≤ v ∨ u.state = .critical ∧ g.critical + g.hysteresis ≤ v) ∧ ran u.riseTimer 1000
      v ≤ 12000 →
      (reached s.hubTime u.nextMeasurement = false → measures = .next s) ∧
      (reached s.hubTime u.nextMeasurement = true →
        (¬critical → ¬low → ¬rise → measures = .next (measured (u.ring = []))) ∧
        (critical → measures = exec .supplyFallToCritical (measured false)) ∧
        (¬critical → low → measures = exec .supplyFallToLow (measured false)) ∧
        (¬critical → rise → measures = exec .supplyRise (measured false)))) ∧
    let v := (s.cell (.sys 0)).value
    let changes (new : SupplyState) (code prev : Byte) (cap : Nat) : State :=
      let t := ({ s with
        supply := { u with state := new, fallTimer := none, riseTimer := none }
        motors := s.motors.map fun m => m.map fun m => { m with duty := clampInt (-(cap : Int)) cap m.duty }
        sys := { s.sys with q2 := write s.sys.q2 code.toNat } } : State).latched 7
      t.event u.eventRoute ([3, code, prev] ++ le16 (s.cell (.sys 0)).value.toNat ++ le16 (s.cell (.sys 1)).value.toNat ++
        le32 s.hubTime)
    (∀ t, u.state = .normal → v < g.low → g.critical ≤ v → u.fallTimer = some t → 200 ≤ elapsedSince s.hubTime t →
      exec .supplyFallToLow s = .next (changes .low 1 0 7000)) ∧
    (∀ t, u.state = .low → (g.low : Int) + g.hysteresis ≤ v → g.critical ≤ v → u.riseTimer = some t →
      1000 ≤ elapsedSince s.hubTime t → exec .supplyRise s = .next (changes .normal 0 1 10000)) ∧
    ∀ t, u.state = .critical → (g.critical : Int) + g.hysteresis ≤ v → u.riseTimer = some t →
      1000 ≤ elapsedSince s.hubTime t → exec .supplyRise s = .next (changes .low 1 2 7000)

/-- A fall to CRITICAL, once S0 has stood below the critical threshold for 50 ms, halts every motor that is not
LOCKED, takes every duty to 0, silences every voice, turns the amplifier off and writes S2 (R112, R131 to R134, R161).
Premises: the hub runs, the pool is conserved, and nothing watches S3; nothing watches S2. Model's choices: a row that
a larger step holds stands for its own effect alone (log entry 5); the fall as a command of its own acts with no
measurement due, on S0 as the last measurement wrote it (log entry 47). -/
def Obligations.CriticalSupplyStopsEverything : Prop :=
  ∀ (t0 : Time) (s : State), s.quiet → s.ignores (.sys 2) → s.supply.state ≠ .critical →
    (s.cell (.sys 0)).value < s.supply.settings.critical → s.supply.criticalTimer = some t0 →
    50 ≤ elapsedSince s.hubTime t0 →
    ∃ t, exec .supplyFallToCritical s = .next t ∧ t.supply.state = .critical ∧ t.supply.criticalTimer = none ∧
      t.amp = .off ∧ t.speaker = 0 ∧ (t.cell (.sys 2)).value = 2 ∧ t.attention.latches.getLsbD 7 = true ∧
      (∀ v, (t.voice v).state = .idle ∧ ((s.voice v).state ≠ .idle → (t.voice v).notes = [] ∧ (t.voice v).stream = [])) ∧
      ∀ p m, s.motor p = some m →
        (m.state ≠ .locked →
          t.motor p = some (m.stoppedIn (if m.state = .stalled then .stalled else .idle) .coast)) ∧
        (m.state = .locked → t.motor p = some { m with duty := 0 })

/-! ## Sound (chapter 09) -/

/-- QUEUE places its note at the tail of the note queue; with the queue empty the note starts at once; loop mode and
the stream queue stay (R142, R143). Premises: the hub runs. -/
def Obligations.QueuePlacesOrStartsTheNote : Prop :=
  ∀ (v : VoiceId) (o : Origin) (raw : RawNote) (n : Note) (s : State), s.settled → s.supply.state ≠ .critical →
    parseNote raw = some n → (s.voice v).notes.length < 8 →
    exec (.queue v o raw) s = .next (if (s.voice v).notes = [] then s.noteStarted v [n] n
      else s.setVoice v { s.voice v with notes := (s.voice v).notes ++ [n] })

/-- PLAY, STOP_CUT and STOP_RELEASE (R144 to R146): PLAY starts its note in the place of them all, STOP_CUT leaves the
voice IDLE, and STOP_RELEASE takes a sounding tone to its release, lets a stream play its current frame out, and ends
the note of any other voice. Each note that ends and has a route is reported by a NOTE_END notice, the current one
first, SUPERSEDED, CUT or STOPPED, those behind it FLUSHED (R149, R199). They free the stream queue but for a current
frame that plays out, and STOP_RELEASE sets the stop marker in every state. SET_GAIN changes the gain of the current
note, up to 256 (R147); SET_LOOP sets the loop mode (R148). Premises: the hub runs, the pool is conserved, and nothing
watches S3; where a note that ends has a route, the pool is conserved, nothing watches S3 and no request is in
progress. Model's choices: the codes of two-valued fields (log entry 24); STOP_CUT on an IDLE voice frees the stream
queue and does nothing more (log entry 28). -/
def Obligations.SoundCommandsActOnTheVoice : Prop :=
  ∀ (v : VoiceId) (o : Origin) (s : State), s.settled → ((s.voice v).silent ∨ s.reports) →
    ((s.voice v).stream = [] ∨ s.quiet) →
    let r := s.voice v
    let off := { r with loopOn := false }
    let marked := { off with stopMarker := true }
    let freed (ended : List (Note × Byte)) (k : Nat) (r : Voice) : State :=
      let t := (s.notesReported v ended).setVoice v { r with stream := r.stream.take k }
      if r.stream.drop k = [] then t else t.afterRelease ((r.stream.drop k).map Frame.pages).sum
    let silenced (outcome : Byte) (r : Voice) : State :=
      (freed (notesEnd outcome r.notes) 0 r).voiceRests v { r with stream := [] }
    (∀ (raw : RawNote) (n : Note), s.supply.state ≠ .critical → parseNote raw = some n →
      exec (.play v o raw) s = .next ((freed (notesEnd 1 r.notes) 0 off).noteStarted v [n] n)) ∧
    exec (.stopCut v o) s = .next (if r.state = .idle then freed [] 0 r else silenced 12 off) ∧
    (let released := exec (.stopRelease v o) s
     (r.state = .idle → released = .next (freed [] 0 marked)) ∧
     (r.state = .waitingAmp ∨ r.state = .starved → released = .next (silenced 11 marked)) ∧
     ∀ n rest, r.notes = n :: rest →
      let flushed := rest.map fun m => (m, (2 : Byte))
      (r.state = .playing → n.kind = .rest → released = .next (silenced 11 marked)) ∧
      (r.state = .playing → n.kind = .tone →
        let e := { marked with envPhase := .release }
        released = .next (if r.level = 0 ∨ (s.envelopes.get n.envelope).release = 0 then silenced 11 { e with level := 0 }
          else freed flushed 0 { e with state := .releasing, notes := [n] })) ∧
      (r.state = .playing → n.kind = .stream →
        released = .next (freed flushed 1 { marked with state := .releasing, notes := [n] })) ∧
      (r.state = .releasing →
        released = .next (freed flushed (if n.kind = .stream then 1 else 0) { marked with notes := [n] }))) ∧
    (∀ (n : Note) (rest : List Note) (g : BitVec 16), r.state ≠ .idle → r.notes = n :: rest →
      exec (.setGain v o g) s =
        .next (s.setVoice v { r with notes := { n with gain := min 256 g.toNat } :: rest })) ∧
    ∀ on : Bool, exec (.setLoop v o (if on then 1 else 0)) s = .next (s.setVoice v { r with loopOn := on })

/-- The amplifier warms up for 20 ms and not less, after which every waiting voice plays: a tone from its attack, or
with an attack of 0 at its level, a STREAM and a REST without an envelope; with every voice IDLE the idle timer
starts, or the amplifier is off at once where the idle-off time is 0 (R142, R152, R159, R160). It is turned off when
its idle timer has run for the idle-off time (R160). An envelope step raises a tone in ATTACK until full level, where
DECAY begins, lowers one in DECAY until the sustain level, keeps one in SUSTAIN, and lowers one in RELEASE until 0,
where the note ends, each step 1 ms after the one before it and not earlier (R152, R153); a tone whose duration is
reached enters RELEASE, or ends at once with a level or a release of 0, a rest ends, and the steps of a STREAM note
change nothing (R153); a note that ends in loop mode goes to the tail of its queue, unless the stop marker is set
(R148); and a voice STARVED for 500 ms ends its note (R157). A note that ends and has a route is reported by a
NOTE_END notice, COMPLETED, STOPPED or STARVED (R149, R153, R199). Premises: the hub runs; where a note that ends has
a route, the pool is conserved, nothing watches S3 and no request is in progress. Model's choices: an event that is
not due has no effect (log entry 4); a row that a larger step holds stands for its own effect alone (log entry 5); an
attack, decay or release of 0 that a LOAD brings into a phase acts at the next step (log entry 13). -/
def Obligations.AmplifierAndEnvelopeAdvance : Prop :=
  ∀ (v : VoiceId) (s : State), s.settled →
    let r := s.voice v
    (∀ t, s.amp = .warming t → 20 ≤ elapsedSince s.hubTime t → (∀ w, (s.voice w).state = .idle) → s.sound.idleOff ≠ 0 →
      exec .ampWarmupComplete s = .next { s with amp := .on, idleTimer := some s.hubTime }) ∧
    (∀ t, s.amp = .warming t → 20 ≤ elapsedSince s.hubTime t → (∃ w, (s.voice w).state ≠ .idle) →
      exec .ampWarmupComplete s = .next
        { s with amp := .on, voices := s.voices.map fun r => r.warmed s.envelopes s.hubTime }) ∧
    (∀ t, s.amp = .warming t → 20 ≤ elapsedSince s.hubTime t → (∀ w, (s.voice w).state = .idle) → s.sound.idleOff = 0 →
      exec .ampWarmupComplete s = .next { s with amp := .off, idleTimer := none, speaker := 0 }) ∧
    (∀ t, s.amp = .warming t → elapsedSince s.hubTime t < 20 → exec .ampWarmupComplete s = .next s) ∧
    (∀ t, s.amp = .on → s.idleTimer = some t → s.sound.idleOff ≤ elapsedSince s.hubTime t →
      exec .ampIdleOff s = .next { s with amp := .off, idleTimer := none, speaker := 0 }) ∧
    (reached s.hubTime r.nextStep = false →
      exec (.envelopeStep v) s = .next s ∧ exec (.noteDurationEnd v) s = .next s) ∧
    (∀ n rest, r.notes = n :: rest → (n.route = none ∨ s.reports) → reached s.hubTime r.nextStep = true → r.elapsed < 65535 →
      let e := s.envelopes.get n.envelope
      let k := { r with elapsed := r.elapsed + 1, nextStep := r.nextStep + 1 }
      let steps (t : State) : Prop := exec (.envelopeStep v) s = .next t
      let ended (again : Bool) (outcome : Byte) (k : Voice) : State :=
        let t := s.setVoice v k
        if again then t.pastNote v (rest ++ [n]) else (t.notesReported v [(n, outcome)]).pastNote v rest
      let spent (k : Voice) : State := ended (r.loopOn && !r.stopMarker) (if r.stopMarker then 11 else 0) { k with level := 0 }
      let sounded (k : Voice) : Prop :=
        let released := { k with state := .releasing, envPhase := .release }
        steps (if r.elapsed + 1 ≠ n.duration then s.setVoice v k
          else if k.level = 0 ∨ e.release = 0 then spent released else s.setVoice v released)
      let full := if e.decay = 0 then { k with level := 256 * e.sustain, envPhase := .sustain }
        else { k with level := 65280, envPhase := .decay }
      (n.kind = .stream → steps s) ∧
      (n.kind = .rest → r.state = .playing →
        steps (if r.elapsed + 1 = n.duration then ended r.loopOn 0 k else s.setVoice v k)) ∧
      (n.kind = .tone → r.state = .playing → r.envPhase = .attack →
        let up := r.level + (65280 + e.attack - 1) / e.attack
        sounded (if e.attack = 0 ∨ 65280 ≤ up then full else { k with level := up })) ∧
      (n.kind = .tone → r.state = .playing → r.envPhase = .decay →
        let down := r.level - (65280 - 256 * e.sustain + e.decay - 1) / e.decay
        sounded (if r.level ≤ 256 * e.sustain then { k with envPhase := .sustain }
          else if e.decay = 0 ∨ down ≤ 256 * e.sustain then { k with level := 256 * e.sustain, envPhase := .sustain }
          else { k with level := down })) ∧
      (n.kind = .tone → r.state = .playing → r.envPhase = .sustain → sounded k) ∧
      (n.kind = .tone → r.state = .releasing → r.envPhase = .release →
        let down := r.level - (65280 + e.release - 1) / e.release
        steps (if e.release = 0 ∨ down = 0 then spent k else s.setVoice v { k with level := down })) ∧
      (r.state = .playing → r.elapsed + 1 = n.duration →
        let reaches (t : State) : Prop := exec (.noteDurationEnd v) s = .next t
        let counted := { r with elapsed := n.duration }
        (n.kind = .tone →
          let released := { counted with state := .releasing, envPhase := .release }
          reaches (if r.level = 0 ∨ e.release = 0 then spent released else s.setVoice v released)) ∧
        (n.kind = .rest → reaches (ended r.loopOn 0 counted)))) ∧
    ∀ n rest, r.state = .starved → 500 ≤ elapsedSince s.hubTime r.starvedSince → r.notes = n :: rest →
      (n.route = none ∨ s.reports) →
      exec (.starvedTimeout v) s = .next ((s.notesReported v [(n, 13)]).pastNote v rest)

/-- An output sample (R151, R154 to R158). Each sounding tone gives its wavetable entry scaled by its level and its
gain and its phase advances, and every other voice gives 0. A sounding STREAM note gives the sample of its current
frame, once or twice by its rate; a spent frame, a malformed one and one with no sample are freed, after which the
note ends with END or in RELEASING, the next frame is examined in turn, or the voice is STARVED. A note that ends is
reported as COMPLETED or STOPPED where it has a route, and goes to the tail of its queue where it COMPLETED in loop
mode (R148, R149, R156); a stream sounds beside the tones of the other voices. The sum is scaled by the effective
gain, saturated with the clip counter, and handed to the amplifier while it is ON. Premises: the hub runs, the pool is
conserved, and nothing watches S3; where a note that ends has a route, the pool is conserved, nothing watches S3 and
no request is in progress. Model's choices: a RELEASING stream that holds no frame has played out (log entry 14); an
output sample acts at each command, and a supply measurement is due 10 ms after the last one was taken (log entry 27).
-/
def Obligations.OutputSampleMixesTheVoices : Prop :=
  ∀ s : State, s.settled →
    let sounds (v : VoiceId) : Bool := (s.voice v).state = .playing || (s.voice v).state = .releasing
    let sampled := exec .outputSample s
    let sample (v : VoiceId) : Int := match (s.voice v).notes with
      | n :: _ =>
        if sounds v = true ∧ n.kind = .tone then
          let w := (s.wavetables.get n.wavetable).get
            ⟨(s.voice v).phase.toNat / 67108864, by have := (s.voice v).phase.isLt; omega⟩
          ((w * ((s.voice v).level / 256 : Nat)).tdiv 256 * n.gain).tdiv 256
        else 0
      | [] => 0
    let after (v : VoiceId) : Voice := match (s.voice v).notes with
      | n :: _ =>
        if sounds v = true ∧ n.kind = .tone then
          { s.voice v with phase := (s.voice v).phase + (s.voice v).increment }
        else s.voice v
      | [] => s.voice v
    let tones := sample 0 + sample 1 + sample 2 + sample 3
    ((∀ v n rest, sounds v = true → (s.voice v).notes = n :: rest → n.kind ≠ .stream) →
      sampled = .next (State.mixed { s with voices := { q0 := after 0, q1 := after 1, q2 := after 2, q3 := after 3 } } tones)) ∧
    ∀ (v : VoiceId) (n : Note) (rest : List Note), s.quiet → sounds v = true → (s.voice v).notes = n :: rest →
      n.kind = .stream → (n.route = none ∨ s.reports) →
      (∀ w m more, w ≠ v → sounds w = true → (s.voice w).notes = m :: more → m.kind ≠ .stream) →
      let r := s.voice v
      let gives (out : Int) (t : State) : Prop :=
        let left (w : VoiceId) : Voice := if w = v then t.voice w else after w
        sampled = .next (State.mixed { t with voices := { q0 := left 0, q1 := left 1, q2 := left 2, q3 := left 3 } } (out + tones))
      let ended (t : State) : State :=
        if r.loopOn = true ∧ r.state = .playing ∧ r.stopMarker = false then t.pastNote v (rest ++ [n])
        else (t.notesReported v [(n, if r.state = .releasing ∨ r.stopMarker = true then 11 else 0)]).pastNote v rest
      (r.stream = [] → r.state = .playing → gives 0 (s.setVoice v (r.starving s.hubTime))) ∧
      (r.stream = [] → r.state = .releasing → gives 0 (ended s)) ∧
      ∀ f more, r.stream = f :: more →
        let freed (r : Voice) : State :=
          (s.setVoice v { r with stream := more, playIndex := 0, secondUse := false }).afterRelease f.pages
        let ends : Prop := r.state = .releasing ∨ f.flags.getLsbD 1 = true
        (f.wellFormedStream → r.playIndex < f.samples →
          let out := (f.sample r.playIndex * n.gain).tdiv 256
          (num8 f.payload 1 = 1 → r.secondUse = false → gives out (s.setVoice v { r with secondUse := true })) ∧
          (num8 f.payload 1 = 0 ∨ r.secondUse = true →
            (r.playIndex + 1 < f.samples →
              gives out (s.setVoice v { r with playIndex := r.playIndex + 1, secondUse := false })) ∧
            (r.playIndex + 1 = f.samples →
              let t := freed r
              (ends → gives out (ended t)) ∧
              (¬ends → gives out (if more = [] then t.setVoice v ((t.voice v).starving s.hubTime) else t))))) ∧
        (¬f.wellFormedStream ∨ f.samples ≤ r.playIndex →
          let t := freed (if f.wellFormedStream then r
            else { r with formatErrors := min 65535 (r.formatErrors + 1) })
          (ends → gives 0 (ended t)) ∧
          (¬ends → more = [] → gives 0 (t.setVoice v ((t.voice v).starving s.hubTime))) ∧
          (¬ends → more ≠ [] → sampled = exec .outputSample t))

/-! ## Reflexes (chapter 10) -/

/-- The conditions (R166, R167): the level conditions compare the value of a VALID write with the thresholds,
NOT_VALID is true of a write of any other tag, and the crossings compare a VALID write with a VALID last-seen value.
The re-arm test of each condition compares a VALID write with the thresholds and the hysteresis (R170). -/
def Obligations.ReflexConditionsCompareTheWrite : Prop :=
  ∀ (r : Reflex) (c : Cell),
    (r.condition = .above → (r.holds c = true ↔ c.tag = .valid ∧ c.value > r.t)) ∧
    (r.condition = .below → (r.holds c = true ↔ c.tag = .valid ∧ c.value < r.t)) ∧
    (r.condition = .inside → (r.holds c = true ↔ c.tag = .valid ∧ r.t ≤ c.value ∧ c.value ≤ r.t2)) ∧
    (r.condition = .outside → (r.holds c = true ↔ c.tag = .valid ∧ (c.value < r.t ∨ c.value > r.t2))) ∧
    (r.condition = .notValid → (r.holds c = true ↔ c.tag ≠ .valid)) ∧
    (r.condition = .riseThrough →
      (r.holds c = true ↔ r.lastTag = .valid ∧ c.tag = .valid ∧ r.lastValue < r.t ∧ r.t ≤ c.value)) ∧
    (r.condition = .fallThrough →
      (r.holds c = true ↔ r.lastTag = .valid ∧ c.tag = .valid ∧ r.lastValue > r.t ∧ r.t ≥ c.value)) ∧
    (r.rearmTest c = true ↔ c.tag = .valid ∧
      ((r.condition = .above ∧ c.value < r.t - r.hysteresis) ∨ (r.condition = .below ∧ c.value > r.t + r.hysteresis) ∨
        (r.condition = .inside ∧ (c.value < r.t - r.hysteresis ∨ c.value > r.t2 + r.hysteresis)) ∨
        (r.condition = .outside ∧ r.t + r.hysteresis ≤ c.value ∧ c.value ≤ r.t2 - r.hysteresis) ∨
        r.condition = .notValid))

/-- The write that a TOUCH sample makes reaches the ARMED reflex on its cell (R83, R168): one that does not hold notes
it, and one with SEND_EVENT fires and places its event, or finds its link DOWN. A write at a reflex on its cell (R168
to R173): a DISABLED one and one whose condition is false only note it; an ARMED one whose condition is true counts a
firing, sets REFLEX_FIRED, records its outcome and is FIRED, or ARMED again for a crossing in REARM mode; a FIRED one
in REARM mode is ARMED again by its re-arm test. SEND_EVENT places its event, or records NO_TARGET for a DOWN link and
FULL where there is no room. A motor action is taken or records why the motion unit turned it away (R171), a voice
action likewise (R172), and the REFLEX_FIRED event follows the action (R174). Premises: the hub runs, the pool is
conserved, and nothing watches S3; nothing acts on a write of the port's cells, and neither the port nor its motor has
a route. Model's choices: the order of the observers (log entry 6); a SUSPENDED port gives NO_TARGET, whatever the
supply and the links (log entry 39). -/
def Obligations.ReflexFiresOnItsWrite : Prop :=
  (∀ (p : Port) (raw : RawSample) (i : Fin 16) (r : Reflex) (s : State), s.stillPort p → s.quiet →
    (s.port p).cls = .touch → (s.acquisition p).schedule = .analog →
    reached s.hubTime (s.acquisition p).nextDue = true → s.mgmt.inProgress = none → r.cell = .port p 0 →
    r.state = .armed →
    let t := s.touched p raw
    let c := t.cell (.port p 0)
    let seen (r : Reflex) : Reflex := { r with lastValue := c.value, lastTag := c.tag }
    let fires (o : ReflexOutcome) : Reflex := seen
      { r with
        fireCount := min 255 (r.fireCount + 1), lastOutcome := o
        state := if r.mode = .rearm ∧ (r.condition = .riseThrough ∨ r.condition = .fallThrough) then .armed else .fired }
    let sampled := exec (.analogSample p raw) (s.setReflex i r)
    (r.holds c = false → sampled = .next (t.setReflex i (seen r))) ∧
    ∀ e, r.holds c = true → r.action = .sendEvent e → r.eventOnFire = none →
      ((s.link e.link).up = false →
        sampled = .next (((t.downLinkDrop e.link).latched 11).setReflex i (fires .noTarget))) ∧
      ((s.link e.link).up = true → 1 ≤ s.free → (s.link e.link).urgent.length < 8 →
        sampled = .next ((((t.withFree (s.free - 1)).withUrgent e.link
          { channel := e.channel, kind := .event, flags := 1, tag := 0
            payload := [5, BitVec.ofNat 8 i.val, BitVec.ofNat 8 r.cell.code, BitVec.ofNat 8 c.tag.code] ++
              leInt c.value ++ le32 s.hubTime }).latched 11).setReflex i (fires .done)))) ∧
  ∀ (w : Write) (i : Fin 16) (s : State), (s.reflex i).cell = w.cell → s.conserved → s.mgmt.inProgress = none →
    let r := s.reflex i
    let seen (r : Reflex) : Reflex := { r with lastValue := w.left.value, lastTag := w.left.tag }
    let written := evaluateReflex w s i
    (r.state = .disabled → written = s.setReflex i (seen r)) ∧
    (r.state = .armed → r.holds w.left = false → written = s.setReflex i (seen r)) ∧
    (r.state = .fired →
      written = s.setReflex i (seen (if r.mode = .rearm ∧ r.rearmTest w.left = true then { r with state := .armed } else r))) ∧
    (r.state = .armed → r.holds w.left = true →
      ((written.reflex i).fireCount = min 255 (r.fireCount + 1) ∧ written.attention.latches.getLsbD 11 = true ∧
        (written.reflex i).lastValue = w.left.value ∧ (written.reflex i).lastTag = w.left.tag ∧
        (written.reflex i).state =
          (if r.mode = .rearm ∧ (r.condition = .riseThrough ∨ r.condition = .fallThrough) then .armed else .fired)) ∧
      (∀ e, r.action = .sendEvent e →
        ((s.link e.link).up = false → (written.reflex i).lastOutcome = .noTarget) ∧
        ((s.link e.link).up = true → (s.free = 0 ∨ 8 ≤ (s.link e.link).urgent.length) →
          (written.reflex i).lastOutcome = .refused .full) ∧
        ((s.link e.link).up = true → 1 ≤ s.free → (s.link e.link).urgent.length < 8 →
          (written.reflex i).lastOutcome = .done ∧ (r.eventOnFire = none →
            (written.link e.link).urgent = (s.link e.link).urgent ++
              [{ channel := e.channel, kind := .event, flags := 1, tag := 0
                 payload := [5, BitVec.ofNat 8 i.val, BitVec.ofNat 8 w.cell.code, BitVec.ofNat 8 w.left.tag.code] ++
                   leInt w.left.value ++ le32 s.hubTime }]))) ∧
      let outcome := (written.reflex i).lastOutcome
      let motion (p : Port) (takes : Motor → Prop) : Prop :=
        (s.motor p = none → outcome = .noTarget) ∧
        ∀ m, s.motor p = some m →
          (m.state = .locked → outcome = .refused .locked) ∧
          (m.state ≠ .locked → (s.port p).state = .suspended → outcome = .noTarget) ∧
          (m.state ≠ .locked → (s.port p).state ≠ .suspended → s.supply.state = .critical ∨ lossHolds m s = true →
            outcome = .refused .wrongState) ∧
          (s.takesMotion p m → outcome = .done ∧ takes m)
      (∀ p raw, r.action = .motorReplace p raw →
        (parseSegment raw = none → outcome = .refused .badFormat) ∧
        ∀ g, parseSegment raw = some g → motion p fun m =>
          let rated := (s.classes.get m.cls).ratedMax
          let h := g.clamped rated
          written.motor p = some (if m.executing = true ∨ m.state = .holding then m.startingContinuous rated [h] h
            else m.startingMeasured rated h)) ∧
      (∀ p a lock, r.action = .motorStop p a lock → motion p fun m =>
        (lock = true → written.motor p = some (m.stoppedIn .locked .brake)) ∧
        ∀ g rest, lock = false → m.executing = true → m.queue = g :: rest →
          written.motor p = some (m.endedWith a g.accel)) ∧
      (∀ v raw, r.action = .voicePlay v raw →
        (parseNote raw = none → outcome = .refused .badFormat) ∧
        ∀ n, parseNote raw = some n →
          (s.supply.state = .critical → outcome = .refused .wrongState) ∧
          (s.supply.state ≠ .critical → outcome = .done ∧ (written.voice v).notes = [n])) ∧
      (∀ v cut, r.action = .voiceStop v cut → outcome = .done ∧ (cut = true → (written.voice v).state = .idle)) ∧
      ∀ e, r.eventOnFire = some e →
        let t := evaluateReflex w (s.setReflex i { r with eventOnFire := none }) i
        let fired : Frame :=
          { channel := e.channel, kind := .event, flags := 1, tag := 0
            payload := [4, BitVec.ofNat 8 i.val, BitVec.ofNat 8 w.cell.code, BitVec.ofNat 8 w.left.tag.code] ++
              leInt w.left.value ++
              (match outcome with
                | .nothing => [0, 0]
                | .done => [1, 0]
                | .noTarget => [2, 0]
                | .refused code => [3, BitVec.ofNat 8 code.code]) ++
              [BitVec.ofNat 8 (min 255 (r.fireCount + 1))] ++ le32 w.left.timestamp }
        written = (placeUrgent e.link fired t).setReflex i { t.reflex i with eventOnFire := some e })

/-! ## Subscriptions (chapter 11) -/

/-- A period expiry and an interval end attempt a report (R13, R180 to R182), in PERIODIC and in BOTH mode: with room
on an UP link one page leaves free, the report joins the normal queue and S3 is written; otherwise a skip is counted
and the subscription stays pending; with the minimum interval still running the attempt waits for its end. A write of
the cell makes a CHANGE or BOTH subscription pending when it is a change; a pending one attempts its report at the
write (R179, R181). The report carries the value and the tag that the write left, and the timestamp and the update
count of the cell at the build (R182). The write that a TOUCH sample makes reaches the ACTIVE subscription on its cell
in the same way (R83). Premises: the hub runs, the pool is conserved, and nothing watches S3; nothing acts on a write
of the port's cells, and neither the port nor its motor has a route. Model's choices: the order of the observers (log
entry 6); a report of S3 is built before the write of S3 that its own page makes (log entry 40). -/
def Obligations.SubscriptionsReportOrSkip : Prop :=
  let passed (b : Subscription) (now : Time) : Prop := ∀ t, b.lastReport = some t → b.minInterval ≤ elapsedSince now t
  let room (b : Subscription) (s : State) : Prop :=
    (s.link b.target.link).up = true ∧ 1 ≤ s.free ∧ (s.link b.target.link).normal.length < 24
  let reports (i : Fin 24) (b : Subscription) (value : Int) (tag : CellTag) (s : State) : State :=
    let c := s.cell b.cell
    ((s.withFree (s.free - 1)).withNormal b.target.link
      { channel := b.target.channel, kind := .report, flags := 0, tag := 0
        payload := [BitVec.ofNat 8 i.val, BitVec.ofNat 8 b.cell.code, BitVec.ofNat 8 tag.code] ++ leInt value ++
          le32 c.timestamp ++ [c.updateCount] ++ le16 b.skipped ++ le32 s.hubTime }).setSub i
      { b with lastValue := value, lastTag := tag, lastReport := some s.hubTime, pending := false, attemptDue := false }
  let skips (i : Fin 24) (b : Subscription) (s : State) : State :=
    s.setSub i { b with skipped := min 65535 (b.skipped + 1) }
  let owes (b : Subscription) (value : Int) (tag : CellTag) : Prop :=
    b.pending = true ∨ b.mode ≠ .periodic ∧ (tag ≠ b.lastTag ∨ b.deadband < (value - b.lastValue).natAbs)
  (∀ (i : Fin 24) (s : State), s.quiet → (s.sub i).active = true → (s.sub i).cell ≠ .sys 3 →
    let b := s.sub i
    let c := s.cell b.cell
    (∀ t, b.nextExpiry = some t → b.mode ≠ .change → reached s.hubTime t = true →
      let due := { b with pending := true, nextExpiry := some (t + BitVec.ofNat 32 b.period) }
      let expires := exec (.subscriptionPeriodExpiry i) s
      (passed b s.hubTime → room b s → expires = .next (reports i due c.value c.tag s)) ∧
      (passed b s.hubTime → ¬room b s → expires = .next (skips i due s)) ∧
      (¬passed b s.hubTime → expires = .next (s.setSub i { due with attemptDue := true }))) ∧
    (b.attemptDue = true → b.pending = true → passed b s.hubTime →
      (room b s → exec (.subscriptionIntervalEnd i) s = .next (reports i b c.value c.tag s)) ∧
      (¬room b s → exec (.subscriptionIntervalEnd i) s = .next (skips i { b with attemptDue := false } s)))) ∧
  (∀ (p : Port) (raw : RawSample) (i : Fin 24) (b : Subscription) (s : State), s.stillPort p → s.quiet →
    (s.port p).cls = .touch → (s.acquisition p).schedule = .analog →
    reached s.hubTime (s.acquisition p).nextDue = true → b.active = true → b.cell = .port p 0 →
    let t := s.touched p raw
    let c := t.cell (.port p 0)
    let due := { b with pending := true }
    let sampled := exec (.analogSample p raw) (s.setSub i b)
    (¬owes b c.value c.tag → sampled = .next (t.setSub i b)) ∧
    (owes b c.value c.tag →
      (¬passed b s.hubTime → sampled = .next (t.setSub i { due with attemptDue := true })) ∧
      (passed b s.hubTime → room b s → sampled = .next (reports i due c.value c.tag t)) ∧
      (passed b s.hubTime → ¬room b s → sampled = .next (skips i due t)))) ∧
  ∀ (i : Fin 24) (w : Write) (s : State), s.conserved → (s.sub i).active = true → (s.sub i).cell = w.cell →
    let b := s.sub i
    let v := w.left
    let due := { b with pending := true }
    let t := reports i due v.value v.tag s
    (¬owes b v.value v.tag → observeSub w s i = s) ∧
    (owes b v.value v.tag →
      (¬passed b s.hubTime → observeSub w s i = s.setSub i { due with attemptDue := true }) ∧
      (passed b s.hubTime → room b s →
        observeSub w s i = { t with unobserved := s.unobserved ++ [{ cell := .sys 3, left := t.cell (.sys 3) }] }) ∧
      (passed b s.hubTime → ¬room b s → observeSub w s i = skips i due s))

end
end

