-- ==== Sys2Proof/Laws/State.lean ====
section
/-! SUPPORT. The small lemmas of the state: what each update of State leaves of every field, and reading back what was
replaced. -/

namespace Sys2Proof.Machine

variable (s : State)

/-! ## setLink -/

@[simp] theorem State.setLink_inReset (l : Link) (u : LinkUnit) : (s.setLink l u).inReset = s.inReset := rfl
@[simp] theorem State.setLink_hubTime (l : Link) (u : LinkUnit) : (s.setLink l u).hubTime = s.hubTime := rfl
@[simp] theorem State.setLink_free (l : Link) (u : LinkUnit) : (s.setLink l u).free = s.free := rfl
@[simp] theorem State.setLink_routes (l : Link) (u : LinkUnit) : (s.setLink l u).routes = s.routes := rfl
@[simp] theorem State.setLink_ports (l : Link) (u : LinkUnit) : (s.setLink l u).ports = s.ports := rfl
@[simp] theorem State.setLink_acq (l : Link) (u : LinkUnit) : (s.setLink l u).acq = s.acq := rfl
@[simp] theorem State.setLink_calibration (l : Link) (u : LinkUnit) : (s.setLink l u).calibration = s.calibration := rfl
@[simp] theorem State.setLink_cells (l : Link) (u : LinkUnit) : (s.setLink l u).cells = s.cells := rfl
@[simp] theorem State.setLink_sys (l : Link) (u : LinkUnit) : (s.setLink l u).sys = s.sys := rfl
@[simp] theorem State.setLink_unobserved (l : Link) (u : LinkUnit) : (s.setLink l u).unobserved = s.unobserved := rfl
@[simp] theorem State.setLink_flags (l : Link) (u : LinkUnit) : (s.setLink l u).flags = s.flags := rfl
@[simp] theorem State.setLink_classes (l : Link) (u : LinkUnit) : (s.setLink l u).classes = s.classes := rfl
@[simp] theorem State.setLink_motors (l : Link) (u : LinkUnit) : (s.setLink l u).motors = s.motors := rfl
@[simp] theorem State.setLink_supply (l : Link) (u : LinkUnit) : (s.setLink l u).supply = s.supply := rfl
@[simp] theorem State.setLink_voices (l : Link) (u : LinkUnit) : (s.setLink l u).voices = s.voices := rfl
@[simp] theorem State.setLink_wavetables (l : Link) (u : LinkUnit) : (s.setLink l u).wavetables = s.wavetables := rfl
@[simp] theorem State.setLink_envelopes (l : Link) (u : LinkUnit) : (s.setLink l u).envelopes = s.envelopes := rfl
@[simp] theorem State.setLink_sound (l : Link) (u : LinkUnit) : (s.setLink l u).sound = s.sound := rfl
@[simp] theorem State.setLink_amp (l : Link) (u : LinkUnit) : (s.setLink l u).amp = s.amp := rfl
@[simp] theorem State.setLink_idleTimer (l : Link) (u : LinkUnit) : (s.setLink l u).idleTimer = s.idleTimer := rfl
@[simp] theorem State.setLink_clips (l : Link) (u : LinkUnit) : (s.setLink l u).clips = s.clips := rfl
@[simp] theorem State.setLink_speaker (l : Link) (u : LinkUnit) : (s.setLink l u).speaker = s.speaker := rfl
@[simp] theorem State.setLink_reflexes (l : Link) (u : LinkUnit) : (s.setLink l u).reflexes = s.reflexes := rfl
@[simp] theorem State.setLink_subs (l : Link) (u : LinkUnit) : (s.setLink l u).subs = s.subs := rfl
@[simp] theorem State.setLink_mgmt (l : Link) (u : LinkUnit) : (s.setLink l u).mgmt = s.mgmt := rfl
@[simp] theorem State.setLink_attention (l : Link) (u : LinkUnit) : (s.setLink l u).attention = s.attention := rfl
@[simp] theorem State.setLink_pending (l : Link) (u : LinkUnit) : (s.setLink l u).pending = s.pending := rfl

/-! ## setPort -/

@[simp] theorem State.setPort_inReset (p : Port) (r : PortRec) : (s.setPort p r).inReset = s.inReset := rfl
@[simp] theorem State.setPort_hubTime (p : Port) (r : PortRec) : (s.setPort p r).hubTime = s.hubTime := rfl
@[simp] theorem State.setPort_free (p : Port) (r : PortRec) : (s.setPort p r).free = s.free := rfl
@[simp] theorem State.setPort_links (p : Port) (r : PortRec) : (s.setPort p r).links = s.links := rfl
@[simp] theorem State.setPort_routes (p : Port) (r : PortRec) : (s.setPort p r).routes = s.routes := rfl
@[simp] theorem State.setPort_acq (p : Port) (r : PortRec) : (s.setPort p r).acq = s.acq := rfl
@[simp] theorem State.setPort_calibration (p : Port) (r : PortRec) : (s.setPort p r).calibration = s.calibration := rfl
@[simp] theorem State.setPort_cells (p : Port) (r : PortRec) : (s.setPort p r).cells = s.cells := rfl
@[simp] theorem State.setPort_sys (p : Port) (r : PortRec) : (s.setPort p r).sys = s.sys := rfl
@[simp] theorem State.setPort_unobserved (p : Port) (r : PortRec) : (s.setPort p r).unobserved = s.unobserved := rfl
@[simp] theorem State.setPort_flags (p : Port) (r : PortRec) : (s.setPort p r).flags = s.flags := rfl
@[simp] theorem State.setPort_classes (p : Port) (r : PortRec) : (s.setPort p r).classes = s.classes := rfl
@[simp] theorem State.setPort_motors (p : Port) (r : PortRec) : (s.setPort p r).motors = s.motors := rfl
@[simp] theorem State.setPort_supply (p : Port) (r : PortRec) : (s.setPort p r).supply = s.supply := rfl
@[simp] theorem State.setPort_voices (p : Port) (r : PortRec) : (s.setPort p r).voices = s.voices := rfl
@[simp] theorem State.setPort_wavetables (p : Port) (r : PortRec) : (s.setPort p r).wavetables = s.wavetables := rfl
@[simp] theorem State.setPort_envelopes (p : Port) (r : PortRec) : (s.setPort p r).envelopes = s.envelopes := rfl
@[simp] theorem State.setPort_sound (p : Port) (r : PortRec) : (s.setPort p r).sound = s.sound := rfl
@[simp] theorem State.setPort_amp (p : Port) (r : PortRec) : (s.setPort p r).amp = s.amp := rfl
@[simp] theorem State.setPort_idleTimer (p : Port) (r : PortRec) : (s.setPort p r).idleTimer = s.idleTimer := rfl
@[simp] theorem State.setPort_clips (p : Port) (r : PortRec) : (s.setPort p r).clips = s.clips := rfl
@[simp] theorem State.setPort_speaker (p : Port) (r : PortRec) : (s.setPort p r).speaker = s.speaker := rfl
@[simp] theorem State.setPort_reflexes (p : Port) (r : PortRec) : (s.setPort p r).reflexes = s.reflexes := rfl
@[simp] theorem State.setPort_subs (p : Port) (r : PortRec) : (s.setPort p r).subs = s.subs := rfl
@[simp] theorem State.setPort_mgmt (p : Port) (r : PortRec) : (s.setPort p r).mgmt = s.mgmt := rfl
@[simp] theorem State.setPort_attention (p : Port) (r : PortRec) : (s.setPort p r).attention = s.attention := rfl
@[simp] theorem State.setPort_pending (p : Port) (r : PortRec) : (s.setPort p r).pending = s.pending := rfl

/-! ## setAcq -/

@[simp] theorem State.setAcq_inReset (p : Port) (r : Acquisition) : (s.setAcq p r).inReset = s.inReset := rfl
@[simp] theorem State.setAcq_hubTime (p : Port) (r : Acquisition) : (s.setAcq p r).hubTime = s.hubTime := rfl
@[simp] theorem State.setAcq_free (p : Port) (r : Acquisition) : (s.setAcq p r).free = s.free := rfl
@[simp] theorem State.setAcq_links (p : Port) (r : Acquisition) : (s.setAcq p r).links = s.links := rfl
@[simp] theorem State.setAcq_routes (p : Port) (r : Acquisition) : (s.setAcq p r).routes = s.routes := rfl
@[simp] theorem State.setAcq_ports (p : Port) (r : Acquisition) : (s.setAcq p r).ports = s.ports := rfl
@[simp] theorem State.setAcq_calibration (p : Port) (r : Acquisition) : (s.setAcq p r).calibration = s.calibration := rfl
@[simp] theorem State.setAcq_cells (p : Port) (r : Acquisition) : (s.setAcq p r).cells = s.cells := rfl
@[simp] theorem State.setAcq_sys (p : Port) (r : Acquisition) : (s.setAcq p r).sys = s.sys := rfl
@[simp] theorem State.setAcq_unobserved (p : Port) (r : Acquisition) : (s.setAcq p r).unobserved = s.unobserved := rfl
@[simp] theorem State.setAcq_flags (p : Port) (r : Acquisition) : (s.setAcq p r).flags = s.flags := rfl
@[simp] theorem State.setAcq_classes (p : Port) (r : Acquisition) : (s.setAcq p r).classes = s.classes := rfl
@[simp] theorem State.setAcq_motors (p : Port) (r : Acquisition) : (s.setAcq p r).motors = s.motors := rfl
@[simp] theorem State.setAcq_supply (p : Port) (r : Acquisition) : (s.setAcq p r).supply = s.supply := rfl
@[simp] theorem State.setAcq_voices (p : Port) (r : Acquisition) : (s.setAcq p r).voices = s.voices := rfl
@[simp] theorem State.setAcq_wavetables (p : Port) (r : Acquisition) : (s.setAcq p r).wavetables = s.wavetables := rfl
@[simp] theorem State.setAcq_envelopes (p : Port) (r : Acquisition) : (s.setAcq p r).envelopes = s.envelopes := rfl
@[simp] theorem State.setAcq_sound (p : Port) (r : Acquisition) : (s.setAcq p r).sound = s.sound := rfl
@[simp] theorem State.setAcq_amp (p : Port) (r : Acquisition) : (s.setAcq p r).amp = s.amp := rfl
@[simp] theorem State.setAcq_idleTimer (p : Port) (r : Acquisition) : (s.setAcq p r).idleTimer = s.idleTimer := rfl
@[simp] theorem State.setAcq_clips (p : Port) (r : Acquisition) : (s.setAcq p r).clips = s.clips := rfl
@[simp] theorem State.setAcq_speaker (p : Port) (r : Acquisition) : (s.setAcq p r).speaker = s.speaker := rfl
@[simp] theorem State.setAcq_reflexes (p : Port) (r : Acquisition) : (s.setAcq p r).reflexes = s.reflexes := rfl
@[simp] theorem State.setAcq_subs (p : Port) (r : Acquisition) : (s.setAcq p r).subs = s.subs := rfl
@[simp] theorem State.setAcq_mgmt (p : Port) (r : Acquisition) : (s.setAcq p r).mgmt = s.mgmt := rfl
@[simp] theorem State.setAcq_attention (p : Port) (r : Acquisition) : (s.setAcq p r).attention = s.attention := rfl
@[simp] theorem State.setAcq_pending (p : Port) (r : Acquisition) : (s.setAcq p r).pending = s.pending := rfl

/-! ## setFlagRec -/

@[simp] theorem State.setFlagRec_inReset (p : Port) (r : FlagRec) : (s.setFlagRec p r).inReset = s.inReset := rfl
@[simp] theorem State.setFlagRec_hubTime (p : Port) (r : FlagRec) : (s.setFlagRec p r).hubTime = s.hubTime := rfl
@[simp] theorem State.setFlagRec_free (p : Port) (r : FlagRec) : (s.setFlagRec p r).free = s.free := rfl
@[simp] theorem State.setFlagRec_links (p : Port) (r : FlagRec) : (s.setFlagRec p r).links = s.links := rfl
@[simp] theorem State.setFlagRec_routes (p : Port) (r : FlagRec) : (s.setFlagRec p r).routes = s.routes := rfl
@[simp] theorem State.setFlagRec_ports (p : Port) (r : FlagRec) : (s.setFlagRec p r).ports = s.ports := rfl
@[simp] theorem State.setFlagRec_acq (p : Port) (r : FlagRec) : (s.setFlagRec p r).acq = s.acq := rfl
@[simp] theorem State.setFlagRec_calibration (p : Port) (r : FlagRec) : (s.setFlagRec p r).calibration = s.calibration := rfl
@[simp] theorem State.setFlagRec_cells (p : Port) (r : FlagRec) : (s.setFlagRec p r).cells = s.cells := rfl
@[simp] theorem State.setFlagRec_sys (p : Port) (r : FlagRec) : (s.setFlagRec p r).sys = s.sys := rfl
@[simp] theorem State.setFlagRec_unobserved (p : Port) (r : FlagRec) : (s.setFlagRec p r).unobserved = s.unobserved := rfl
@[simp] theorem State.setFlagRec_classes (p : Port) (r : FlagRec) : (s.setFlagRec p r).classes = s.classes := rfl
@[simp] theorem State.setFlagRec_motors (p : Port) (r : FlagRec) : (s.setFlagRec p r).motors = s.motors := rfl
@[simp] theorem State.setFlagRec_supply (p : Port) (r : FlagRec) : (s.setFlagRec p r).supply = s.supply := rfl
@[simp] theorem State.setFlagRec_voices (p : Port) (r : FlagRec) : (s.setFlagRec p r).voices = s.voices := rfl
@[simp] theorem State.setFlagRec_wavetables (p : Port) (r : FlagRec) : (s.setFlagRec p r).wavetables = s.wavetables := rfl
@[simp] theorem State.setFlagRec_envelopes (p : Port) (r : FlagRec) : (s.setFlagRec p r).envelopes = s.envelopes := rfl
@[simp] theorem State.setFlagRec_sound (p : Port) (r : FlagRec) : (s.setFlagRec p r).sound = s.sound := rfl
@[simp] theorem State.setFlagRec_amp (p : Port) (r : FlagRec) : (s.setFlagRec p r).amp = s.amp := rfl
@[simp] theorem State.setFlagRec_idleTimer (p : Port) (r : FlagRec) : (s.setFlagRec p r).idleTimer = s.idleTimer := rfl
@[simp] theorem State.setFlagRec_clips (p : Port) (r : FlagRec) : (s.setFlagRec p r).clips = s.clips := rfl
@[simp] theorem State.setFlagRec_speaker (p : Port) (r : FlagRec) : (s.setFlagRec p r).speaker = s.speaker := rfl
@[simp] theorem State.setFlagRec_reflexes (p : Port) (r : FlagRec) : (s.setFlagRec p r).reflexes = s.reflexes := rfl
@[simp] theorem State.setFlagRec_subs (p : Port) (r : FlagRec) : (s.setFlagRec p r).subs = s.subs := rfl
@[simp] theorem State.setFlagRec_mgmt (p : Port) (r : FlagRec) : (s.setFlagRec p r).mgmt = s.mgmt := rfl
@[simp] theorem State.setFlagRec_attention (p : Port) (r : FlagRec) : (s.setFlagRec p r).attention = s.attention := rfl
@[simp] theorem State.setFlagRec_pending (p : Port) (r : FlagRec) : (s.setFlagRec p r).pending = s.pending := rfl

/-! ## setMotor -/

@[simp] theorem State.setMotor_inReset (p : Port) (m : Option Motor) : (s.setMotor p m).inReset = s.inReset := rfl
@[simp] theorem State.setMotor_hubTime (p : Port) (m : Option Motor) : (s.setMotor p m).hubTime = s.hubTime := rfl
@[simp] theorem State.setMotor_free (p : Port) (m : Option Motor) : (s.setMotor p m).free = s.free := rfl
@[simp] theorem State.setMotor_links (p : Port) (m : Option Motor) : (s.setMotor p m).links = s.links := rfl
@[simp] theorem State.setMotor_routes (p : Port) (m : Option Motor) : (s.setMotor p m).routes = s.routes := rfl
@[simp] theorem State.setMotor_ports (p : Port) (m : Option Motor) : (s.setMotor p m).ports = s.ports := rfl
@[simp] theorem State.setMotor_acq (p : Port) (m : Option Motor) : (s.setMotor p m).acq = s.acq := rfl
@[simp] theorem State.setMotor_calibration (p : Port) (m : Option Motor) : (s.setMotor p m).calibration = s.calibration := rfl
@[simp] theorem State.setMotor_cells (p : Port) (m : Option Motor) : (s.setMotor p m).cells = s.cells := rfl
@[simp] theorem State.setMotor_sys (p : Port) (m : Option Motor) : (s.setMotor p m).sys = s.sys := rfl
@[simp] theorem State.setMotor_unobserved (p : Port) (m : Option Motor) : (s.setMotor p m).unobserved = s.unobserved := rfl
@[simp] theorem State.setMotor_flags (p : Port) (m : Option Motor) : (s.setMotor p m).flags = s.flags := rfl
@[simp] theorem State.setMotor_classes (p : Port) (m : Option Motor) : (s.setMotor p m).classes = s.classes := rfl
@[simp] theorem State.setMotor_supply (p : Port) (m : Option Motor) : (s.setMotor p m).supply = s.supply := rfl
@[simp] theorem State.setMotor_voices (p : Port) (m : Option Motor) : (s.setMotor p m).voices = s.voices := rfl
@[simp] theorem State.setMotor_wavetables (p : Port) (m : Option Motor) : (s.setMotor p m).wavetables = s.wavetables := rfl
@[simp] theorem State.setMotor_envelopes (p : Port) (m : Option Motor) : (s.setMotor p m).envelopes = s.envelopes := rfl
@[simp] theorem State.setMotor_sound (p : Port) (m : Option Motor) : (s.setMotor p m).sound = s.sound := rfl
@[simp] theorem State.setMotor_amp (p : Port) (m : Option Motor) : (s.setMotor p m).amp = s.amp := rfl
@[simp] theorem State.setMotor_idleTimer (p : Port) (m : Option Motor) : (s.setMotor p m).idleTimer = s.idleTimer := rfl
@[simp] theorem State.setMotor_clips (p : Port) (m : Option Motor) : (s.setMotor p m).clips = s.clips := rfl
@[simp] theorem State.setMotor_speaker (p : Port) (m : Option Motor) : (s.setMotor p m).speaker = s.speaker := rfl
@[simp] theorem State.setMotor_reflexes (p : Port) (m : Option Motor) : (s.setMotor p m).reflexes = s.reflexes := rfl
@[simp] theorem State.setMotor_subs (p : Port) (m : Option Motor) : (s.setMotor p m).subs = s.subs := rfl
@[simp] theorem State.setMotor_mgmt (p : Port) (m : Option Motor) : (s.setMotor p m).mgmt = s.mgmt := rfl
@[simp] theorem State.setMotor_attention (p : Port) (m : Option Motor) : (s.setMotor p m).attention = s.attention := rfl
@[simp] theorem State.setMotor_pending (p : Port) (m : Option Motor) : (s.setMotor p m).pending = s.pending := rfl

/-! ## setVoice -/

@[simp] theorem State.setVoice_inReset (v : VoiceId) (r : Voice) : (s.setVoice v r).inReset = s.inReset := rfl
@[simp] theorem State.setVoice_hubTime (v : VoiceId) (r : Voice) : (s.setVoice v r).hubTime = s.hubTime := rfl
@[simp] theorem State.setVoice_free (v : VoiceId) (r : Voice) : (s.setVoice v r).free = s.free := rfl
@[simp] theorem State.setVoice_links (v : VoiceId) (r : Voice) : (s.setVoice v r).links = s.links := rfl
@[simp] theorem State.setVoice_routes (v : VoiceId) (r : Voice) : (s.setVoice v r).routes = s.routes := rfl
@[simp] theorem State.setVoice_ports (v : VoiceId) (r : Voice) : (s.setVoice v r).ports = s.ports := rfl
@[simp] theorem State.setVoice_acq (v : VoiceId) (r : Voice) : (s.setVoice v r).acq = s.acq := rfl
@[simp] theorem State.setVoice_calibration (v : VoiceId) (r : Voice) : (s.setVoice v r).calibration = s.calibration := rfl
@[simp] theorem State.setVoice_cells (v : VoiceId) (r : Voice) : (s.setVoice v r).cells = s.cells := rfl
@[simp] theorem State.setVoice_sys (v : VoiceId) (r : Voice) : (s.setVoice v r).sys = s.sys := rfl
@[simp] theorem State.setVoice_unobserved (v : VoiceId) (r : Voice) : (s.setVoice v r).unobserved = s.unobserved := rfl
@[simp] theorem State.setVoice_flags (v : VoiceId) (r : Voice) : (s.setVoice v r).flags = s.flags := rfl
@[simp] theorem State.setVoice_classes (v : VoiceId) (r : Voice) : (s.setVoice v r).classes = s.classes := rfl
@[simp] theorem State.setVoice_motors (v : VoiceId) (r : Voice) : (s.setVoice v r).motors = s.motors := rfl
@[simp] theorem State.setVoice_supply (v : VoiceId) (r : Voice) : (s.setVoice v r).supply = s.supply := rfl
@[simp] theorem State.setVoice_wavetables (v : VoiceId) (r : Voice) : (s.setVoice v r).wavetables = s.wavetables := rfl
@[simp] theorem State.setVoice_envelopes (v : VoiceId) (r : Voice) : (s.setVoice v r).envelopes = s.envelopes := rfl
@[simp] theorem State.setVoice_sound (v : VoiceId) (r : Voice) : (s.setVoice v r).sound = s.sound := rfl
@[simp] theorem State.setVoice_amp (v : VoiceId) (r : Voice) : (s.setVoice v r).amp = s.amp := rfl
@[simp] theorem State.setVoice_idleTimer (v : VoiceId) (r : Voice) : (s.setVoice v r).idleTimer = s.idleTimer := rfl
@[simp] theorem State.setVoice_clips (v : VoiceId) (r : Voice) : (s.setVoice v r).clips = s.clips := rfl
@[simp] theorem State.setVoice_speaker (v : VoiceId) (r : Voice) : (s.setVoice v r).speaker = s.speaker := rfl
@[simp] theorem State.setVoice_reflexes (v : VoiceId) (r : Voice) : (s.setVoice v r).reflexes = s.reflexes := rfl
@[simp] theorem State.setVoice_subs (v : VoiceId) (r : Voice) : (s.setVoice v r).subs = s.subs := rfl
@[simp] theorem State.setVoice_mgmt (v : VoiceId) (r : Voice) : (s.setVoice v r).mgmt = s.mgmt := rfl
@[simp] theorem State.setVoice_attention (v : VoiceId) (r : Voice) : (s.setVoice v r).attention = s.attention := rfl
@[simp] theorem State.setVoice_pending (v : VoiceId) (r : Voice) : (s.setVoice v r).pending = s.pending := rfl

/-! ## setReflex -/

@[simp] theorem State.setReflex_inReset (i : Fin 16) (r : Reflex) : (s.setReflex i r).inReset = s.inReset := rfl
@[simp] theorem State.setReflex_hubTime (i : Fin 16) (r : Reflex) : (s.setReflex i r).hubTime = s.hubTime := rfl
@[simp] theorem State.setReflex_free (i : Fin 16) (r : Reflex) : (s.setReflex i r).free = s.free := rfl
@[simp] theorem State.setReflex_links (i : Fin 16) (r : Reflex) : (s.setReflex i r).links = s.links := rfl
@[simp] theorem State.setReflex_routes (i : Fin 16) (r : Reflex) : (s.setReflex i r).routes = s.routes := rfl
@[simp] theorem State.setReflex_ports (i : Fin 16) (r : Reflex) : (s.setReflex i r).ports = s.ports := rfl
@[simp] theorem State.setReflex_acq (i : Fin 16) (r : Reflex) : (s.setReflex i r).acq = s.acq := rfl
@[simp] theorem State.setReflex_calibration (i : Fin 16) (r : Reflex) : (s.setReflex i r).calibration = s.calibration := rfl
@[simp] theorem State.setReflex_cells (i : Fin 16) (r : Reflex) : (s.setReflex i r).cells = s.cells := rfl
@[simp] theorem State.setReflex_sys (i : Fin 16) (r : Reflex) : (s.setReflex i r).sys = s.sys := rfl
@[simp] theorem State.setReflex_unobserved (i : Fin 16) (r : Reflex) : (s.setReflex i r).unobserved = s.unobserved := rfl
@[simp] theorem State.setReflex_flags (i : Fin 16) (r : Reflex) : (s.setReflex i r).flags = s.flags := rfl
@[simp] theorem State.setReflex_classes (i : Fin 16) (r : Reflex) : (s.setReflex i r).classes = s.classes := rfl
@[simp] theorem State.setReflex_motors (i : Fin 16) (r : Reflex) : (s.setReflex i r).motors = s.motors := rfl
@[simp] theorem State.setReflex_supply (i : Fin 16) (r : Reflex) : (s.setReflex i r).supply = s.supply := rfl
@[simp] theorem State.setReflex_voices (i : Fin 16) (r : Reflex) : (s.setReflex i r).voices = s.voices := rfl
@[simp] theorem State.setReflex_wavetables (i : Fin 16) (r : Reflex) : (s.setReflex i r).wavetables = s.wavetables := rfl
@[simp] theorem State.setReflex_envelopes (i : Fin 16) (r : Reflex) : (s.setReflex i r).envelopes = s.envelopes := rfl
@[simp] theorem State.setReflex_sound (i : Fin 16) (r : Reflex) : (s.setReflex i r).sound = s.sound := rfl
@[simp] theorem State.setReflex_amp (i : Fin 16) (r : Reflex) : (s.setReflex i r).amp = s.amp := rfl
@[simp] theorem State.setReflex_idleTimer (i : Fin 16) (r : Reflex) : (s.setReflex i r).idleTimer = s.idleTimer := rfl
@[simp] theorem State.setReflex_clips (i : Fin 16) (r : Reflex) : (s.setReflex i r).clips = s.clips := rfl
@[simp] theorem State.setReflex_speaker (i : Fin 16) (r : Reflex) : (s.setReflex i r).speaker = s.speaker := rfl
@[simp] theorem State.setReflex_subs (i : Fin 16) (r : Reflex) : (s.setReflex i r).subs = s.subs := rfl
@[simp] theorem State.setReflex_mgmt (i : Fin 16) (r : Reflex) : (s.setReflex i r).mgmt = s.mgmt := rfl
@[simp] theorem State.setReflex_attention (i : Fin 16) (r : Reflex) : (s.setReflex i r).attention = s.attention := rfl
@[simp] theorem State.setReflex_pending (i : Fin 16) (r : Reflex) : (s.setReflex i r).pending = s.pending := rfl

/-! ## setSub -/

@[simp] theorem State.setSub_inReset (i : Fin 24) (r : Subscription) : (s.setSub i r).inReset = s.inReset := rfl
@[simp] theorem State.setSub_hubTime (i : Fin 24) (r : Subscription) : (s.setSub i r).hubTime = s.hubTime := rfl
@[simp] theorem State.setSub_free (i : Fin 24) (r : Subscription) : (s.setSub i r).free = s.free := rfl
@[simp] theorem State.setSub_links (i : Fin 24) (r : Subscription) : (s.setSub i r).links = s.links := rfl
@[simp] theorem State.setSub_routes (i : Fin 24) (r : Subscription) : (s.setSub i r).routes = s.routes := rfl
@[simp] theorem State.setSub_ports (i : Fin 24) (r : Subscription) : (s.setSub i r).ports = s.ports := rfl
@[simp] theorem State.setSub_acq (i : Fin 24) (r : Subscription) : (s.setSub i r).acq = s.acq := rfl
@[simp] theorem State.setSub_calibration (i : Fin 24) (r : Subscription) : (s.setSub i r).calibration = s.calibration := rfl
@[simp] theorem State.setSub_cells (i : Fin 24) (r : Subscription) : (s.setSub i r).cells = s.cells := rfl
@[simp] theorem State.setSub_sys (i : Fin 24) (r : Subscription) : (s.setSub i r).sys = s.sys := rfl
@[simp] theorem State.setSub_unobserved (i : Fin 24) (r : Subscription) : (s.setSub i r).unobserved = s.unobserved := rfl
@[simp] theorem State.setSub_flags (i : Fin 24) (r : Subscription) : (s.setSub i r).flags = s.flags := rfl
@[simp] theorem State.setSub_classes (i : Fin 24) (r : Subscription) : (s.setSub i r).classes = s.classes := rfl
@[simp] theorem State.setSub_motors (i : Fin 24) (r : Subscription) : (s.setSub i r).motors = s.motors := rfl
@[simp] theorem State.setSub_supply (i : Fin 24) (r : Subscription) : (s.setSub i r).supply = s.supply := rfl
@[simp] theorem State.setSub_voices (i : Fin 24) (r : Subscription) : (s.setSub i r).voices = s.voices := rfl
@[simp] theorem State.setSub_wavetables (i : Fin 24) (r : Subscription) : (s.setSub i r).wavetables = s.wavetables := rfl
@[simp] theorem State.setSub_envelopes (i : Fin 24) (r : Subscription) : (s.setSub i r).envelopes = s.envelopes := rfl
@[simp] theorem State.setSub_sound (i : Fin 24) (r : Subscription) : (s.setSub i r).sound = s.sound := rfl
@[simp] theorem State.setSub_amp (i : Fin 24) (r : Subscription) : (s.setSub i r).amp = s.amp := rfl
@[simp] theorem State.setSub_idleTimer (i : Fin 24) (r : Subscription) : (s.setSub i r).idleTimer = s.idleTimer := rfl
@[simp] theorem State.setSub_clips (i : Fin 24) (r : Subscription) : (s.setSub i r).clips = s.clips := rfl
@[simp] theorem State.setSub_speaker (i : Fin 24) (r : Subscription) : (s.setSub i r).speaker = s.speaker := rfl
@[simp] theorem State.setSub_reflexes (i : Fin 24) (r : Subscription) : (s.setSub i r).reflexes = s.reflexes := rfl
@[simp] theorem State.setSub_mgmt (i : Fin 24) (r : Subscription) : (s.setSub i r).mgmt = s.mgmt := rfl
@[simp] theorem State.setSub_attention (i : Fin 24) (r : Subscription) : (s.setSub i r).attention = s.attention := rfl
@[simp] theorem State.setSub_pending (i : Fin 24) (r : Subscription) : (s.setSub i r).pending = s.pending := rfl

/-! ## setRoute -/

@[simp] theorem State.setRoute_inReset (l : Link) (c : Channel) (r : Route) : (s.setRoute l c r).inReset = s.inReset := rfl
@[simp] theorem State.setRoute_hubTime (l : Link) (c : Channel) (r : Route) : (s.setRoute l c r).hubTime = s.hubTime := rfl
@[simp] theorem State.setRoute_free (l : Link) (c : Channel) (r : Route) : (s.setRoute l c r).free = s.free := rfl
@[simp] theorem State.setRoute_links (l : Link) (c : Channel) (r : Route) : (s.setRoute l c r).links = s.links := rfl
@[simp] theorem State.setRoute_ports (l : Link) (c : Channel) (r : Route) : (s.setRoute l c r).ports = s.ports := rfl
@[simp] theorem State.setRoute_acq (l : Link) (c : Channel) (r : Route) : (s.setRoute l c r).acq = s.acq := rfl
@[simp] theorem State.setRoute_calibration (l : Link) (c : Channel) (r : Route) : (s.setRoute l c r).calibration = s.calibration := rfl
@[simp] theorem State.setRoute_cells (l : Link) (c : Channel) (r : Route) : (s.setRoute l c r).cells = s.cells := rfl
@[simp] theorem State.setRoute_sys (l : Link) (c : Channel) (r : Route) : (s.setRoute l c r).sys = s.sys := rfl
@[simp] theorem State.setRoute_unobserved (l : Link) (c : Channel) (r : Route) : (s.setRoute l c r).unobserved = s.unobserved := rfl
@[simp] theorem State.setRoute_flags (l : Link) (c : Channel) (r : Route) : (s.setRoute l c r).flags = s.flags := rfl
@[simp] theorem State.setRoute_classes (l : Link) (c : Channel) (r : Route) : (s.setRoute l c r).classes = s.classes := rfl
@[simp] theorem State.setRoute_motors (l : Link) (c : Channel) (r : Route) : (s.setRoute l c r).motors = s.motors := rfl
@[simp] theorem State.setRoute_supply (l : Link) (c : Channel) (r : Route) : (s.setRoute l c r).supply = s.supply := rfl
@[simp] theorem State.setRoute_voices (l : Link) (c : Channel) (r : Route) : (s.setRoute l c r).voices = s.voices := rfl
@[simp] theorem State.setRoute_wavetables (l : Link) (c : Channel) (r : Route) : (s.setRoute l c r).wavetables = s.wavetables := rfl
@[simp] theorem State.setRoute_envelopes (l : Link) (c : Channel) (r : Route) : (s.setRoute l c r).envelopes = s.envelopes := rfl
@[simp] theorem State.setRoute_sound (l : Link) (c : Channel) (r : Route) : (s.setRoute l c r).sound = s.sound := rfl
@[simp] theorem State.setRoute_amp (l : Link) (c : Channel) (r : Route) : (s.setRoute l c r).amp = s.amp := rfl
@[simp] theorem State.setRoute_idleTimer (l : Link) (c : Channel) (r : Route) : (s.setRoute l c r).idleTimer = s.idleTimer := rfl
@[simp] theorem State.setRoute_clips (l : Link) (c : Channel) (r : Route) : (s.setRoute l c r).clips = s.clips := rfl
@[simp] theorem State.setRoute_speaker (l : Link) (c : Channel) (r : Route) : (s.setRoute l c r).speaker = s.speaker := rfl
@[simp] theorem State.setRoute_reflexes (l : Link) (c : Channel) (r : Route) : (s.setRoute l c r).reflexes = s.reflexes := rfl
@[simp] theorem State.setRoute_subs (l : Link) (c : Channel) (r : Route) : (s.setRoute l c r).subs = s.subs := rfl
@[simp] theorem State.setRoute_mgmt (l : Link) (c : Channel) (r : Route) : (s.setRoute l c r).mgmt = s.mgmt := rfl
@[simp] theorem State.setRoute_attention (l : Link) (c : Channel) (r : Route) : (s.setRoute l c r).attention = s.attention := rfl
@[simp] theorem State.setRoute_pending (l : Link) (c : Channel) (r : Route) : (s.setRoute l c r).pending = s.pending := rfl

/-! ## setCell -/

@[simp] theorem State.setCell_inReset (c : CellId) (r : Cell) : (s.setCell c r).inReset = s.inReset := by cases c <;> rfl
@[simp] theorem State.setCell_hubTime (c : CellId) (r : Cell) : (s.setCell c r).hubTime = s.hubTime := by cases c <;> rfl
@[simp] theorem State.setCell_free (c : CellId) (r : Cell) : (s.setCell c r).free = s.free := by cases c <;> rfl
@[simp] theorem State.setCell_links (c : CellId) (r : Cell) : (s.setCell c r).links = s.links := by cases c <;> rfl
@[simp] theorem State.setCell_routes (c : CellId) (r : Cell) : (s.setCell c r).routes = s.routes := by cases c <;> rfl
@[simp] theorem State.setCell_ports (c : CellId) (r : Cell) : (s.setCell c r).ports = s.ports := by cases c <;> rfl
@[simp] theorem State.setCell_acq (c : CellId) (r : Cell) : (s.setCell c r).acq = s.acq := by cases c <;> rfl
@[simp] theorem State.setCell_calibration (c : CellId) (r : Cell) : (s.setCell c r).calibration = s.calibration := by cases c <;> rfl
@[simp] theorem State.setCell_unobserved (c : CellId) (r : Cell) : (s.setCell c r).unobserved = s.unobserved := by cases c <;> rfl
@[simp] theorem State.setCell_flags (c : CellId) (r : Cell) : (s.setCell c r).flags = s.flags := by cases c <;> rfl
@[simp] theorem State.setCell_classes (c : CellId) (r : Cell) : (s.setCell c r).classes = s.classes := by cases c <;> rfl
@[simp] theorem State.setCell_motors (c : CellId) (r : Cell) : (s.setCell c r).motors = s.motors := by cases c <;> rfl
@[simp] theorem State.setCell_supply (c : CellId) (r : Cell) : (s.setCell c r).supply = s.supply := by cases c <;> rfl
@[simp] theorem State.setCell_voices (c : CellId) (r : Cell) : (s.setCell c r).voices = s.voices := by cases c <;> rfl
@[simp] theorem State.setCell_wavetables (c : CellId) (r : Cell) : (s.setCell c r).wavetables = s.wavetables := by cases c <;> rfl
@[simp] theorem State.setCell_envelopes (c : CellId) (r : Cell) : (s.setCell c r).envelopes = s.envelopes := by cases c <;> rfl
@[simp] theorem State.setCell_sound (c : CellId) (r : Cell) : (s.setCell c r).sound = s.sound := by cases c <;> rfl
@[simp] theorem State.setCell_amp (c : CellId) (r : Cell) : (s.setCell c r).amp = s.amp := by cases c <;> rfl
@[simp] theorem State.setCell_idleTimer (c : CellId) (r : Cell) : (s.setCell c r).idleTimer = s.idleTimer := by cases c <;> rfl
@[simp] theorem State.setCell_clips (c : CellId) (r : Cell) : (s.setCell c r).clips = s.clips := by cases c <;> rfl
@[simp] theorem State.setCell_speaker (c : CellId) (r : Cell) : (s.setCell c r).speaker = s.speaker := by cases c <;> rfl
@[simp] theorem State.setCell_reflexes (c : CellId) (r : Cell) : (s.setCell c r).reflexes = s.reflexes := by cases c <;> rfl
@[simp] theorem State.setCell_subs (c : CellId) (r : Cell) : (s.setCell c r).subs = s.subs := by cases c <;> rfl
@[simp] theorem State.setCell_mgmt (c : CellId) (r : Cell) : (s.setCell c r).mgmt = s.mgmt := by cases c <;> rfl
@[simp] theorem State.setCell_attention (c : CellId) (r : Cell) : (s.setCell c r).attention = s.attention := by cases c <;> rfl
@[simp] theorem State.setCell_pending (c : CellId) (r : Cell) : (s.setCell c r).pending = s.pending := by cases c <;> rfl

/-! ## Reading back -/

@[simp] theorem State.link_setLink_same (i : Link) (r : LinkUnit) : (s.setLink i r).link i = r := by cases i <;> rfl
theorem State.link_setLink_other {i j : Link} (r : LinkUnit) (h : i ≠ j) : (s.setLink i r).link j = s.link j := by
  cases i <;> cases j <;> first | rfl | exact absurd rfl h
@[simp] theorem State.port_setPort_same (i : Port) (r : PortRec) : (s.setPort i r).port i = r := by cases i <;> rfl
theorem State.port_setPort_other {i j : Port} (r : PortRec) (h : i ≠ j) : (s.setPort i r).port j = s.port j := by
  cases i <;> cases j <;> first | rfl | exact absurd rfl h
@[simp] theorem State.acquisition_setAcq_same (i : Port) (r : Acquisition) : (s.setAcq i r).acquisition i = r := by cases i <;> rfl
theorem State.acquisition_setAcq_other {i j : Port} (r : Acquisition) (h : i ≠ j) : (s.setAcq i r).acquisition j = s.acquisition j := by
  cases i <;> cases j <;> first | rfl | exact absurd rfl h
@[simp] theorem State.flag_setFlagRec_same (i : Port) (r : FlagRec) : (s.setFlagRec i r).flag i = r := by cases i <;> rfl
theorem State.flag_setFlagRec_other {i j : Port} (r : FlagRec) (h : i ≠ j) : (s.setFlagRec i r).flag j = s.flag j := by
  cases i <;> cases j <;> first | rfl | exact absurd rfl h
@[simp] theorem State.motor_setMotor_same (i : Port) (r : Option Motor) : (s.setMotor i r).motor i = r := by cases i <;> rfl
theorem State.motor_setMotor_other {i j : Port} (r : Option Motor) (h : i ≠ j) : (s.setMotor i r).motor j = s.motor j := by
  cases i <;> cases j <;> first | rfl | exact absurd rfl h

theorem Quad.get_set_same {α : Type} (x : Quad α) (i : Fin 4) (v : α) : (x.set i v).get i = v := by
  match i with
  | 0 | 1 | 2 | 3 => rfl
theorem Quad.get_set_other {α : Type} (x : Quad α) {i j : Fin 4} (v : α) (h : i ≠ j) : (x.set i v).get j = x.get j := by
  match i, j with
  | 0, 0 | 1, 1 | 2, 2 | 3, 3 => exact absurd rfl h
  | 0, 1 | 0, 2 | 0, 3 | 1, 0 | 1, 2 | 1, 3 | 2, 0 | 2, 1 | 2, 3 | 3, 0 | 3, 1 | 3, 2 => rfl

@[simp] theorem State.voice_setVoice_same (v : VoiceId) (r : Voice) : (s.setVoice v r).voice v = r := Quad.get_set_same ..
theorem State.voice_setVoice_other {v w : VoiceId} (r : Voice) (h : v ≠ w) : (s.setVoice v r).voice w = s.voice w :=
  Quad.get_set_other _ _ h
@[simp] theorem State.reflex_setReflex_same (i : Fin 16) (r : Reflex) : (s.setReflex i r).reflex i = r := by
  show (s.reflexes.set i.val r i.isLt)[i.val] = r
  exact Vector.getElem_set_self _
theorem State.reflex_setReflex_other {i j : Fin 16} (r : Reflex) (h : i ≠ j) :
    (s.setReflex i r).reflex j = s.reflex j := by
  show (s.reflexes.set i.val r i.isLt)[j.val] = s.reflexes[j.val]
  exact Vector.getElem_set_ne _ _ (fun e => h (Fin.ext e))
@[simp] theorem State.sub_setSub_same (i : Fin 24) (r : Subscription) : (s.setSub i r).sub i = r := by
  show (s.subs.set i.val r i.isLt)[i.val] = r
  exact Vector.getElem_set_self _
theorem State.sub_setSub_other {i j : Fin 24} (r : Subscription) (h : i ≠ j) :
    (s.setSub i r).sub j = s.sub j := by
  show (s.subs.set i.val r i.isLt)[j.val] = s.subs[j.val]
  exact Vector.getElem_set_ne _ _ (fun e => h (Fin.ext e))

/-! ## Reading past another update -/

@[simp] theorem State.port_setLink (l : Link) (u : LinkUnit) (q : Port) : (s.setLink l u).port q = s.port q := rfl
@[simp] theorem State.acquisition_setLink (l : Link) (u : LinkUnit) (q : Port) : (s.setLink l u).acquisition q = s.acquisition q := rfl
@[simp] theorem State.flag_setLink (l : Link) (u : LinkUnit) (q : Port) : (s.setLink l u).flag q = s.flag q := rfl
@[simp] theorem State.motor_setLink (l : Link) (u : LinkUnit) (q : Port) : (s.setLink l u).motor q = s.motor q := rfl
@[simp] theorem State.voice_setLink (l : Link) (u : LinkUnit) (w : VoiceId) : (s.setLink l u).voice w = s.voice w := rfl
@[simp] theorem State.reflex_setLink (l : Link) (u : LinkUnit) (j : Fin 16) : (s.setLink l u).reflex j = s.reflex j := rfl
@[simp] theorem State.sub_setLink (l : Link) (u : LinkUnit) (j : Fin 24) : (s.setLink l u).sub j = s.sub j := rfl
@[simp] theorem State.cell_setLink (l : Link) (u : LinkUnit) (c : CellId) : (s.setLink l u).cell c = s.cell c := by cases c <;> rfl
@[simp] theorem State.link_setPort (p : Port) (r : PortRec) (k : Link) : (s.setPort p r).link k = s.link k := rfl
@[simp] theorem State.acquisition_setPort (p : Port) (r : PortRec) (q : Port) : (s.setPort p r).acquisition q = s.acquisition q := rfl
@[simp] theorem State.flag_setPort (p : Port) (r : PortRec) (q : Port) : (s.setPort p r).flag q = s.flag q := rfl
@[simp] theorem State.motor_setPort (p : Port) (r : PortRec) (q : Port) : (s.setPort p r).motor q = s.motor q := rfl
@[simp] theorem State.voice_setPort (p : Port) (r : PortRec) (w : VoiceId) : (s.setPort p r).voice w = s.voice w := rfl
@[simp] theorem State.reflex_setPort (p : Port) (r : PortRec) (j : Fin 16) : (s.setPort p r).reflex j = s.reflex j := rfl
@[simp] theorem State.sub_setPort (p : Port) (r : PortRec) (j : Fin 24) : (s.setPort p r).sub j = s.sub j := rfl
@[simp] theorem State.cell_setPort (p : Port) (r : PortRec) (c : CellId) : (s.setPort p r).cell c = s.cell c := by cases c <;> rfl
@[simp] theorem State.link_setAcq (p : Port) (r : Acquisition) (k : Link) : (s.setAcq p r).link k = s.link k := rfl
@[simp] theorem State.port_setAcq (p : Port) (r : Acquisition) (q : Port) : (s.setAcq p r).port q = s.port q := rfl
@[simp] theorem State.flag_setAcq (p : Port) (r : Acquisition) (q : Port) : (s.setAcq p r).flag q = s.flag q := rfl
@[simp] theorem State.motor_setAcq (p : Port) (r : Acquisition) (q : Port) : (s.setAcq p r).motor q = s.motor q := rfl
@[simp] theorem State.voice_setAcq (p : Port) (r : Acquisition) (w : VoiceId) : (s.setAcq p r).voice w = s.voice w := rfl
@[simp] theorem State.reflex_setAcq (p : Port) (r : Acquisition) (j : Fin 16) : (s.setAcq p r).reflex j = s.reflex j := rfl
@[simp] theorem State.sub_setAcq (p : Port) (r : Acquisition) (j : Fin 24) : (s.setAcq p r).sub j = s.sub j := rfl
@[simp] theorem State.cell_setAcq (p : Port) (r : Acquisition) (c : CellId) : (s.setAcq p r).cell c = s.cell c := by cases c <;> rfl
@[simp] theorem State.link_setFlagRec (p : Port) (r : FlagRec) (k : Link) : (s.setFlagRec p r).link k = s.link k := rfl
@[simp] theorem State.port_setFlagRec (p : Port) (r : FlagRec) (q : Port) : (s.setFlagRec p r).port q = s.port q := rfl
@[simp] theorem State.acquisition_setFlagRec (p : Port) (r : FlagRec) (q : Port) : (s.setFlagRec p r).acquisition q = s.acquisition q := rfl
@[simp] theorem State.motor_setFlagRec (p : Port) (r : FlagRec) (q : Port) : (s.setFlagRec p r).motor q = s.motor q := rfl
@[simp] theorem State.voice_setFlagRec (p : Port) (r : FlagRec) (w : VoiceId) : (s.setFlagRec p r).voice w = s.voice w := rfl
@[simp] theorem State.reflex_setFlagRec (p : Port) (r : FlagRec) (j : Fin 16) : (s.setFlagRec p r).reflex j = s.reflex j := rfl
@[simp] theorem State.sub_setFlagRec (p : Port) (r : FlagRec) (j : Fin 24) : (s.setFlagRec p r).sub j = s.sub j := rfl
@[simp] theorem State.cell_setFlagRec (p : Port) (r : FlagRec) (c : CellId) : (s.setFlagRec p r).cell c = s.cell c := by cases c <;> rfl
@[simp] theorem State.link_setMotor (p : Port) (m : Option Motor) (k : Link) : (s.setMotor p m).link k = s.link k := rfl
@[simp] theorem State.port_setMotor (p : Port) (m : Option Motor) (q : Port) : (s.setMotor p m).port q = s.port q := rfl
@[simp] theorem State.acquisition_setMotor (p : Port) (m : Option Motor) (q : Port) : (s.setMotor p m).acquisition q = s.acquisition q := rfl
@[simp] theorem State.flag_setMotor (p : Port) (m : Option Motor) (q : Port) : (s.setMotor p m).flag q = s.flag q := rfl
@[simp] theorem State.voice_setMotor (p : Port) (m : Option Motor) (w : VoiceId) : (s.setMotor p m).voice w = s.voice w := rfl
@[simp] theorem State.reflex_setMotor (p : Port) (m : Option Motor) (j : Fin 16) : (s.setMotor p m).reflex j = s.reflex j := rfl
@[simp] theorem State.sub_setMotor (p : Port) (m : Option Motor) (j : Fin 24) : (s.setMotor p m).sub j = s.sub j := rfl
@[simp] theorem State.cell_setMotor (p : Port) (m : Option Motor) (c : CellId) : (s.setMotor p m).cell c = s.cell c := by cases c <;> rfl
@[simp] theorem State.link_setVoice (v : VoiceId) (r : Voice) (k : Link) : (s.setVoice v r).link k = s.link k := rfl
@[simp] theorem State.port_setVoice (v : VoiceId) (r : Voice) (q : Port) : (s.setVoice v r).port q = s.port q := rfl
@[simp] theorem State.acquisition_setVoice (v : VoiceId) (r : Voice) (q : Port) : (s.setVoice v r).acquisition q = s.acquisition q := rfl
@[simp] theorem State.flag_setVoice (v : VoiceId) (r : Voice) (q : Port) : (s.setVoice v r).flag q = s.flag q := rfl
@[simp] theorem State.motor_setVoice (v : VoiceId) (r : Voice) (q : Port) : (s.setVoice v r).motor q = s.motor q := rfl
@[simp] theorem State.reflex_setVoice (v : VoiceId) (r : Voice) (j : Fin 16) : (s.setVoice v r).reflex j = s.reflex j := rfl
@[simp] theorem State.sub_setVoice (v : VoiceId) (r : Voice) (j : Fin 24) : (s.setVoice v r).sub j = s.sub j := rfl
@[simp] theorem State.cell_setVoice (v : VoiceId) (r : Voice) (c : CellId) : (s.setVoice v r).cell c = s.cell c := by cases c <;> rfl
@[simp] theorem State.link_setReflex (i : Fin 16) (r : Reflex) (k : Link) : (s.setReflex i r).link k = s.link k := rfl
@[simp] theorem State.port_setReflex (i : Fin 16) (r : Reflex) (q : Port) : (s.setReflex i r).port q = s.port q := rfl
@[simp] theorem State.acquisition_setReflex (i : Fin 16) (r : Reflex) (q : Port) : (s.setReflex i r).acquisition q = s.acquisition q := rfl
@[simp] theorem State.flag_setReflex (i : Fin 16) (r : Reflex) (q : Port) : (s.setReflex i r).flag q = s.flag q := rfl
@[simp] theorem State.motor_setReflex (i : Fin 16) (r : Reflex) (q : Port) : (s.setReflex i r).motor q = s.motor q := rfl
@[simp] theorem State.voice_setReflex (i : Fin 16) (r : Reflex) (w : VoiceId) : (s.setReflex i r).voice w = s.voice w := rfl
@[simp] theorem State.sub_setReflex (i : Fin 16) (r : Reflex) (j : Fin 24) : (s.setReflex i r).sub j = s.sub j := rfl
@[simp] theorem State.cell_setReflex (i : Fin 16) (r : Reflex) (c : CellId) : (s.setReflex i r).cell c = s.cell c := by cases c <;> rfl
@[simp] theorem State.link_setSub (i : Fin 24) (r : Subscription) (k : Link) : (s.setSub i r).link k = s.link k := rfl
@[simp] theorem State.port_setSub (i : Fin 24) (r : Subscription) (q : Port) : (s.setSub i r).port q = s.port q := rfl
@[simp] theorem State.acquisition_setSub (i : Fin 24) (r : Subscription) (q : Port) : (s.setSub i r).acquisition q = s.acquisition q := rfl
@[simp] theorem State.flag_setSub (i : Fin 24) (r : Subscription) (q : Port) : (s.setSub i r).flag q = s.flag q := rfl
@[simp] theorem State.motor_setSub (i : Fin 24) (r : Subscription) (q : Port) : (s.setSub i r).motor q = s.motor q := rfl
@[simp] theorem State.voice_setSub (i : Fin 24) (r : Subscription) (w : VoiceId) : (s.setSub i r).voice w = s.voice w := rfl
@[simp] theorem State.reflex_setSub (i : Fin 24) (r : Subscription) (j : Fin 16) : (s.setSub i r).reflex j = s.reflex j := rfl
@[simp] theorem State.cell_setSub (i : Fin 24) (r : Subscription) (c : CellId) : (s.setSub i r).cell c = s.cell c := by cases c <;> rfl
@[simp] theorem State.link_setCell (c : CellId) (r : Cell) (l : Link) : (s.setCell c r).link l = s.link l := by cases c <;> rfl
@[simp] theorem State.port_setCell (c : CellId) (r : Cell) (p : Port) : (s.setCell c r).port p = s.port p := by cases c <;> rfl
@[simp] theorem State.acquisition_setCell (c : CellId) (r : Cell) (p : Port) : (s.setCell c r).acquisition p = s.acquisition p := by cases c <;> rfl
@[simp] theorem State.flag_setCell (c : CellId) (r : Cell) (p : Port) : (s.setCell c r).flag p = s.flag p := by cases c <;> rfl
@[simp] theorem State.motor_setCell (c : CellId) (r : Cell) (p : Port) : (s.setCell c r).motor p = s.motor p := by cases c <;> rfl
@[simp] theorem State.voice_setCell (c : CellId) (r : Cell) (v : VoiceId) : (s.setCell c r).voice v = s.voice v := by cases c <;> rfl
@[simp] theorem State.reflex_setCell (c : CellId) (r : Cell) (i : Fin 16) : (s.setCell c r).reflex i = s.reflex i := by cases c <;> rfl
@[simp] theorem State.sub_setCell (c : CellId) (r : Cell) (i : Fin 24) : (s.setCell c r).sub i = s.sub i := by cases c <;> rfl
@[simp] theorem State.cell_setCell_same (c : CellId) (r : Cell) : (s.setCell c r).cell c = r := by
  cases c with
  | port p i => cases p <;> exact Quad.get_set_same ..
  | sys i => exact Quad.get_set_same ..
theorem State.cell_setCell_other {c d : CellId} (r : Cell) (h : c ≠ d) : (s.setCell c r).cell d = s.cell d := by
  cases c with
  | sys i =>
    cases d with
    | sys j => exact Quad.get_set_other _ _ fun e => h (e ▸ rfl)
    | port q j => rfl
  | port p i =>
    cases d with
    | sys j => rfl
    | port q j =>
      cases p <;> cases q <;> first | rfl | exact Quad.get_set_other _ _ fun e => h (e ▸ rfl)

end Sys2Proof.Machine
end

