-- ==== Sys2Proof/Laws/Ops.lean ====
section
/-! SUPPORT. One lemma for each shared operation, that says everything it can do: the handing of writes to their observers,
the write of S3, releases, notices and reports, flags and latches, and the writes of cells that nothing watches. -/

namespace Sys2Proof.Machine

/-! ## Observers -/

/-- The reflexes let a write of a cell pass that none has as its source. -/
theorem observeReflexes_ignored {w : Write} {s : State} (h : ∀ i, (s.reflex i).cell ≠ w.cell) :
    observeReflexes w s = s := by
  unfold observeReflexes
  induction allReflexes with
  | nil => rfl
  | cons i is ih => simp only [List.foldl_cons, evaluateReflex, if_neg (h i), ih]

/-- The subscriptions let a write of a cell pass that none reports. -/
theorem observeSubs_ignored {w : Write} {s : State} (h : ∀ i, (s.sub i).active = true → (s.sub i).cell ≠ w.cell) :
    observeSubs w s = s := by
  unfold observeSubs
  induction allSubs with
  | nil => rfl
  | cons i is ih =>
    have : ((s.sub i).active && decide ((s.sub i).cell = w.cell)) = false := by
      cases hA : (s.sub i).active with
      | false => rfl
      | true => simpa using h i hA
    simp only [List.foldl_cons, observeSub, this, Bool.false_eq_true, if_false, ih]

/-- A write of a cell that nothing watches has no observer. -/
theorem observe_ignored {w : Write} {s : State} (h : s.ignores w.cell) : observe w s = s := by
  rw [observe, observeReflexes_ignored h.1, observeSubs_ignored h.2]

/-- With no write waiting there is nothing to hand over. -/
theorem drain_of_nil {s : State} (h : s.unobserved = []) : drain s = s := by
  simp only [drain, h, List.length_nil, Nat.zero_add]
  show drainFuel (127 + 1) s = s
  simp only [drainFuel, h]

/-- Every drain leaves no write waiting. -/
theorem drainFuel_unobserved (n : Nat) (s : State) : (drainFuel n s).unobserved = [] := by
  induction n generalizing s with
  | zero => rfl
  | succ n ih =>
    unfold drainFuel
    split
    · assumption
    · exact ih _

/-- Every drain leaves no write waiting. -/
@[simp] theorem drain_unobserved (s : State) : (drain s).unobserved = [] := drainFuel_unobserved ..

/-- Writes of a cell that nothing watches are handed over without effect. -/
theorem drainFuel_ignored {n : Nat} {s : State} {c : CellId} (hi : s.ignores c)
    (hw : ∀ w ∈ s.unobserved, w.cell = c) : drainFuel n s = { s with unobserved := [] } := by
  induction n generalizing s with
  | zero => rfl
  | succ n ih =>
    unfold drainFuel
    split
    · next h => cases s; cases h; rfl
    · next w rest h =>
      have hc : w.cell = c := hw w (by simp [h])
      have hi' : ({ s with unobserved := rest } : State).ignores c := hi
      rw [observe_ignored (hc ▸ hi'), ih hi' (fun v hv => hw v (by simp [h]; exact .inr hv))]

/-- Where nothing watches S3, handing over the writes of S3 that wait changes nothing else. -/
theorem drain_ignored {s : State} {c : CellId} (hi : s.ignores c) (hw : ∀ w ∈ s.unobserved, w.cell = c) :
    drain s = { s with unobserved := [] } := drainFuel_ignored hi hw

/-! ## The write of S3 -/

/-- Free never passes 128 where the pool is conserved. -/
theorem State.conserved.free_le {s : State} (h : s.conserved) : s.free ≤ 128 := by
  have : s.free ≤ s.poolTotal := by simp only [State.poolTotal]; omega
  omega

/-- A number of pages is a number that a cell holds as it is. -/
theorem cellNumber_nat {n : Nat} (h : n ≤ 2147483647) : cellNumber (n : Int) = n := by
  rw [cellNumber, if_pos]; omega

/-- The write of S3 (R4): S3 takes free, and the write waits for its observers. -/
theorem writeFree_eq {s : State} (h : s.free ≤ 2147483647) :
    writeFree s = { s.s3Written s.free with
      unobserved := s.unobserved ++ [{ cell := .sys 3, left := (s.s3Written s.free).cell (.sys 3) }] } := by
  simp only [writeFree, State.s3Written, State.cell, State.setCell, Cell.valueWrite, Cell.written, cellNumber_nat h,
    Quad.get, Quad.set]

/-! ## The parts of a review -/

/-- A grant is at most free. -/
theorem LinkUnit.grant_le (u : LinkUnit) (n : Nat) : u.grant n ≤ n := by
  unfold LinkUnit.grant; split <;> omega

/-- A review never raises free. -/
theorem review_free_le (l : Link) (s : State) : (review l s).free ≤ s.free := Nat.sub_le ..

/-- The reviews of both links never raise free. -/
theorem reviewBoth_free_le (s : State) : (reviewBoth s).free ≤ s.free :=
  Nat.le_trans (review_free_le ..) (review_free_le ..)

/-- A review changes the links and free alone. -/
theorem review_frame (l : Link) (s : State) :
    review l s = { s with links := (review l s).links, free := (review l s).free } := rfl

/-- The reviews of both links change the links and free alone. -/
theorem reviewBoth_frame (s : State) :
    reviewBoth s = { s with links := (reviewBoth s).links, free := (reviewBoth s).free } := rfl

/-- A release (R15, R186): a head of the management queue that waits is to be considered again, the pages go to free, the reviews follow, S3 takes free, and its write waits. -/
theorem release_eq {n : Nat} {s : State} (hn : n ≠ 0) (h : s.free + n ≤ 2147483647) :
    release n s = { s.afterRelease n with
      unobserved := s.unobserved ++ [{ cell := .sys 3, left := (s.afterRelease n).cell (.sys 3) }] } := by
  have hf : (reviewBoth (freePages n s)).free ≤ 2147483647 :=
    Nat.le_trans (reviewBoth_free_le _) h
  rw [release, if_neg hn, writeFree_eq hf]
  rfl

/-- A report (R4, R182): one page leaves free, the report joins the normal queue, S3 takes free, and its write waits. -/
theorem placeReport_eq {l : Link} {f : Frame} {s : State} (h : s.free ≤ 2147483647) :
    placeReport l f s = { (s.withFree (s.free - 1)).withNormal l f with
      unobserved := s.unobserved ++
        [{ cell := .sys 3, left := ((s.withFree (s.free - 1)).withNormal l f).cell (.sys 3) }] } := by
  have hf : (pushNormal l f { s with free := s.free - 1 }).free ≤ 2147483647 := Nat.le_trans (Nat.sub_le ..) h
  rw [placeReport, writeFree_eq hf]
  rfl

/-- A head of the management queue that waits is not considered (R186). -/
theorem considerHead_of_waits {band : Band} {raw : RawSample} {s : State} (h : s.mgmt.headWaits = true) :
    considerHead band raw s = s := by
  unfold considerHead
  split
  · rw [if_pos h]
  · rfl

/-- A pages count is never 0. -/
theorem pagesOf_pos (n : Nat) : 1 ≤ pagesOf n := by unfold pagesOf; omega

/-! ## Commands -/

/-- A command on a running hub. -/
theorem run_of_settled {f : State → State} {s : State} (h : s.settled) : run f s = .next (drain (f s)) := by
  simp only [run, h.1, Bool.false_eq_true, if_false]

/-- A command that makes no write. -/
theorem run_of_nil {f : State → State} {s : State} (h : s.settled) (hf : (f s).unobserved = []) :
    run f s = .next (f s) := by rw [run_of_settled h, drain_of_nil hf]

/-- A command whose only writes are of S3, where nothing watches S3. -/
theorem run_of_s3 {f : State → State} {s : State} (h : s.settled) (hi : (f s).ignores (.sys 3))
    (hw : ∀ w ∈ (f s).unobserved, w.cell = .sys 3) : run f s = .next { f s with unobserved := [] } := by
  rw [run_of_settled h, drain_ignored hi hw]

/-! ## Latches and flags -/

/-- A latch (R193, R195). -/
theorem Attention.setLatch_eq (a : Attention) (k : Nat) : a.setLatch k = a.withLatch k := by
  unfold Attention.setLatch Attention.withLatch
  cases h : a.latches.getLsbD k
  · cases hm : a.mode <;> cases hk : a.mask.getLsbD k <;> simp
    unfold Attention.pulseDue
    by_cases hp : a.pulse = .quiet <;> by_cases ho : a.owed = 0 <;> simp [hp, ho, satAdd]
  · have hl : a.latches ||| (1#12 <<< k) = a.latches := by
      refine BitVec.eq_of_getLsbD_eq fun j _ => ?_
      simp only [BitVec.getLsbD_or, BitVec.getLsbD_shiftLeft, BitVec.getLsbD_one]
      by_cases e : j = k
      · simp [e, h]
      · have : j < k ∨ ¬(j - k = 0) := by omega
        rcases this with h1 | h1 <;> simp [h1]
    cases a
    simp_all

/-- A latch of the hub (R193, R195). -/
theorem setLatch_eq (k : Nat) (s : State) : setLatch k s = s.latched k := by
  simp only [setLatch, State.latched, Attention.setLatch_eq]

/-- A flag that is set already stays, and raises nothing (R88). -/
theorem setFlag_of_set {p : Port} {k : Nat} {s : State} (h : (s.flag p).flags.getLsbD k = true) : setFlag p k s = s := by
  simp only [setFlag, h, if_true]

/-- A flag of a port without an event route (R88, R89). -/
theorem setFlag_silent {p : Port} {k : Nat} {s : State} (h : (s.port p).settings.eventRoute = none) :
    setFlag p k s = s.flagSet p k := by
  simp only [setFlag, State.flagSet, raiseFlags, State.port_setFlagRec, h, sendEvent, setLatch_eq, latchPortFlag]

/-! ## Cells that nothing watches -/

/-- A write of a system cell that nothing watches. -/
theorem commitWrite_ignored {c : CellId} {left : Cell} {s : State} (h : s.ignores c) (hu : s.unobserved = []) :
    commitWrite c left s = s.setCell c left := by
  have hi : (s.setCell c left).ignores c := by
    refine ⟨fun i => ?_, fun i hA => ?_⟩
    · simpa using h.1 i
    · simp only [State.sub_setCell] at hA ⊢; exact h.2 i hA
  rw [commitWrite, observe_ignored hi, drain_of_nil (by simpa using hu)]

/-! ## Cells that nothing acts on -/

/-- A reflex after a write of its cell that it only notes (R168). -/
def Reflex.noting (w : Write) (r : Reflex) : Reflex :=
  if r.cell = w.cell then { r with lastValue := w.left.value, lastTag := w.left.tag } else r

@[simp] theorem Reflex.noting_cell (w : Write) (r : Reflex) : (r.noting w).cell = r.cell := by
  unfold Reflex.noting; split <;> rfl
@[simp] theorem Reflex.noting_state (w : Write) (r : Reflex) : (r.noting w).state = r.state := by
  unfold Reflex.noting; split <;> rfl
@[simp] theorem Reflex.noting_noting (w : Write) (r : Reflex) : (r.noting w).noting w = r.noting w := by
  unfold Reflex.noting; split <;> simp_all

/-- A reflex that is DISABLED, or on another cell, does no more than note the write. -/
theorem evaluateReflex_dormant {w : Write} {s : State} {i : Fin 16}
    (h : (s.reflex i).cell = w.cell → (s.reflex i).state = .disabled) :
    evaluateReflex w s i = s.setReflex i ((s.reflex i).noting w) := by
  by_cases hc : (s.reflex i).cell = w.cell
  · simp only [evaluateReflex, Reflex.noting, if_pos hc, h hc, noteSeen]
  · have : s.setReflex i (s.reflex i) = s := by
      cases s; simp [State.setReflex, State.reflex, Vector.get_eq_getElem]
    simp only [evaluateReflex, Reflex.noting, if_neg hc, this]

/-- The reflexes on a cell that are all DISABLED note its write, and nothing else changes. -/
theorem observeReflexes_dormant {w : Write} {s : State}
    (h : ∀ i, (s.reflex i).cell = w.cell → (s.reflex i).state = .disabled) :
    observeReflexes w s = { s with reflexes := s.reflexes.map (Reflex.noting w) } := by
  have fold : ∀ (l : List (Fin 16)) (v : Vector Reflex 16),
      (∀ i, (v.get i).cell = w.cell → (v.get i).state = .disabled) →
      ∃ u, l.foldl (evaluateReflex w) { s with reflexes := v } = { s with reflexes := u } ∧
        ∀ j, u.get j = if j ∈ l then (v.get j).noting w else v.get j := by
    intro l
    induction l with
    | nil => exact fun v _ => ⟨v, rfl, by simp⟩
    | cons i l ih =>
      intro v hv
      have he : evaluateReflex w { s with reflexes := v } i =
          { s with reflexes := v.set i ((v.get i).noting w) } := evaluateReflex_dormant (hv i)
      have hg : ∀ j, (v.set i ((v.get i).noting w)).get j = if i = j then (v.get j).noting w else v.get j := by
        intro j
        simp only [Vector.get_eq_getElem, Vector.getElem_set, Fin.ext_iff]
        split
        · next e => simp only [e]
        · rfl
      obtain ⟨u, hu, hj⟩ := ih (v.set i ((v.get i).noting w)) fun j => by
        rw [hg]; split <;> simpa using hv j
      refine ⟨u, by rw [List.foldl_cons, he, hu], fun j => ?_⟩
      rw [hj, hg]
      by_cases h1 : j ∈ l <;> by_cases h2 : i = j <;> simp [h1, h2, eq_comm]
  obtain ⟨u, hu, hj⟩ := fold allReflexes s.reflexes h
  have : u = s.reflexes.map (Reflex.noting w) := by
    ext k hk
    have := hj ⟨k, hk⟩
    simpa [allReflexes, Vector.get_eq_getElem] using this
  rw [observeReflexes, ← this, ← hu]

/-- A write of a port cell that nothing acts on, on a port with no event route: the DISABLED reflexes on the cell note it. -/
theorem commitPortWrite_still {p : Port} {i : Fin 4} {left : Cell} {range : Bool} {s : State}
    (h : s.dormant (.port p i)) (hu : s.unobserved = []) (hr : (s.port p).settings.eventRoute = none)
    (hc : left.updateCount ≠ (s.cell (.port p i)).updateCount) :
    commitPortWrite p i left range s = (s.portWritten p i left range).noted s := by
  have key : writeFlags p range (s.setCell (.port p i) left) = s.portWritten p i left range := by
    simp only [writeFlags, State.portWritten, raiseFlags, FlagRec.raisedByWrite, FlagRec.afterWrite,
      State.flag_setCell, State.port_setFlagRec, State.port_setCell, hr, sendEvent, flagRange, flagBit]
    by_cases hd : (s.flag p).due = 0#5
    · cases range
      · simp [hd]
      · cases hf : (s.flag p).flags.getLsbD 0 <;> cases hm : (s.flag p).mask.getLsbD 0 <;>
          simp [hd, setLatch_eq, latchPortFlag]
    · simp [hd, setLatch_eq, latchPortFlag]
  have frame : (s.portWritten p i left range).reflexes = s.reflexes ∧
      (s.portWritten p i left range).subs = s.subs ∧ (s.portWritten p i left range).unobserved = [] ∧
      ∀ c, (s.portWritten p i left range).cell c = (s.setCell (.port p i) left).cell c := by
    unfold State.portWritten; dsimp only; split <;> exact ⟨rfl, rfl, hu, fun _ => rfl⟩
  obtain ⟨f1, f2, f3, f4⟩ := frame
  have hs : ∀ j, ({ s.portWritten p i left range with
      reflexes := (s.portWritten p i left range).reflexes.map (Reflex.noting ⟨.port p i, left⟩) } : State).sub j = s.sub j := by
    intro j; simp only [State.sub, f2]
  rw [commitPortWrite, key, observe, observeReflexes_dormant (by intro j; simp only [State.reflex, f1]; exact h.1 j),
    observeSubs_ignored (by intro j; rw [hs]; exact h.2 j), drain_of_nil (by simpa using f3)]
  have hn : ∀ r : Reflex, (if ((s.setCell (.port p i) left).cell r.cell).updateCount = (s.cell r.cell).updateCount then r
      else { r with lastValue := ((s.setCell (.port p i) left).cell r.cell).value
                    lastTag := ((s.setCell (.port p i) left).cell r.cell).tag }) = r.noting ⟨.port p i, left⟩ := by
    intro r
    by_cases he : r.cell = .port p i
    · simp [he, hc, Reflex.noting]
    · simp [he, State.cell_setCell_other s left (Ne.symm he), Reflex.noting]
  simp only [State.noted, f1, f4, hn]

/-! ## The port line -/

/-- A message on a port line (R52): the receiver that discards lets nothing in, a length byte above 250 makes it discard until
its window closes, and otherwise the message acts. -/
theorem onLine_cases (p : Port) (m : LineReply) (act : State → State) (s : State) :
    (lineDeaf p s = true ∧ onLine p m act s = s) ∨
    (lineDeaf p s = false ∧ 250 < m.payload.length ∧ onLine p m act s = deafen p s) ∨
    (lineDeaf p s = false ∧ m.payload.length ≤ 250 ∧ onLine p m act s = act s) := by
  unfold onLine
  cases h : lineDeaf p s
  · by_cases hl : 250 < m.payload.length
    · exact .inr (.inl ⟨rfl, hl, by simp [hl]⟩)
    · exact .inr (.inr ⟨rfl, by omega, by simp [hl]⟩)
  · exact .inl ⟨rfl, rfl⟩

end Sys2Proof.Machine
end

