-- ==== Sys2Proof/Laws/Motion.lean ====
section
/-! SUPPORT. The shared operations of motors: what a change of a motor that sends no notice does, and what each motion request
does to a motor that takes it. -/

namespace Sys2Proof.Machine

/-- An operation on an attached motor. -/
theorem onMotor_some {p : Port} {m : Motor} {f : Motor → State → State} {s : State} (h : s.motor p = some m) :
    onMotor p f s = f m s := by simp only [onMotor, h]

/-- Putting the motor that is there changes nothing. -/
theorem State.setMotor_self {p : Port} {m : Option Motor} {s : State} (h : s.motor p = m) : s.setMotor p m = s := by
  subst h
  cases s
  simp only [State.setMotor, State.motor, State.mk.injEq, and_true, true_and]
  cases p <;> rfl

/-- The last motor put in a port stays. -/
@[simp] theorem State.setMotor_setMotor {p : Port} {m n : Option Motor} {s : State} :
    (s.setMotor p m).setMotor p n = s.setMotor p n := by cases p <;> rfl

/-- Segments without routes end in silence. -/
theorem reportEnded_silent {p : Port} {x : Int} {s : State} {l : List (Segment × SegOutcome)}
    (h : ∀ e ∈ l, e.1.route = none) : reportEnded p x l s = s := by
  unfold reportEnded
  induction l with
  | nil => rfl
  | cons e l ih =>
    simp only [List.foldl_cons, h e (by simp), sendNotice]
    exact ih fun e he => h e (by simp [he])

/-- A motor without a notice route, whose ended segments have none, changes in silence. -/
theorem moveMotor_silent {p : Port} {s : State} {a b : Motor} {l : List (Segment × SegOutcome)}
    (h : ∀ e ∈ l, e.1.route = none) (hb : b.settings.noticeRoute = none) :
    moveMotor p a b l s = s.setMotor p (some b) := by
  have hw : reportLowWater p a b l (s.setMotor p (some b)) = s.setMotor p (some b) := by
    unfold reportLowWater
    split
    · simp only [hb, sendNotice, ite_self]
    · rfl
  simp only [moveMotor, reportEnded_silent h, hw, reportState, hb, sendNotice, ite_self]

/-- The segments of a silent queue end in silence. -/
theorem endedAll_silent {q : List Segment} {o : SegOutcome} (h : ∀ g ∈ q, g.route = none) :
    ∀ e ∈ endedAll q o, e.1.route = none := by
  cases q with
  | nil => simp [endedAll]
  | cons g r =>
    simp only [endedAll, List.mem_cons, List.mem_map]
    rintro e (rfl | ⟨x, hx, rfl⟩)
    · exact h g (by simp)
    · exact h x (by simp [hx])

@[simp] theorem Motor.start_settings (m : Motor) (n : Nat) (c : Bool) (g : Segment) :
    (m.start n c g).settings = m.settings := rfl
@[simp] theorem Motor.endWith_settings (m : Motor) (a : EndAction) (n : Nat) : (m.endWith a n).settings = m.settings := by
  cases a <;> rfl
@[simp] theorem Motor.halted_settings (m : Motor) (o : MotorOutput) (st : MotionState) :
    (m.halted o st).settings = m.settings := rfl
@[simp] theorem Motor.endHead_settings (m : Motor) (n : Nat) : (m.endHead n).settings = m.settings := by
  unfold Motor.endHead; split <;> simp

/-- A halted motor, in the terms of the statements. -/
theorem Motor.halted_eq (m : Motor) (o : MotorOutput) (st : MotionState) : m.halted o st = m.stoppedIn st o := rfl

/-- An end action on an emptied queue, in the terms of the statements. -/
theorem Motor.endWith_eq (m : Motor) (a : EndAction) (n : Nat) : { m with queue := [] }.endWith a n = m.endedWith a n := by
  cases a <;> rfl

/-- A continuous start, in the terms of the statements. -/
theorem Motor.start_continuous (m : Motor) (q : List Segment) (rated : Nat) (g : Segment) :
    { m with queue := q }.start rated true g = m.startingContinuous rated q g := by
  unfold Motor.start Motor.startingContinuous Motor.starting Segment.targetFrom
  cases g.kind <;> rfl

/-- A measured start, in the terms of the statements. -/
theorem Motor.start_measured (m : Motor) (rated : Nat) (g : Segment) :
    { m with queue := [g] }.start rated false g = m.startingMeasured rated g := by
  unfold Motor.start Motor.startingMeasured Motor.starting Segment.targetFrom
  cases g.kind <;> rfl

/-- A request that its checks let pass. -/
theorem motionRefusal_none {p : Port} {r : MotionRequest} {m : Motor} {s : State} (h : s.takesMotion p m)
    (hr : ∀ g, r = .append g → m.queue.length < 4) (hz : r = .zero → m.executing = false) :
    motionRefusal p r m s = none := by
  obtain ⟨h1, h2, h3, h4, h5⟩ := h
  simp only [motionRefusal, h2, h3, h4, h5, if_false, decide_false, Bool.or_self, Bool.false_eq_true]
  cases r with
  | append g => simp [Nat.not_le.mpr (hr g rfl)]
  | zero => simp [hz rfl]
  | _ => rfl

/-- A request of a motor that takes it and sends no notice puts the motor where the request says, and nothing else. -/
theorem linkMotorCommand_silent {p : Port} {r : MotionRequest} {m n : Motor} {l : List (Segment × SegOutcome)} {s : State}
    {o : Origin} {code : Byte} (h : s.takesMotion p m) (hr : ∀ g, r = .append g → m.queue.length < 4)
    (hz : r = .zero → m.executing = false) (ht : m.take (s.classes.get m.cls).ratedMax r = (n, l))
    (hn : n.settings.noticeRoute = none) (hl : ∀ e ∈ l, e.1.route = none) :
    linkMotorCommand p o code (some r) s = s.setMotor p (some n) := by
  simp only [linkMotorCommand, h.1, motionRefusal_none h hr hz, takeMotion, ht]
  exact moveMotor_silent hl hn

/-- A control period that is not due leaves the hub as it is (R114). -/
theorem periodFalls_early {p : Port} {current : Int} {m : Motor} {s : State} (h : reached s.hubTime m.nextPeriod = false) :
    periodFalls p current m s = s := by simp only [periodFalls, h, Bool.false_eq_true, if_false]

/-- A control period that is due (R114): the next one falls 1 ms later. -/
theorem periodFalls_due {p : Port} {current : Int} {m : Motor} {s : State} (h : reached s.hubTime m.nextPeriod = true) :
    periodFalls p current m s = controlPeriod p current (s.setMotor p (some { m with nextPeriod := m.nextPeriod + 1 })) := by
  simp only [periodFalls, h, if_true]

/-- The motor after step 1 of its period with the next one set, in the terms of the statements. -/
theorem Motor.measured_eq (m : Motor) : { m with nextPeriod := m.nextPeriod + 1 }.measured = m.periodMeasured := by
  simp only [Motor.measured, Motor.periodMeasured, Motor.limitAt, Bool.and_eq_true, decide_eq_true_eq]
  congr 2
  exact if_congr (by unfold positionBound; omega) rfl rfl

end Sys2Proof.Machine
end

