-- ==== Sys2Proof/WellFormed.lean ====
section
/-! DEFINITION. Well-formed commands: the lengths that the link frame (R1, R196) and the port-line message (R51) allow. -/

namespace Sys2Proof

/-- The largest payload of a link frame in bytes (R1, R23). -/
def maxPayload : Nat := 248

/-- The most bytes that the length byte of a port-line message can call for; above 250 it begins no valid message (R51,
R52). -/
def maxLinePayload : Nat := 255

/-- The largest record of a LOAD: its request byte, table and index stand before it in the payload (R200). -/
def maxRecord : Nat := 245

/-- The length of a message on a port line fits its length byte (R51). -/
def LineReply.wellFormed (m : LineReply) : Bool := m.payload.length ≤ maxLinePayload

/-- The command can arrive: its byte strings fit what carries them. -/
def Instr.wellFormed : Instr → Bool
  | .powerOn .. => true
  | .resetNAssert => true
  | .resetNRelease .. => true
  | .linkDown .. => true
  | .linkUp .. => true
  | .receiveHeader .. => true
  | .skipCountSpent .. => true
  | .receiveFrameEnd _ payload _ _ => payload.length ≤ maxPayload
  | .waitingHeadHandover .. => true
  | .transmitStart .. => true
  | .frameTransmitted .. => true
  | .attnPulseEnd => true
  | .attnPulseGapEnd => true
  | .mgmtHeadConsideration .. => true
  | .identify .. => true
  | .loadRoute _ _ record => record.length ≤ maxRecord
  | .loadMotorClass _ _ record => record.length ≤ maxRecord
  | .loadMotorSettings _ _ record => record.length ≤ maxRecord
  | .loadPortSettings _ _ record => record.length ≤ maxRecord
  | .loadCalibration _ _ record => record.length ≤ maxRecord
  | .loadWavetable _ _ record => record.length ≤ maxRecord
  | .loadEnvelope _ _ record => record.length ≤ maxRecord
  | .loadReflex _ _ record => record.length ≤ maxRecord
  | .loadSubscription _ _ record => record.length ≤ maxRecord
  | .loadSupplySettings _ _ record => record.length ≤ maxRecord
  | .loadSoundSettings _ _ record => record.length ≤ maxRecord
  | .loadLinkSettings _ _ record => record.length ≤ maxRecord
  | .loadEventRoutes _ _ record => record.length ≤ maxRecord
  | .read .. => true
  | .readVoice .. => true
  | .readMixer .. => true
  | .portReset .. => true
  | .portSuspend .. => true
  | .portResume .. => true
  | .selectMode .. => true
  | .motorUnlock .. => true
  | .reflexArm .. => true
  | .readFlags .. => true
  | .readAttention .. => true
  | .setAttention .. => true
  | .readCounters .. => true
  | .setFlagMask .. => true
  | .hubReset .. => true
  | .hubReinitialisation .. => true
  | .idBandRead .. => true
  | .debounceExpiry .. => true
  | .bandWatchExpiry .. => true
  | .faultRecoveryExpiry .. => true
  | .lineBreakEnd .. => true
  | .queryRetry .. => true
  | .identifyTimeout .. => true
  | .descriptionReceived _ m => m.wellFormed
  | .configureAccept _ m => m.wellFormed
  | .configureTimeout .. => true
  | .selectDeferredSend .. => true
  | .selectAccept _ m => m.wellFormed
  | .selectTimeout .. => true
  | .analogSample .. => true
  | .pollDue .. => true
  | .sampleReceived _ m => m.wellFormed
  | .holdReceived _ m => m.wellFormed
  | .portLineMessageRejected _ _ m => m.wellFormed
  | .pollWindowClose .. => true
  | .sampleWatchdogExpiry .. => true
  | .subscriptionPeriodExpiry .. => true
  | .subscriptionIntervalEnd .. => true
  | .append .. => true
  | .replace .. => true
  | .abort .. => true
  | .zero .. => true
  | .encoderStep .. => true
  | .motorControlPeriod .. => true
  | .settleTimeout .. => true
  | .segmentDurationEnd .. => true
  | .stallDetected .. => true
  | .supplyMeasurement .. => true
  | .supplyFallToLow => true
  | .supplyFallToCritical => true
  | .supplyRise => true
  | .queue .. => true
  | .play .. => true
  | .stopRelease .. => true
  | .stopCut .. => true
  | .setGain .. => true
  | .setLoop .. => true
  | .ampWarmupComplete => true
  | .ampIdleOff => true
  | .envelopeStep .. => true
  | .noteDurationEnd .. => true
  | .outputSample => true
  | .starvedTimeout .. => true
  | .syncByteReceived .. => true
  | .creditFrameSent .. => true

end Sys2Proof
end

