-- ==== Sys2Proof/Laws/PerInstr.lean ====
section
/-! SUPPORT. The laws stated for each command in turn: a command is well-formed exactly where its byte string fits the
frame or the port-line message that carries it. -/

namespace Sys2Proof.Laws.Length

/-- How many bytes a command's byte string has, and how many what carries it admits (R1, R51, R200). A command without
a byte string has none and needs none. -/
def measure : Instr → Nat × Nat
  | .receiveFrameEnd _ payload _ _ => (payload.length, maxPayload)
  | .loadRoute _ _ record => (record.length, maxRecord)
  | .loadMotorClass _ _ record => (record.length, maxRecord)
  | .loadMotorSettings _ _ record => (record.length, maxRecord)
  | .loadPortSettings _ _ record => (record.length, maxRecord)
  | .loadCalibration _ _ record => (record.length, maxRecord)
  | .loadWavetable _ _ record => (record.length, maxRecord)
  | .loadEnvelope _ _ record => (record.length, maxRecord)
  | .loadReflex _ _ record => (record.length, maxRecord)
  | .loadSubscription _ _ record => (record.length, maxRecord)
  | .loadSupplySettings _ _ record => (record.length, maxRecord)
  | .loadSoundSettings _ _ record => (record.length, maxRecord)
  | .loadLinkSettings _ _ record => (record.length, maxRecord)
  | .loadEventRoutes _ _ record => (record.length, maxRecord)
  | .descriptionReceived _ m => (m.payload.length, maxLinePayload)
  | .configureAccept _ m => (m.payload.length, maxLinePayload)
  | .selectAccept _ m => (m.payload.length, maxLinePayload)
  | .sampleReceived _ m => (m.payload.length, maxLinePayload)
  | .holdReceived _ m => (m.payload.length, maxLinePayload)
  | .portLineMessageRejected _ _ m => (m.payload.length, maxLinePayload)
  | _ => (0, 0)

/-- A command is well-formed exactly where its byte string is no longer than what carries it admits. -/
def Statement (i : Instr) : Prop := i.wellFormed = decide ((measure i).1 ≤ (measure i).2)

theorem powerOn (pins : ResetPins) : Statement (.powerOn pins) := rfl
theorem resetNAssert : Statement .resetNAssert := rfl
theorem resetNRelease (pins : ResetPins) : Statement (.resetNRelease pins) := rfl
theorem linkDown (l : Link) : Statement (.linkDown l) := rfl
theorem linkUp (l : Link) : Statement (.linkUp l) := rfl
theorem receiveHeader (l : Link) (b1 b2 b3 b4 : Byte) : Statement (.receiveHeader l b1 b2 b3 b4) := rfl
theorem skipCountSpent (l : Link) : Statement (.skipCountSpent l) := rfl
theorem receiveFrameEnd (l : Link) (payload : List Byte) (crcLow crcHigh : Byte) : Statement (.receiveFrameEnd l payload crcLow crcHigh) := rfl
theorem waitingHeadHandover (l : Link) : Statement (.waitingHeadHandover l) := rfl
theorem transmitStart (l : Link) (cts : Bool) : Statement (.transmitStart l cts) := rfl
theorem frameTransmitted (l : Link) : Statement (.frameTransmitted l) := rfl
theorem attnPulseEnd : Statement .attnPulseEnd := rfl
theorem attnPulseGapEnd : Statement .attnPulseGapEnd := rfl
theorem mgmtHeadConsideration (band : Band) (raw : RawSample) : Statement (.mgmtHeadConsideration band raw) := rfl
theorem identify (o : Origin) : Statement (.identify o) := rfl
theorem loadRoute (o : Origin) (index : Byte) (record : List Byte) : Statement (.loadRoute o index record) := rfl
theorem loadMotorClass (o : Origin) (index : Byte) (record : List Byte) : Statement (.loadMotorClass o index record) := rfl
theorem loadMotorSettings (o : Origin) (index : Byte) (record : List Byte) : Statement (.loadMotorSettings o index record) := rfl
theorem loadPortSettings (o : Origin) (index : Byte) (record : List Byte) : Statement (.loadPortSettings o index record) := rfl
theorem loadCalibration (o : Origin) (index : Byte) (record : List Byte) : Statement (.loadCalibration o index record) := rfl
theorem loadWavetable (o : Origin) (index : Byte) (record : List Byte) : Statement (.loadWavetable o index record) := rfl
theorem loadEnvelope (o : Origin) (index : Byte) (record : List Byte) : Statement (.loadEnvelope o index record) := rfl
theorem loadReflex (o : Origin) (index : Byte) (record : List Byte) : Statement (.loadReflex o index record) := rfl
theorem loadSubscription (o : Origin) (index : Byte) (record : List Byte) : Statement (.loadSubscription o index record) := rfl
theorem loadSupplySettings (o : Origin) (index : Byte) (record : List Byte) : Statement (.loadSupplySettings o index record) := rfl
theorem loadSoundSettings (o : Origin) (index : Byte) (record : List Byte) : Statement (.loadSoundSettings o index record) := rfl
theorem loadLinkSettings (o : Origin) (index : Byte) (record : List Byte) : Statement (.loadLinkSettings o index record) := rfl
theorem loadEventRoutes (o : Origin) (index : Byte) (record : List Byte) : Statement (.loadEventRoutes o index record) := rfl
theorem read (o : Origin) (table index : Byte) : Statement (.read o table index) := rfl
theorem readVoice (o : Origin) (index : Byte) : Statement (.readVoice o index) := rfl
theorem readMixer (o : Origin) (index : Byte) : Statement (.readMixer o index) := rfl
theorem portReset (o : Origin) (port : Byte) (band : Band) : Statement (.portReset o port band) := rfl
theorem portSuspend (o : Origin) (port : Byte) : Statement (.portSuspend o port) := rfl
theorem portResume (o : Origin) (port : Byte) (raw : RawSample) : Statement (.portResume o port raw) := rfl
theorem selectMode (o : Origin) (port mode : Byte) : Statement (.selectMode o port mode) := rfl
theorem motorUnlock (o : Origin) (port : Byte) : Statement (.motorUnlock o port) := rfl
theorem reflexArm (o : Origin) (index : Byte) : Statement (.reflexArm o index) := rfl
theorem readFlags (o : Origin) (port : Byte) : Statement (.readFlags o port) := rfl
theorem readAttention (o : Origin) : Statement (.readAttention o) := rfl
theorem setAttention (o : Origin) (mask : BitVec 16) (mode : Byte) : Statement (.setAttention o mask mode) := rfl
theorem readCounters (o : Origin) (link : Byte) : Statement (.readCounters o link) := rfl
theorem setFlagMask (o : Origin) (port mask : Byte) : Statement (.setFlagMask o port mask) := rfl
theorem hubReset (o : Origin) : Statement (.hubReset o) := rfl
theorem hubReinitialisation (bands : PerPort Band) : Statement (.hubReinitialisation bands) := rfl
theorem idBandRead (p : Port) (band : Band) : Statement (.idBandRead p band) := rfl
theorem debounceExpiry (p : Port) (raw : RawSample) : Statement (.debounceExpiry p raw) := rfl
theorem bandWatchExpiry (p : Port) : Statement (.bandWatchExpiry p) := rfl
theorem faultRecoveryExpiry (p : Port) (band : Band) : Statement (.faultRecoveryExpiry p band) := rfl
theorem lineBreakEnd (p : Port) : Statement (.lineBreakEnd p) := rfl
theorem queryRetry (p : Port) : Statement (.queryRetry p) := rfl
theorem identifyTimeout (p : Port) : Statement (.identifyTimeout p) := rfl
theorem descriptionReceived (p : Port) (m : LineReply) : Statement (.descriptionReceived p m) := rfl
theorem configureAccept (p : Port) (m : LineReply) : Statement (.configureAccept p m) := rfl
theorem configureTimeout (p : Port) : Statement (.configureTimeout p) := rfl
theorem selectDeferredSend (p : Port) : Statement (.selectDeferredSend p) := rfl
theorem selectAccept (p : Port) (m : LineReply) : Statement (.selectAccept p m) := rfl
theorem selectTimeout (p : Port) : Statement (.selectTimeout p) := rfl
theorem analogSample (p : Port) (raw : RawSample) : Statement (.analogSample p raw) := rfl
theorem pollDue (p : Port) : Statement (.pollDue p) := rfl
theorem sampleReceived (p : Port) (m : LineReply) : Statement (.sampleReceived p m) := rfl
theorem holdReceived (p : Port) (m : LineReply) : Statement (.holdReceived p m) := rfl
theorem portLineMessageRejected (p : Port) (kind : Byte) (m : LineReply) : Statement (.portLineMessageRejected p kind m) := rfl
theorem pollWindowClose (p : Port) : Statement (.pollWindowClose p) := rfl
theorem sampleWatchdogExpiry (p : Port) : Statement (.sampleWatchdogExpiry p) := rfl
theorem subscriptionPeriodExpiry (i : Fin 24) : Statement (.subscriptionPeriodExpiry i) := rfl
theorem subscriptionIntervalEnd (i : Fin 24) : Statement (.subscriptionIntervalEnd i) := rfl
theorem append (p : Port) (o : Origin) (seg : RawSegment) : Statement (.append p o seg) := rfl
theorem replace (p : Port) (o : Origin) (seg : RawSegment) : Statement (.replace p o seg) := rfl
theorem abort (p : Port) (o : Origin) (endAction : Byte) : Statement (.abort p o endAction) := rfl
theorem zero (p : Port) (o : Origin) : Statement (.zero p o) := rfl
theorem encoderStep (p : Port) (forward : Bool) : Statement (.encoderStep p forward) := rfl
theorem motorControlPeriod (p : Port) (current : Int) : Statement (.motorControlPeriod p current) := rfl
theorem settleTimeout (p : Port) : Statement (.settleTimeout p) := rfl
theorem segmentDurationEnd (p : Port) : Statement (.segmentDurationEnd p) := rfl
theorem stallDetected (p : Port) : Statement (.stallDetected p) := rfl
theorem supplyMeasurement (voltage : Fin 12001) (current : Fin 20001) : Statement (.supplyMeasurement voltage current) := rfl
theorem supplyFallToLow : Statement .supplyFallToLow := rfl
theorem supplyFallToCritical : Statement .supplyFallToCritical := rfl
theorem supplyRise : Statement .supplyRise := rfl
theorem queue (v : VoiceId) (o : Origin) (note : RawNote) : Statement (.queue v o note) := rfl
theorem play (v : VoiceId) (o : Origin) (note : RawNote) : Statement (.play v o note) := rfl
theorem stopRelease (v : VoiceId) (o : Origin) : Statement (.stopRelease v o) := rfl
theorem stopCut (v : VoiceId) (o : Origin) : Statement (.stopCut v o) := rfl
theorem setGain (v : VoiceId) (o : Origin) (gain : BitVec 16) : Statement (.setGain v o gain) := rfl
theorem setLoop (v : VoiceId) (o : Origin) (mode : Byte) : Statement (.setLoop v o mode) := rfl
theorem ampWarmupComplete : Statement .ampWarmupComplete := rfl
theorem ampIdleOff : Statement .ampIdleOff := rfl
theorem envelopeStep (v : VoiceId) : Statement (.envelopeStep v) := rfl
theorem noteDurationEnd (v : VoiceId) : Statement (.noteDurationEnd v) := rfl
theorem outputSample : Statement .outputSample := rfl
theorem starvedTimeout (v : VoiceId) : Statement (.starvedTimeout v) := rfl
theorem syncByteReceived (l : Link) : Statement (.syncByteReceived l) := rfl
theorem creditFrameSent (l : Link) : Statement (.creditFrameSent l) := rfl

end Sys2Proof.Laws.Length
end

