-- ==== Sys2Proof/Tests/Slice0.lean ====
section
/-! SUPPORT. The model's own tests: the checks of WellFormed, the worked examples of the spec, and for each obligation with
hypotheses a concrete state and operands that meet them, at which the conclusion is evaluated. -/

set_option Elab.async false

namespace Sys2Proof.Tests

open Sys2Proof Sys2Proof.Machine

/-- The command runs and leaves this state. -/
def leaves (o : Host.Outcome State Fault Refusal) (t : State) : Bool :=
  match o with
  | .next u => u = t
  | _ => false

/-- The command runs and leaves a state of which this holds. -/
def leavesSuch (o : Host.Outcome State Fault Refusal) (f : State → Bool) : Bool :=
  match o with
  | .next u => f u
  | _ => false

/-- A hub at hub time 100000 with both links UP and nothing attached. -/
def hub : State := freshHub 100000 (freshLink true true) (freshLink true true) (everyPort 7) []

/-- A hub at hub time 100000 with both links DOWN and nothing attached. -/
def lone : State := freshHub 100000 (freshLink false true) (freshLink false true) (everyPort 7) []

/-- A sender: RADIO channel 3, tag 9. -/
def sender : Origin := { link := .radio, channel := 3, tag := 9 }

/-- A DATA frame of one page. -/
def small : Frame := { channel := 5, kind := .data, flags := 0, tag := 7, payload := [1, 2, 3] }

/-- A STREAM frame of two pages. -/
def large : Frame := { channel := 2, kind := .stream, flags := 0, tag := 7, payload := 1 :: 1 :: List.replicate 58 128 }

/-- `hub` with the RADIO link unit changed. -/
def withRadio (f : LinkUnit → LinkUnit) : State := hub.setLink .radio (f (hub.link .radio))

/-! ## WellFormed -/

theorem test_wellFormed_payload_of_248 : (Instr.receiveFrameEnd .radio (List.replicate 248 0) 0 0).wellFormed = true := by
  decide +kernel
theorem test_wellFormed_refuses_payload_of_249 :
    (Instr.receiveFrameEnd .radio (List.replicate 249 0) 0 0).wellFormed = false := by decide +kernel
theorem test_wellFormed_record_of_245 : (Instr.loadRoute sender 0 (List.replicate 245 0)).wellFormed = true := by
  decide +kernel
theorem test_wellFormed_refuses_record_of_246 :
    [Instr.loadRoute sender 0 (List.replicate 246 0), .loadMotorClass sender 0 (List.replicate 246 0),
      .loadMotorSettings sender 0 (List.replicate 246 0), .loadPortSettings sender 0 (List.replicate 246 0),
      .loadCalibration sender 0 (List.replicate 246 0), .loadWavetable sender 0 (List.replicate 246 0),
      .loadEnvelope sender 0 (List.replicate 246 0), .loadReflex sender 0 (List.replicate 246 0),
      .loadSubscription sender 0 (List.replicate 246 0), .loadSupplySettings sender 0 (List.replicate 246 0),
      .loadSoundSettings sender 0 (List.replicate 246 0), .loadLinkSettings sender 0 (List.replicate 246 0),
      .loadEventRoutes sender 0 (List.replicate 246 0)].all (fun i => !i.wellFormed) = true := by decide +kernel
theorem test_wellFormed_refuses_line_payload_of_256 :
    let m : LineReply := { payload := List.replicate 256 0, sum1 := 0, sum2 := 0 }
    [Instr.descriptionReceived .a m, .configureAccept .a m, .selectAccept .a m, .sampleReceived .a m, .holdReceived .a m,
      .portLineMessageRejected .a 0 m].all (fun i => !i.wellFormed) = true := by decide +kernel
theorem test_wellFormed_line_payload_of_255 :
    (LineReply.mk (List.replicate 255 0) 0 0).wellFormed = true := by decide +kernel

/-! ## Worked examples of the spec -/

/-- R21: the register, the polynomial and the bit order of R21 are those whose published check value over the digits 1 to 9
is 29B1H (PRESUMED: the check value stands outside the spec). -/
theorem test_crc_check_value : linkCrc [0x31, 0x32, 0x33, 0x34, 0x35, 0x36, 0x37, 0x38, 0x39] = 0x29B1 := by decide +kernel
/-- 13: QUERY on the line. -/
theorem test_query_bytes : lineMessage 1 [] = [0, 1, 1, 1] := by decide +kernel
/-- 04 4.6: modes P, Q and T under the four rounding modes. -/
theorem test_linear_map_cases :
    [(0, 400, 1000, 0, 1), (0, 400, 1000, 0, 3), (0, 400, 1000, 0, 400), (0, 400, -1000, 0, 1), (0, 400, -1000, 0, 3),
      (0, 1023, -400, 1200, 300), (0, 1023, -400, 1200, 5)].map
      (fun (x : Int × Int × Int × Int × Int) => [Rounding.nearestEven, .towardZero, .down, .up].map fun r =>
        interpolate r x.1 x.2.1 x.2.2.1 x.2.2.2.1 x.2.2.2.2) =
    [[998, 997, 997, 998], [992, 992, 992, 993], [0, 0, 0, 0], [-998, -997, -998, -997], [-992, -992, -993, -992],
      [69, 69, 69, 70], [-392, -392, -393, -392]] := by decide +kernel
/-- Table 4 of 04 4.7. -/
def table4 : List Breakpoint := [{ raw := 200, val := -50 }, { raw := 1000, val := 0 }, { raw := 3000, val := 500 }]
/-- 04 4.7: table 4 under the four rounding modes. -/
theorem test_calibration_cases :
    [600, 201, 1000, 2000].map (fun raw => [Rounding.nearestEven, .towardZero, .down, .up].map fun r =>
      (convertTable { PortSettings.defaults with rounding := r } table4 raw).value) =
    [[-25, -25, -25, -25], [-50, -49, -50, -49], [0, 0, 0, 0], [250, 250, 250, 250]] := by decide +kernel
/-- 04 4.8: table 4 out of range under both policies. -/
theorem test_range_policy_cases :
    [100, 3500].map (fun raw => [RangePolicy.saturate, .indefinite].map fun q =>
      convertTable { PortSettings.defaults with policy := q } table4 raw) =
    [[⟨-50, .valid, true⟩, ⟨-2147483648, .range, true⟩], [⟨500, .valid, true⟩, ⟨-2147483648, .range, true⟩]] := by
  decide +kernel

/-- A running MOTOR_M with the default settings and one segment. -/
def running (g : Segment) : Motor :=
  { Motor.attached .m { countsPerRev := 360, ratedMax := 1000, kp := 400, ki := 32, kf := 36000 } 99999 with
    state := .running, output := .driven, bridge := .driven, queue := [g] }

/-- A RUN_SPEED segment of 600 cps, accel 2000, without an end and without a notice. -/
def cruise : Segment :=
  { kind := .runSpeed, endAction := .brake, speed := 600, position := 0, duty := 0, accel := 2000, duration := 0
    route := none, tag := 11 }

/-- 06 6.6: the profile of the short RUN_BY, periods 1 to 14: p after each. -/
theorem test_run_by_profile :
    let g := { cruise with kind := .runBy, speed := 100, accel := 20000, position := 1 }
    let after (n : Nat) : Motor := Nat.repeat (fun m => m.moveTo g 1) n (running g)
    ((List.range 14).map fun k => (after (k + 1)).p) =
      [20, 60, 120, 200, 300, 400, 500, 600, 700, 780, 840, 920, 980, 1000] ∧
      (after 14).state = .settling ∧ (after 14).v = 0 := by decide +kernel

/-- The hub with S0 VALID at a voltage and the supply in a state. -/
def powered (voltage : Int) (st : SupplyState) : State :=
  { hub with
    supply := { hub.supply with state := st }
    sys := { hub.sys with q0 := (Cell.reset 0).written 0 voltage .valid .supply } }

/-- 07 7.7, worked case 1: comp, the limit's integral and the duty. -/
theorem test_loop_case_1 :
    let m := { running cruise with v := 500, p := 120500, x := 118, integral := 40000 }
    let comp := demand m (powered 6400 .normal)
    m.lawSum = 19021248 ∧ rawDuty m.lawSum = 4644 ∧ comp = 5224 ∧ (m.applied 10000 comp).duty = 5224 ∧
      (m.applied 10000 comp).integral = 42500 ∧ m.stalling comp = false := by decide +kernel
/-- 07 7.8, worked case 2: the clamps at every stage. -/
theorem test_loop_case_2 :
    let m := { running cruise with v := 1000, p := 1400000, x := 0, integral := 4200000 }
    let comp := demand m (powered 5900 .low)
    m.lawSum = 438500000 ∧ rawDuty m.lawSum = 107056 ∧ comp = 130644 ∧
      (m.applied SupplyState.low.dutyCap comp).duty = 7000 ∧
      (m.applied SupplyState.low.dutyCap comp).integral = 4200000 := by decide +kernel
/-- 07 7.9, worked case 3: the foldback limit of periods 2 to 13. -/
theorem test_foldback_case_3 :
    [2160, 2160, 2160, 2040, 1920, 1800, 1680, 1560, 1440, 1464, 1488, 1512].foldl
      (fun (fs : List Nat) (c : Int) => fs ++ [({ running cruise with foldback := fs.getLastD 0 }).foldbackAfter c]) [10000] =
    [10000, 9500, 9000, 8500, 8000, 7500, 7000, 6500, 6000, 6100, 6200, 6300, 5800] := by decide +kernel
/-- 09 9.4: the envelope of the worked tone at steps 1, 7, 16, 17, 51 and 65. -/
theorem test_envelope_case :
    let e : Envelope := { attack := 7, decay := 10, sustain := 128, release := 30 }
    let step (n : Nat) (r : Voice) : Voice := Nat.repeat (fun r => r.envelopeStep e) n r
    let start := { Voice.reset with state := .playing, level := 0 }
    let held := { Voice.reset with state := .releasing, level := 32768, envPhase := .release }
    [1, 6, 7, 16, 17].map (fun n => (step n start).level) = [9326, 55956, 65280, 36012, 32768] ∧
      (step 17 start).envPhase = .sustain ∧ [1, 15, 16].map (fun n => (step n held).level) = [30592, 128, 0] := by
  decide +kernel
/-- A TONE of 440 Hz on wavetable 0 with gain 200. -/
def tone : Note :=
  { kind := .tone, wavetable := 0, envelope := 3, frequency := 440, gain := 200, duration := 50, route := none, tag := 4 }
/-- 09 9.4: the first samples of the worked tone. -/
theorem test_tone_samples :
    [0, 118111601, 236223202, 354334803, 472446404].map (fun (n : Nat) =>
      toneSample { Voice.reset with level := 65280, phase := BitVec.ofNat 32 n } tone hub.wavetables) =
    [0, 2499, 7401, 12019, 16175] := by decide +kernel
/-- 09 9.6: the mix at the limits. -/
theorem test_mix_limits :
    [256, 200, 128, 100, 0].map (mixScaled 36563) = [36563, 28564, 18281, 14282, 0] := by decide +kernel

/-! ## The step, resets and invariants -/

theorem test_step_front : leaves (step { hub with pending := [.linkUp .radio] }) hub = true := by decide +kernel
theorem test_idle_ticks : hub.pending = [] ∧ leaves (step hub) { hub with hubTime := 100001 } = true := by decide +kernel
theorem test_held_hub_stands :
    (heldInReset []).inReset = true ∧ leaves (exec (.linkUp .radio) (heldInReset [])) (heldInReset []) = true := by
  decide +kernel
theorem test_power_on :
    leaves (exec (.powerOn { prdy := { radio := true, controller := false }, bands := { everyPort 7 with b := 3 } }) hub)
      (freshHub 0 (freshLink true false) (freshLink false false) { everyPort 7 with b := 3 } []) = true := by decide +kernel
theorem test_reset_pins :
    leaves (exec .resetNAssert hub) (heldInReset []) = true ∧
      leaves (exec (.resetNRelease { prdy := { radio := true, controller := true }, bands := everyPort 7 }) (heldInReset []))
        (freshHub 0 (freshLink true false) (freshLink true false) (everyPort 7) []) = true := by decide +kernel

/-- A hub at work: a frame in each place of RADIO, a running motor on port B, and a note on voice 0. -/
def busy : State :=
  let u := hub.link .radio
  let s := hub.setLink .radio
    { u with urgent := [small], normal := [large], hold := [small], outstanding := 10, receiver := .payload large.header }
  let s := { s.setMotor .b (some (running cruise)) with free := 80, amp := .on }
  { s.setVoice 0 { Voice.reset with state := .playing, notes := [tone] } with
    sys := { s.sys with q3 := { s.sys.q3 with value := 80 } }, speaker := 500, pending := [.encoderStep .b true] }

/-- The motor of port B is the one that `busy` has; no other port has one. -/
theorem busy_motor {p : Port} {m : Motor} (h : busy.motor p = some m) : m = running cruise := by
  cases p with
  | b => exact (Option.some.inj (show some (running cruise) = some m from h)).symm
  | _ => exact nomatch (show (none : Option Motor) = some m from h)

/-- The hypotheses of the invariants meet in a hub at work. -/
theorem test_invariants_meet_in_busy :
    busy.conserved ∧ busy.freeShown ∧ busy.linksSound ∧ busy.voicesConsistent ∧ busy.outputSound := by decide +kernel
theorem test_bounds_meet_in_busy : busy.bounded ∧ busy.motorsConsistent ∧ busy.dutyCapped := by
  refine ⟨⟨by decide +kernel, by decide +kernel, by decide +kernel, by decide +kernel, ?_⟩, ?_, ?_⟩ <;>
    intro p m h <;> rw [busy_motor h] <;> decide +kernel
theorem test_step_of_busy : leavesSuch (step busy) (fun t => decide (t.conserved ∧ t.freeShown ∧ t.linksSound)) = true := by
  decide +kernel

theorem test_hub_reset_is_taken :
    hub.settled ∧ hub.mgmt.resetTaken = none ∧ (hub.link sender.link).up = true ∧
      leaves (exec (.hubReset sender) hub) { hub with mgmt := { hub.mgmt with resetTaken := some sender } } = true := by
  decide +kernel
theorem test_hub_reinitialises :
    let s := { busy with mgmt := { busy.mgmt with resetTaken := some sender } }
    s.settled ∧ s.mgmt.resetTaken = some sender ∧ (s.link .radio).sending = none ∧ (s.link .controller).sending = none ∧
      leaves (exec (.hubReinitialisation (everyPort 7)) s)
        ({ hub.withFree 63 with pending := s.pending }.withUrgent .radio (replyTo sender [12, 0])) = true := by
  decide +kernel

/-! ## Links and the pool -/

theorem test_sync_and_skip :
    (withRadio id).settled ∧ ((withRadio id).link .radio).up = true ∧ ((withRadio id).link .radio).receiver = .hunting ∧
      leaves (exec (.syncByteReceived .radio) hub) (withRadio fun u => { u with receiver := .header }) = true ∧
      leaves (exec (.skipCountSpent .radio) (withRadio fun u => { u with receiver := .skipping 22 })) hub = true := by
  decide +kernel
/-- 02 2.9: the format error at length 250, the accepted header of length 100, and the overrun of length 20. -/
theorem test_headers :
    let s := withRadio fun u => { u with receiver := .header }
    let spent := withRadio fun u => { u with receiver := .header, outstanding := 0 }
    s.quiet ∧ (s.link .radio).sound ∧ (s.link .radio).up = true ∧
      leavesSuch (exec (.receiveHeader .radio 2 0 250 0) s) (fun t => (t.link .radio).counters.formatErrors = 1) = true ∧
      leavesSuch (exec (.receiveHeader .radio 2 0 249 0) s) (fun t => (t.link .radio).counters.formatErrors = 1) = true ∧
      leavesSuch (exec (.receiveHeader .radio 2 0 248 0) s) (fun t => t.free = 56 ∧ (t.link .radio).outstanding = 32) = true ∧
      leavesSuch (exec (.receiveHeader .radio 2 0 28 0) s) (fun t => t.free = 63 ∧ (t.link .radio).outstanding = 32) = true ∧
      spent.settled ∧ (spent.link .radio).outstanding < (4 + 20 + 31) / 32 ∧
      leavesSuch (exec (.receiveHeader .radio 3 0 20 0) spent) (fun t =>
        (t.link .radio).receiver = .skipping 22 ∧ (t.link .radio).counters.overruns = 1 ∧
          t.attention.latches.getLsbD 9 = true) = true := by decide +kernel

/-- A hub whose RADIO assembly holds the header of a frame, the frame's CRC, and the RADIO route of its channel. -/
def assembling (f : Frame) (r : Route) : State :=
  let s := hub.setLink .radio
    { hub.link .radio with receiver := .payload f.header, outstanding := 32 - f.pages }
  s.setRoute .radio f.channel r

/-- The CRC bytes of a frame, low byte first. -/
def crcOf (f : Frame) : BitVec 16 := linkCrc (f.header.bytes ++ f.payload)

/-- The frame arrives at a hub with its own CRC. -/
def arrives (f : Frame) (s : State) : Host.Outcome State Fault Refusal :=
  exec (.receiveFrameEnd .radio f.payload ((crcOf f).truncate 8) ((crcOf f >>> 8).truncate 8)) s

/-- The hypotheses of a frame's arrival: a quiet hub, its header in the assembly, a good CRC. -/
def canArrive (f : Frame) (s : State) : Bool :=
  decide (s.quiet ∧ (s.link .radio).receiver = .payload f.header ∧ f.payload.length = f.header.length) &&
    (crcOf f >>> 8).truncate 8 ++ (crcOf f).truncate 8 = crcOf f

theorem test_frame_with_bad_crc :
    canArrive small (assembling small .drop) = true ∧ (0 : Byte) ++ (0 : Byte) ≠ crcOf small ∧
      leavesSuch (exec (.receiveFrameEnd .radio small.payload 0 0) (assembling small .drop)) (fun t =>
        (t.link .radio).counters.crcErrors = 1 ∧ t.free = 64) = true := by decide +kernel
theorem test_frame_joins_held_ones :
    let s := assembling small .drop
    let held := s.setLink .radio { s.link .radio with hold := [small], outstanding := 30 }
    canArrive small held = true ∧
      leavesSuch (arrives small held) (fun t => (t.link .radio).hold = [small, small]) = true := by decide +kernel
theorem test_frame_is_dropped :
    canArrive small (assembling small .drop) = true ∧
      leavesSuch (arrives small (assembling small .drop)) (fun t => (t.link .radio).counters.routeDrops = 1) = true ∧
      (let c := { small with kind := .credit }
       canArrive c (assembling c .drop) = true ∧
        leavesSuch (arrives c (assembling c .drop)) (fun t => (t.link .radio).counters.badKindDrops = 1) = true) ∧
      (let c := { small with kind := .unassigned 7 }
       canArrive c (assembling c .drop) = true ∧
        leavesSuch (arrives c (assembling c .drop)) (fun t => (t.link .radio).counters.badKindDrops = 1) = true) ∧
      (let c := { small with kind := .stream }
       canArrive c (assembling c (.motor .a)) = true ∧
        leavesSuch (arrives c (assembling c (.motor .a))) (fun t => (t.link .radio).counters.badKindDrops = 1) = true) ∧
      canArrive small (assembling small .management) = true ∧
        leavesSuch (arrives small (assembling small .management)) (fun t =>
          (t.link .radio).counters.badKindDrops = 1) = true := by decide +kernel
theorem test_frame_is_delivered :
    (let c := { small with kind := .mgmtRequest, payload := [1] }
     let s := assembling c .management
     canArrive c s = true ∧ leavesSuch (arrives c s) (fun t => t.mgmt.queue = [{ link := .radio, frame := c }]) = true ∧
      (let full := { s with free := 60, mgmt := { s.mgmt with queue := List.replicate 4 { link := .radio, frame := c } } }
       canArrive c full = true ∧
        leavesSuch (arrives c full) (fun t => (t.link .radio).waiting = some .management) = true)) ∧
      canArrive large (assembling large (.sound 3)) = true ∧
      leavesSuch (arrives large (assembling large (.sound 3))) (fun t => (t.voice 3).stream = [large]) = true ∧
      (let s := assembling { large with payload := [] } (.sound 3)
       let f := { large with payload := [] }
       let full := { s.setVoice 3 { Voice.reset with stream := List.replicate 12 f } with free := 52 }
       canArrive f full = true ∧ leavesSuch (arrives f full) (fun t => (t.voice 3).overflows = 1) = true) ∧
      canArrive small (assembling small (.pass 9)) = true ∧
      leavesSuch (arrives small (assembling small (.pass 9))) (fun t =>
        (t.link .controller).normal = [{ small with channel := 9 }]) = true ∧
      (let u := { small with flags := 1 }
       canArrive u (assembling u (.pass 9)) = true ∧
        leavesSuch (arrives u (assembling u (.pass 9))) (fun t =>
          (t.link .controller).urgent = [{ u with channel := 9 }]) = true) := by decide +kernel

/-- A DATA frame for a motor or a voice, the command that its payload spells, and the refusal of one that spells none. -/
theorem test_frame_is_a_command :
    let f (payload : List Byte) : Frame := { small with payload := payload }
    let o : Origin := { link := .radio, channel := 5, tag := 7 }
    let on (payload : List Byte) (r : Route) : State := (assembling (f payload) r).setMotor .b (some (running {
      kind := .runSpeed, endAction := .brake, speed := 600, position := 0, duty := 0, accel := 2000, duration := 0
      route := none, tag := 11 }))
    let hands (payload : List Byte) (r : Route) (c : Instr) : Bool :=
      let s := on payload r
      let u := s.link .radio
      let held := s.setLink .radio { u with
        receiver := .hunting, hold := [f payload], counters := { u.counters with framesReceived := 1 } }
      canArrive (f payload) s && match exec c held with
        | .next t => leaves (arrives (f payload) s) ((t.headLeft .radio []).afterRelease 1)
        | _ => false
    hands [3, 1] (.motor .b) (.abort .b o 1) ∧ hands [4] (.motor .b) (.zero .b o) ∧ hands [3] (.sound 2) (.stopRelease 2 o) ∧
      hands [4] (.sound 2) (.stopCut 2 o) ∧ hands [5, 255, 255] (.sound 2) (.setGain 2 o 65535) ∧
      hands [6, 1] (.sound 2) (.setLoop 2 o 1) ∧ motorCommandOf [4, 4] = none ∧ soundCommandOf [7] = none ∧
      leavesSuch (arrives (f [4, 4]) (on [4, 4] (.motor .b))) (fun t =>
        (t.link .radio).urgent = [refusedNotice o 1 4 1 100000] && (t.link .radio).hold = []) = true ∧
      leavesSuch (arrives (f [7]) (on [7] (.sound 3))) (fun t =>
        (t.link .radio).urgent = [refusedNotice o 19 7 1 100000]) = true := by decide +kernel

theorem test_waiting_head :
    let s := withRadio fun u => { u with hold := [small], waiting := some .management }
    let q := withRadio fun u => { u with hold := [small], waiting := some (.pass .urgent 9) }
    s.settled ∧ (s.link .radio).hold = [small] ∧ (s.link .radio).waiting = some .management ∧
      leavesSuch (exec (.waitingHeadHandover .radio) s) (fun t =>
        t.mgmt.queue = [{ link := .radio, frame := small }] ∧ (t.link .radio).hold = []) = true ∧
      (q.link .radio).waiting = some (.pass .urgent 9) ∧ (q.link .controller).up = true ∧
      leavesSuch (exec (.waitingHeadHandover .radio) q) (fun t =>
        (t.link .controller).urgent = [{ small with channel := 9 }]) = true := by decide +kernel

theorem test_waiting_head_waits_on :
    let s (q : TxQueue) (n u : Nat) : State :=
      (withRadio fun u => { u with hold := [small], waiting := some (.pass q 9), outstanding := 31 }).setLink .controller
        { hub.link .controller with normal := List.replicate n small, urgent := List.replicate u small
                                    outstanding := 32 - n - u }
    let m : State := { withRadio (fun u => { u with hold := [small], waiting := some .management }) with
      mgmt := { hub.mgmt with queue := List.replicate 4 { link := .radio, frame := small } } }
    (s .normal 24 0).quiet ∧ leaves (exec (.waitingHeadHandover .radio) (s .normal 24 0)) (s .normal 24 0) = true ∧
      leaves (exec (.waitingHeadHandover .radio) (s .urgent 0 8)) (s .urgent 0 8) = true ∧
      leaves (exec (.waitingHeadHandover .radio) m) m = true ∧
      leavesSuch (exec (.waitingHeadHandover .radio) (s .normal 23 0)) (fun t =>
        (t.link .controller).normal.length = 24 && (t.link .radio).hold = []) = true ∧
      leavesSuch (exec (.linkDown .controller) (s .normal 24 0)) (fun t =>
        (t.link .radio).hold = [] && (t.link .controller).counters.downLinkDrops = 1 && t.free = 96) = true ∧
      (let d := (s .urgent 0 0).setLink .controller (freshLink false true)
       let d := { d with free := 96 }
       d.quiet ∧ leavesSuch (exec (.waitingHeadHandover .radio) d) (fun t =>
        (t.link .radio).hold = [] && (t.link .controller).counters.downLinkDrops = 1) = true) := by decide +kernel
theorem test_frame_behind_a_head :
    let s (g : Frame) (r : Route) : State :=
      (withRadio fun u => { u with hold := [small, g], waiting := some .management, outstanding := 30 }).setRoute .radio 5 r
    let full := (s small (.pass 4)).setLink .controller { hub.link .controller with
      normal := List.replicate 24 small, outstanding := 8 }
    (s small .drop).quiet ∧ ((s small .drop).link .radio).hold = [small, small] ∧ full.settled ∧
      leavesSuch (exec (.waitingHeadHandover .radio) (s { small with kind := .credit } .drop)) (fun t =>
        (t.link .radio).hold = [] && (t.link .radio).counters.badKindDrops = 1 && t.mgmt.queue.length = 1) = true ∧
      leavesSuch (exec (.waitingHeadHandover .radio) (s small .drop)) (fun t =>
        (t.link .radio).hold = [] && (t.link .radio).counters.routeDrops = 1) = true ∧
      leavesSuch (exec (.waitingHeadHandover .radio) full) (fun t =>
        (t.link .radio).hold = [small] && (t.link .radio).waiting = some (.pass .normal 4)) = true := by decide +kernel

theorem test_transmit_order :
    let s := withRadio fun u => { u with urgent := [small], normal := [large] }
    let q := withRadio fun u => { u with urgent := [small], normal := [large], pendingCredit := 0 }
    let n := withRadio fun u => { u with normal := [large], pendingCredit := 0 }
    let z := withRadio fun u => { u with pendingCredit := 0 }
    s.settled ∧ (s.link .radio).up = true ∧ (s.link .radio).sending = none ∧ s.mgmt.resetTaken = none ∧
      leaves (exec (.transmitStart .radio false) s) (s.setLink .radio { s.link .radio with cts := false }) = true ∧
      leavesSuch (exec (.transmitStart .radio true) s) (fun t => (t.link .radio).restart = false ∧
        (t.link .radio).sending.map (fun g => g.bytes.take 6) = some [0xC3, 0x70, 4, 1, 0, 32]) = true ∧
      leavesSuch (exec (.transmitStart .radio true) q) (fun t =>
        (t.link .radio).sending = some { source := .queue .urgent, bytes := wireBytes small }) = true ∧
      leavesSuch (exec (.transmitStart .radio true) n) (fun t =>
        (t.link .radio).sending = some { source := .queue .normal, bytes := wireBytes large }) = true ∧
      leaves (exec (.transmitStart .radio true) z) z = true := by decide +kernel

theorem test_sent_frames :
    let s := { withRadio (fun u => { u with urgent := [small], sending := some { source := .queue .urgent, bytes := [] } }) with
               free := 63 }
    let n := { withRadio (fun u => { u with normal := [large], sending := some { source := .queue .normal, bytes := [] } }) with
               free := 62 }
    let c := withRadio (fun u => { u with sending := some { source := .credit, bytes := [] } })
    s.quiet ∧ n.quiet ∧ c.settled ∧
      leavesSuch (exec (.frameTransmitted .radio) s) (fun t => t.free = 64 ∧ (t.link .radio).urgent = []) = true ∧
      leavesSuch (exec (.frameTransmitted .radio) n) (fun t => t.free = 64 ∧ (t.link .radio).normal = []) = true ∧
      leaves (exec (.creditFrameSent .radio) c) hub = true := by decide +kernel
/-- A DATA frame reads back from its own bytes. -/
theorem test_wire_bytes :
    small.payload.length ≤ 248 ∧ (wireBytes small).take 8 = [0xC3, 5, 0, 3, 7, 1, 2, 3] ∧
      (headerOf 5 0 3 7).frame small.payload = small := by decide +kernel

theorem test_link_changes :
    lone.quiet ∧ (lone.link .radio).sound ∧ (lone.link .radio).up = false ∧
      leavesSuch (exec (.linkUp .radio) lone) (fun t => t.free = 96 ∧ (t.link .radio).outstanding = 32 ∧
        (t.link .radio).restart = true ∧ t.attention.latches.getLsbD 8 = true) = true ∧
      hub.quiet ∧ (∀ q : TxQueue, ∀ out : Channel, (hub.link .controller).waiting ≠ some (.pass q out)) ∧
      leavesSuch (exec (.linkDown .radio) hub) (fun t => t.free = 96 ∧ (t.link .radio).outstanding = 0) = true :=
  ⟨by decide +kernel, by decide +kernel, by decide +kernel, by decide +kernel, by decide +kernel, fun _ _ => nofun,
    by decide +kernel⟩
theorem test_no_motor_acts_on_loss (p : Port) (m : Motor) (h : hub.motor p = some m) : m.settings.lossAction = .noAction := by
  cases p <;> exact nomatch (show (none : Option Motor) = some m from h)
theorem test_link_loss :
    let m := { running cruise with settings := { (running cruise).settings with lossAction := .brake } }
    let s := hub.setMotor .b (some m)
    s.quiet ∧ (s.link .radio).up = true ∧ s.motor .b = some m ∧ m.settings.lossAction ≠ .noAction ∧
      m.settings.watched = .radio ∧ m.state ≠ .locked ∧
      (s.link .controller).waiting = none ∧
      leavesSuch (exec (.linkDown .radio) s) (fun t => t.motor .b = some (m.stoppedIn .idle .brake)) = true := by
  decide +kernel
theorem test_attention_pulses :
    let s (p : PulsePhase) (n : Nat) : State := { hub with attention := { hub.attention with pulse := p, owed := n } }
    (s .low 1).settled ∧ leaves (exec .attnPulseEnd (s .low 1)) (s .gap 1) = true ∧
      leaves (exec .attnPulseGapEnd (s .gap 1)) (s .low 0) = true ∧
      leaves (exec .attnPulseGapEnd (s .gap 0)) (s .quiet 0) = true := by decide +kernel
/-- 12 12.7: the latches, the owed pulses and the line of the worked example, event by event. -/
theorem test_attention_latches :
    let start : Attention := { Attention.reset with mode := .pulse, mask := 0x284 }
    let events : List (Attention → Attention) :=
      [(·.setLatch 2), (·.setLatch 9), (·.pulseEnds), (·.gapEnds), (·.pulseEnds), (·.gapEnds), (·.setLatch 9), (·.setLatch 10)]
    let run := (events.foldl (fun (as : List Attention) e => as ++ [e (as.getLastD start)]) []).map fun a =>
      (a.latches, a.owed, a.lineLow)
    run = [(0x004#12, 0, true), (0x204#12, 1, true), (0x204#12, 1, false), (0x204#12, 0, true), (0x204#12, 0, false),
      (0x204#12, 0, false), (0x204#12, 0, false), (0x604#12, 0, false)] ∧
      ({ start with pulse := .low, owed := 255 }.setLatch 9).owed = 255 ∧
      ({ start with mode := .level }.setLatch 9).lineLow = true ∧ ({ start with mode := .level }.setLatch 10).lineLow = false := by
  decide +kernel
/-- 01 1.12: the arbitration between the two links, each release with free as it then stands. -/
theorem test_arbitration :
    let s (free a b : Nat) : State := { (hub.setLink .radio { hub.link .radio with outstanding := a, restart := false }).setLink
      .controller { hub.link .controller with outstanding := b, restart := false } with free := free }
    let shows (t : State) : List Nat := [t.free, (t.link .radio).outstanding, (t.link .controller).outstanding]
    shows (reviewBoth (s 14 20 26)) = [8, 26, 26] ∧ shows (reviewBoth (s 12 26 26)) = [8, 30, 26] ∧
      shows (reviewBoth (s 13 30 26)) = [8, 30, 31] := by decide +kernel
theorem test_notices_placed_or_dropped :
    hub.conserved ∧ hub.mgmt.inProgress = none ∧ (hub.link .radio).up = true ∧
      (placeUrgent .radio small hub).free = 63 ∧ ((placeUrgent .radio small hub).link .radio).urgent = [small] ∧
      (lone.link .radio).up = false ∧ ((placeUrgent .radio small lone).link .radio).counters.downLinkDrops = 1 ∧
      (let full := { withRadio (fun u => { u with urgent := List.replicate 8 small }) with free := 56 }
       full.conserved ∧ ((placeUrgent .radio small full).link .radio).counters.lostNotices = 1) := by decide +kernel

/-! ## Management requests -/

/-- The mode of 04 4.10: two INT16 values, raw 0 to 400, SI 0 to 1000, minimum interval 20 ms. -/
def mode1 : Mode :=
  { valueCount := 2, format := .int16, rawMin := 0, rawMax := 400, siMin := 0, siMax := 1000, minInterval := 20 }

/-- A mode of four values. -/
def mode4 : Mode := { mode1 with valueCount := 4, format := .int8 }

/-- A smart device of type 17 with two modes, mode 1 by default. -/
def sensor : Description := { typeCode := 17, highestRate := 3, defaultMode := 1, modes := [mode4, mode1] }

/-- A hub whose management queue holds one request of RADIO with this payload; its page has left free. -/
def asked (payload : List Byte) : State :=
  { hub with
    free := 64 - pagesOf payload.length
    mgmt := { hub.mgmt with
      queue := [{ link := .radio, frame := { channel := 3, kind := .mgmtRequest, flags := 0, tag := 9, payload := payload } }] } }

/-- The last reply on RADIO's urgent queue carries this payload to the sender. -/
def replied (t : State) (payload : List Byte) : Bool := (t.link .radio).urgent.getLast? = some (replyTo sender payload)

theorem test_considered_requests :
    (asked [1]).quiet ∧ (asked [1]).mgmt.resetTaken = none ∧ ((asked [1]).link .radio).up = true ∧
      ((asked [1]).link .radio).urgent.length < 8 ∧
      leavesSuch (exec (.mgmtHeadConsideration 7 0) (asked [1])) (fun t =>
        replied t [1, 0, 0x31, 0x5A, 0x6C, 0x02, 1, 6, 4, 128, 16, 24] && t.free = 63) = true ∧
      requestOf [99, 1] = none ∧
      leavesSuch (exec (.mgmtHeadConsideration 7 0) (asked [99, 1])) (fun t => replied t [99, 1]) = true ∧
      requestOf [6, 200] = some (.reflexArm 200) ∧ (Request.reflexArm 200).check (asked [6, 200]) ≠ .ok ∧
      leavesSuch (exec (.mgmtHeadConsideration 7 0) (asked [6, 200])) (fun t => replied t [6, 3]) = true ∧
      (let long := asked (99 :: List.replicate 30 0)
       long.quiet ∧ leavesSuch (exec (.mgmtHeadConsideration 7 0) long) (fun t => replied t [99, 1] && t.free = 63) = true) := by
  decide +kernel
/-- `s` with the head of the management queue waiting, or not. -/
def headWaiting (s : State) (b : Bool) : State := { s with mgmt := { s.mgmt with headWaits := b } }

theorem test_requests_that_wait :
    let full := (asked [1]).setLink .radio { hub.link .radio with urgent := List.replicate 8 small }
    let s := { full with free := 55 }
    s.quiet ∧ 8 ≤ (s.link .radio).urgent.length ∧ requestOf [1] ≠ some .hubReset ∧
      leaves (exec (.mgmtHeadConsideration 7 0) s) (headWaiting s true) = true ∧
      leaves (exec (.mgmtHeadConsideration 7 0) (headWaiting (asked [1]) true)) (headWaiting (asked [1]) true) = true ∧
      (let down := { (asked [1]).setLink .radio (freshLink false true) with free := 95 }
       down.quiet ∧ (down.link .radio).up = false ∧
        leavesSuch (exec (.mgmtHeadConsideration 7 0) down) (fun t => t.free = 96 && t.mgmt.queue = []) = true) := by
  decide +kernel

/-- R14: the READ of a wavetable, whose reply takes four pages more than the request, waits for four free pages; the release that
a sent frame makes is the moment of its next consideration (R186). -/
theorem test_replies_longer_than_their_requests :
    let ask (free : Nat) : State :=
      { (asked [3, 5, 1]).setLink .radio
          { hub.link .radio with
            outstanding := 94 - free, ceiling := 94, urgent := [small]
            sending := some { source := .queue .urgent, bytes := wireBytes small } } with
        free := free }
    (ask 4).quiet ∧ (ask 3).quiet ∧ (readTable .wavetable 1 hub).map List.length = some 128 ∧
      leavesSuch (exec (.mgmtHeadConsideration 7 0) (ask 4)) (fun t =>
        t.free = 0 && t.mgmt.queue = [] && replied t (3 :: 0 :: wavetableBytes squareTable)) = true ∧
      leaves (exec (.mgmtHeadConsideration 7 0) (ask 3)) (headWaiting (ask 3) true) = true ∧
      leavesSuch (exec (.frameTransmitted .radio) (headWaiting (ask 3) true)) (fun t =>
        t.free = 4 && !t.mgmt.headWaits && t.mgmt.queue.length = 1) = true := by decide +kernel

theorem test_identify :
    hub.quiet ∧ hub.canAnswer sender 12 ∧
      leaves (exec (.identify sender) hub)
        (hub.answered sender [1, 0, 0x31, 0x5A, 0x6C, 0x02, 1, 6, 4, 128, 16, 24]) = true := by decide +kernel
theorem test_reads :
    hub.canAnswer sender 20 ∧ Table.ofCode 16 = some .mixer ∧
      leaves (exec (.read sender 0 31) hub) (hub.answered sender [3, 0, 4, 0, 0, 15]) = true ∧
      leaves (exec (.read sender 14 27) hub)
        (hub.answered sender ([3, 0, 64, 0, 0, 0, 1, 4] ++ le32 100000 ++ [2])) = true ∧
      hub.motor .f = none ∧ leaves (exec (.read sender 2 5) hub) (hub.answered sender [3, 6]) = true ∧
      leaves (exec (.read sender 17 0) hub) (hub.answered sender [3, 2]) = true := by decide +kernel
/-- R200: the bytes of READ results from the default tables, table 4 of 04 4.7 and a description. -/
theorem test_read_results :
    let s : State := { hub.setPort .c { hub.port .c with description := some { sensor with modes := [mode1] } } with
      calibration := hub.calibration.set 4 table4 }
    let gives (t i : Byte) (bs : List Byte) : Bool := leaves (exec (.read sender t i) s) (s.answered sender (3 :: 0 :: bs))
    s.quiet ∧ s.canAnswer sender 130 ∧ gives 1 0 [180, 0, 0xDC, 5, 0x2C, 1, 16, 0, 0xC0, 0x5D] = true ∧
      gives 3 5 [10, 0, 0, 0, 255, 255, 0, 0, 255, 0] = true ∧
      gives 4 4 [3, 200, 0, 206, 255, 255, 255, 0xE8, 3, 0, 0, 0, 0, 0xB8, 0x0B, 0xF4, 1, 0, 0] = true ∧ gives 4 0 [0] = true ∧
      gives 5 1 ((List.replicate 32 [0xFF, 0x7F]).flatten ++ (List.replicate 32 [0x01, 0x80]).flatten) = true ∧
      gives 6 7 [5, 0, 0, 0, 255, 20, 0] = true ∧
      gives 7 15 (List.replicate 15 0 ++ [4, 0, 0, 255, 0, 0] ++ List.replicate 8 0) = true ∧
      gives 8 23 ([0, 0, 0, 1, 0xE8, 3, 0, 0, 0, 0, 10, 0, 1] ++ List.replicate 18 0) = true ∧
      gives 9 0 [0x9C, 0x18, 0xE0, 0x15, 200, 0, 0x20, 0x1C] = true ∧ gives 10 0 [0, 1, 0xD0, 7] = true ∧
      gives 11 0 [32, 32] = true ∧ gives 12 0 [255, 0] = true ∧
      gives 13 2 [17, 0, 3, 1, 1, 2, 1, 0, 0, 0, 0, 0x90, 1, 0, 0, 0, 0, 0, 0, 0xE8, 3, 0, 0, 20, 0] = true ∧
      leaves (exec (.read sender 13 0) s) (s.answered sender [3, 6]) = true := by decide +kernel
theorem test_clearing_reads :
    let s := { hub.setFlagRec .f { flags := 4, mask := 4, due := 4 } with
      clips := 3, attention := { hub.attention with latches := 6 } }
    let s := s.setVoice 3 { Voice.reset with underruns := 2 }
    s.quiet ∧ s.canAnswer sender 20 ∧
      leavesSuch (exec (.readVoice sender 3) s) (fun t =>
        replied t [3, 0, 0, 0, 0, 0, 255, 0, 0, 0, 2, 0, 0, 0] && (t.voice 3).underruns = 0) = true ∧
      leaves (exec (.readVoice sender 4) s) (s.answered sender [3, 3]) = true ∧
      leavesSuch (exec (.readMixer sender 0) s) (fun t => replied t [3, 0, 0, 0, 1, 3, 0] && t.clips = 0) = true ∧
      leavesSuch (exec (.readFlags sender 5) s) (fun t =>
        replied t [7, 0, 4, 4] && t.flag .f = { flags := 0, mask := 4, due := 0 }) = true ∧
      leavesSuch (exec (.readAttention sender) s) (fun t => replied t [8, 0, 6, 0, 0, 0, 0] && t.attention.latches = 0) = true ∧
      leavesSuch (exec (.readCounters sender 1) s) (fun t => replied t (10 :: 0 :: List.replicate 18 0)) = true := by
  decide +kernel
theorem test_setting_requests :
    let s := { hub.setFlagRec .f { flags := 4, mask := 0, due := 0 } with
      attention := { hub.attention with mode := .pulse, pulse := .low, owed := 2 } }
    let m := { running cruise with state := .locked, output := .brake, bridge := .brake, queue := [] }
    let s := s.setMotor .b (some m)
    s.quiet ∧ s.canAnswer sender 2 ∧ m.silent ∧ m.state = .locked ∧ s.motor .b = some m ∧
      leavesSuch (exec (.setAttention sender 4095 0) s) (fun t =>
        replied t [9, 0] && t.attention = { hub.attention with mask := 4095, mode := .level, pulse := .gap, owed := 0 }) = true ∧
      leavesSuch (exec (.setFlagMask sender 5 31) s) (fun t =>
        replied t [11, 0] && t.flag .f = { flags := 4, mask := 31, due := 4 }) = true ∧
      leavesSuch (exec (.reflexArm sender 15) s) (fun t => replied t [6, 0] && (t.reflex 15).state = .armed) = true ∧
      leavesSuch (exec (.motorUnlock sender 1) s) (fun t =>
        replied t [5, 0] && t.motor .b = some { m with state := .idle }) = true := by decide +kernel
theorem test_refused_requests :
    hub.quiet ∧ hub.canAnswer sender 2 ∧
      ([(Instr.loadRoute sender 32 [0, 0, 0, 0], [2, 3]), (.loadRoute sender 31 [0, 0, 0], [2, 4]), (.read sender 17 0, [3, 2]),
        (.portReset sender 6 7, [4, 3]), (.portSuspend sender 5, [4, 7]), (.portResume sender 5 0, [4, 7]),
        (.selectMode sender 5 0, [4, 7]), (.motorUnlock sender 5, [5, 6]), (.reflexArm sender 16, [6, 3]),
        (.readFlags sender 6, [7, 3]), (.setAttention sender 4096 1, [9, 4]), (.setAttention sender 4095 2, [9, 4]),
        (.readCounters sender 2, [10, 3]), (.setFlagMask sender 5 32, [11, 4])] : List (Instr × List Byte)).all
          (fun e => leaves (exec e.1 hub) (hub.answered sender e.2)) = true ∧
      (busy.motor .b = some (running cruise) ∧ (running cruise).state ≠ .locked ∧
        leavesSuch (exec (.motorUnlock sender 1) busy) (fun t => replied t [5, 7]) = true) := by decide +kernel

/-! ## Loads -/

theorem test_records_read_back :
    classEntryOf PerClass.defaults.l.bytes = some PerClass.defaults.l ∧
      (running cruise).settings.inRange = true ∧
      motorSettingsOf (running cruise).settings.bytes = some (some (running cruise).settings) ∧
      portSettingsOf PortSettings.defaults.bytes = some PortSettings.defaults ∧
      breakpointsRise table4 = true ∧ calibrationOf (calibrationBytes table4) = some table4 ∧
      wavetableOf (wavetableBytes sawtoothTable) = sawtoothTable ∧
      supplySettingsOf SupplySettings.defaults.bytes = some SupplySettings.defaults ∧
      soundSettingsOf (SoundSettings.mk 256 65535).bytes = some (SoundSettings.mk 256 65535) := by decide +kernel

theorem test_loads_of_observers_read_back :
    let r := { Reflex.reset with cell := .sys 2, condition := .outside, t := -2147483648, t2 := 2147483647, state := .armed }
    let b := { Subscription.reset with cell := .port .e 3, period := 60000, deadband := 2147483647, active := true }
    reflexOf r.loadBytes = some r ∧ b.loadBytes.length = 13 ∧ subscriptionOf b.loadBytes = some { b with pending := true } ∧
      ceilingsOf [48, 48] = some (48, 48) := by decide +kernel

/-- The bytes of reflex 6 of 10 10.8, which watches B1. -/
def reflexBytes : List Byte := [5, 0] ++ leInt 800 ++ leInt 0 ++ leInt 100 ++ [1, 4, 0, 9, 255, 0, 1]

/-- The bytes of subscription 7 of 11 11.6 with a state code. -/
def subBytes (active : Byte) : List Byte := [5, 0, 8, 1] ++ le16 1000 ++ leInt 100 ++ le16 50 ++ [active]

theorem test_loads :
    hub.quiet ∧ hub.canAnswer sender 4 ∧
      leaves (exec (.loadRoute sender 31 (Route.pass 3).bytes) hub)
        ((hub.setRoute .controller 15 (.pass 3)).answered sender [2, 0, 0, 31]) = true ∧
      MotorClass.ofIndex 2 = some .l ∧ hub.motor .f = none ∧
      leavesSuch (exec (.loadMotorClass sender 2 PerClass.defaults.s.bytes) hub) (fun t =>
        replied t [2, 0, 1, 2] && t.classes.l = PerClass.defaults.s) = true ∧
      leavesSuch (exec (.loadPortSettings sender 5 { PortSettings.defaults with mode := some 7 }.bytes) hub) (fun t =>
        replied t [2, 0, 3, 5] && (t.port .f).settings.mode = some 7) = true ∧
      leavesSuch (exec (.loadCalibration sender 5 (calibrationBytes table4)) hub) (fun t =>
        replied t [2, 0, 4, 5] && t.calibration.get 5 = table4) = true ∧
      leavesSuch (exec (.loadWavetable sender 3 (wavetableBytes squareTable)) hub) (fun t =>
        replied t [2, 0, 5, 3] && t.wavetables.q3 = squareTable) = true ∧
      leavesSuch (exec (.loadEnvelope sender 7 (Envelope.mk 7 10 128 30).bytes) hub) (fun t =>
        replied t [2, 0, 6, 7] && t.envelopes.get 7 = Envelope.mk 7 10 128 30) = true := by decide +kernel
theorem test_loads_of_settings :
    let on := { hub with amp := .on, idleTimer := some 99000, speaker := 7 }
    leavesSuch (exec (.loadSupplySettings sender 0 (SupplySettings.mk 9000 8999 1000 4800).bytes) hub) (fun t =>
        replied t [2, 0, 9, 0] && t.supply.settings = SupplySettings.mk 9000 8999 1000 4800) = true ∧
      leavesSuch (exec (.loadEventRoutes sender 0 [1, 15]) hub) (fun t =>
        replied t [2, 0, 12, 0] && t.supply.eventRoute = some { link := .controller, channel := 15 }) = true ∧
      on.quiet ∧ on.canAnswer sender 4 ∧
      leavesSuch (exec (.loadSoundSettings sender 0 (SoundSettings.mk 256 1000).bytes) on) (fun t =>
        replied t [2, 0, 10, 0] && t.amp = .off && t.speaker = 0) = true ∧
      leavesSuch (exec (.loadSoundSettings sender 0 (SoundSettings.mk 256 1001).bytes) on) (fun t =>
        replied t [2, 0, 10, 0] && t.amp = .on) = true ∧
      (let g := { (running cruise).settings with lowWater := 1 }
       g.inRange = true ∧
        leavesSuch (exec (.loadMotorSettings sender 1 g.bytes) (hub.setMotor .b (some (running cruise)))) (fun t =>
          replied t [2, 0, 2, 1] && t.motor .b = some { running cruise with loaded := some g }) = true) ∧
      (reflexOf reflexBytes).map Reflex.cell = some (.port .b 1) ∧
      leavesSuch (exec (.loadReflex sender 15 reflexBytes) hub) (fun t =>
        replied t [2, 0, 7, 15] && (t.reflex 15).state = .armed && (t.reflex 15).t = 800) = true := by decide +kernel
theorem test_loads_of_subscription :
    (subBytes 0).length = 13 ∧ (subscriptionOf (subBytes 0)).map Subscription.cell = some (.port .b 1) ∧
      leavesSuch (exec (.loadSubscription sender 23 (subBytes 0)) hub) (fun t =>
        replied t [2, 0, 8, 23] && (t.sub 23).lastReport = some 100000 && (t.link .radio).normal.length = 1) = true ∧
      leavesSuch (exec (.loadSubscription sender 23 (subBytes 1)) hub) (fun t =>
        replied t [2, 0, 8, 23] && (t.sub 23).active = false && (t.link .radio).normal = []) = true ∧
      (let s := { hub.setLink .controller (freshLink false true) with free := 96 }
       let bs := (subBytes 0).set 1 1
       s.quiet ∧ s.canAnswer sender 4 ∧ (s.link .controller).up = false ∧
        leavesSuch (exec (.loadSubscription sender 0 bs) s) (fun t =>
          replied t [2, 0, 8, 0] && (t.sub 0).skipped = 1 && (t.sub 0).pending) = true) := by decide +kernel
theorem test_loads_of_ceilings :
    hub.quiet ∧ hub.linksSound ∧ hub.canAnswer sender 4 ∧
      leaves (exec (.loadLinkSettings sender 0 [31, 32]) hub) (hub.answered sender [2, 5]) = true ∧
      leaves (exec (.loadLinkSettings sender 0 [32, 32]) hub) (hub.answered sender [2, 0, 11, 0]) = true ∧
      leavesSuch (exec (.loadLinkSettings sender 0 [48, 32]) hub) (fun t =>
        t.free = 47 && (t.link .radio).outstanding = 48) = true ∧
      leavesSuch (exec (.loadLinkSettings sender 0 [32, 48]) hub) (fun t =>
        t.free = 47 && (t.link .controller).outstanding = 48) = true ∧
      leavesSuch (exec (.loadLinkSettings sender 0 [48, 48]) hub) (fun t =>
        t.free = 31 && (t.link .controller).outstanding = 48 && (t.link .radio).outstanding = 48) = true := by
  decide +kernel

/-! ## Ports -/

/-- A hub with this record on port C, which nothing watches. -/
def onC (r : PortRec) : State := hub.setPort .c r

/-- An ACTIVE port record of a class. -/
def activeAs (c : DeviceClass) (band : Band) : PortRec := { PortRec.reset 0 with state := .active, cls := c, band := band }

/-- The record of a smart port ACTIVE in mode 1. -/
def smartOn : PortRec :=
  { activeAs .smart 3 with description := some sensor, selectedMode := 1, lineRate := .r115200 }

/-- A message of a kind from the device, with its check bytes. -/
def answer (kind : Byte) (payload : List Byte) : LineReply :=
  { payload := payload, sum1 := u8 (lineCheck kind payload).1, sum2 := u8 (lineCheck kind payload).2 }

/-- The hub with two VALID cells on port C. -/
def shown (s : State) : State :=
  { s with cells := { s.cells with c := { s.cells.c with
      q0 := (Cell.reset 0).written 0 252 .valid .sensor, q1 := (Cell.reset 0).written 0 1000 .valid .sensor } } }

/-- The tags of port C's cells. -/
def tags (t : State) : List CellTag := [t.cells.c.q0.tag, t.cells.c.q1.tag, t.cells.c.q2.tag, t.cells.c.q3.tag]

/-- `s` with port C's next band reading 5 ms later. -/
def readOn (s : State) : State := s.setPort .c { s.port .c with nextReading := (s.port .c).nextReading + 5 }

theorem test_band_readings :
    hub.stillPort .c ∧ reached hub.hubTime (hub.port .c).nextReading = false ∧ leaves (exec (.idBandRead .c 3) hub) hub = true ∧
    (let hub := { hub with hubTime := 100005 }
     reached hub.hubTime (hub.port .c).nextReading = true ∧ leavesSuch (exec (.idBandRead .c 3) hub) (fun t =>
        (t.port .c).debounce = some { band := 3, start := 100005 }) = true ∧
      leaves (exec (.idBandRead .c 7) hub) (readOn hub) = true) ∧
      (let d := onC { PortRec.reset 0 with state := .detecting, debounce := some { band := 3, start := 99990 } }
       d.stillPort .c ∧ leaves (exec (.idBandRead .c 3) d) (readOn d) = true ∧
        leavesSuch (exec (.idBandRead .c 4) d) (fun t => (t.port .c).debounce = some { band := 4, start := 100000 }) = true ∧
        leaves (exec (.idBandRead .c 7) d) (((readOn d).portEmptied .c).noted d) = true) ∧
      (let a := onC { activeAs .touch 1 with bandWatch := some { band := 7, start := 99990 } }
       a.stillPort .c ∧ leaves (exec (.idBandRead .c 7) a) (readOn a) = true ∧
        leavesSuch (exec (.idBandRead .c 1) a) (fun t => (t.port .c).bandWatch = none) = true) := by decide +kernel
theorem test_band_watch_expires :
    let a := shown (onC { activeAs .light 2 with bandWatch := some { band := 7, start := 99950 } })
    let b := shown (onC { activeAs .light 2 with bandWatch := some { band := 0, start := 99950 } })
    a.stillPort .c ∧ (a.port .c).state.attached = true ∧ 50 ≤ elapsedSince a.hubTime 99950 ∧
      leavesSuch (exec (.bandWatchExpiry .c) a) (fun t =>
        (t.port .c).state = .empty && tags t = [.empty, .empty, .empty, .empty] && t.attention.latches = 4) = true ∧
      b.stillPort .c ∧
      leavesSuch (exec (.bandWatchExpiry .c) b) (fun t => (t.port .c).debounce = some { band := 0, start := 100000 }) = true ∧
      (let f := onC { PortRec.reset 0 with state := .fault, band := 3, bandWatch := some { band := 2, start := 99950 } }
       f.stillPort .c ∧ leavesSuch (exec (.bandWatchExpiry .c) f) (fun t =>
          (t.port .c).bandWatch = none && (t.port .c).state = .fault) = true) := by decide +kernel
theorem test_debounce_ends :
    let d (b : Band) (since : Time) : State :=
      onC { PortRec.reset 0 with state := .detecting, debounce := some { band := b, start := since } }
    (∀ b : Band, (d b 99950).stillPort .c) ∧ ((d 1 99950).flag .c).due = 0 ∧
      leaves (exec (.debounceExpiry .c 0) (d 1 99951)) (d 1 99951) = true ∧
      leavesSuch (exec (.debounceExpiry .c 2049) (d 1 99950)) (fun t =>
        (t.port .c).state = .active && t.cells.c.q0.value = 1 && t.attention.latches = 4) = true ∧
      leavesSuch (exec (.debounceExpiry .c 4095) (d 2 99950)) (fun t => t.cells.c.q0.value = 4095) = true ∧
      DeviceClass.ofBand 6 = .motor .l ∧
      leavesSuch (exec (.debounceExpiry .c 0) (d 6 99950)) (fun t => t.motor .c = some (freshMotor .l
        { countsPerRev := 360, ratedMax := 900, kp := 500, ki := 40, kf := 41000 } 100000)) = true ∧
      leavesSuch (exec (.debounceExpiry .c 0) (d 3 99950)) (fun t => (t.port .c).lineBreak = some 100000) = true ∧
      leavesSuch (exec (.debounceExpiry .c 0) (d 0 99950)) (fun t => (t.port .c).faultReason = .short) = true := by
  decide +kernel
theorem test_timeouts :
    let i := onC { PortRec.reset 0 with state := .identifying, identification := some 98500 }
    let c := onC { PortRec.reset 0 with state := .configuring, window := some { kind := .configure .r57600, start := 99800 } }
    let e := onC { smartOn with window := some { kind := .select, start := 99800 } }
    let w := (onC smartOn).setAcq .c { Acquisition.reset with watchdog := some 99000 }
    let f := onC { PortRec.reset 0 with state := .fault, recovery := some 99500 }
    [i, c, e, w, f].all (fun s => decide (s.stillPort .c)) = true ∧
      leavesSuch (exec (.identifyTimeout .c) i) (fun t => (t.port .c).faultReason = .identifyTimeout) = true ∧
      leavesSuch (exec (.configureTimeout .c) c) (fun t =>
        (t.port .c).faultReason = .configureTimeout && (t.flag .c).flags = 8) = true ∧
      leavesSuch (exec (.selectTimeout .c) e) (fun t =>
        (t.port .c).faultReason = .selectTimeout && (t.flag .c).flags = 8) = true ∧
      leavesSuch (exec (.sampleWatchdogExpiry .c) w) (fun t => (t.port .c).faultReason = .sampleTimeout) = true ∧
      leavesSuch (exec (.faultRecoveryExpiry .c 3) f) (fun t => (t.port .c).state = .detecting) = true ∧
      leavesSuch (exec (.faultRecoveryExpiry .c 7) f) (fun t => (t.port .c).state = .empty) = true := by decide +kernel
theorem test_identification :
    let b := onC { PortRec.reset 0 with state := .identifying, lineBreak := some 99980 }
    let q := onC { PortRec.reset 0 with state := .identifying, identification := some 99500, queryCount := 1 }
    let w := onC { PortRec.reset 0 with state := .identifying, window := some { kind := .query, start := 99999 } }
    [b, q, w].all (fun s => decide (s.stillPort .c)) = true ∧ (w.flag .c).due = 0 ∧ (w.acquisition .c).pollWindow = none ∧
      leavesSuch (exec (.lineBreakEnd .c) b) (fun t =>
        (t.port .c).lineSent = [0, 1, 1, 1] && (t.port .c).queryCount = 1) = true ∧
      leavesSuch (exec (.queryRetry .c) q) (fun t => (t.port .c).queryCount = 2) = true ∧
      replyGood 0x11 (answer 0x11 sensor.bytes) = true ∧ descriptionOf sensor.bytes = some sensor ∧
      leavesSuch (exec (.descriptionReceived .c (answer 0x11 sensor.bytes)) w) (fun t =>
        (t.port .c).state = .configuring && (t.port .c).lineSent.take 6 = [4, 2, 2, 1, 20, 0]) = true := by decide +kernel
/-- R51 and R55: the check bytes of a message, and a DESCRIPTION with each fault of R55 that is not its check. -/
theorem test_invalid_descriptions :
    let w := onC { PortRec.reset 0 with state := .identifying, window := some { kind := .query, start := 99999 } }
    let bytes (head : List Byte) (m : Mode) : List Byte := head ++ m.bytes
    let good : List Byte := [17, 0, 3, 0, 1]
    let faults : List (List Byte) :=
      [good, [17, 0, 3, 0, 0], [17, 0, 3, 0, 9], bytes [17, 0, 3, 1, 1] mode1, bytes good mode1 ++ [0],
        bytes good { mode1 with rawMin := 400 }, bytes good { mode1 with valueCount := 0 },
        bytes good { mode1 with valueCount := 5 }, (bytes good mode1).set 6 3]
    w.settled ∧ (w.acquisition .c).pollWindow = none ∧ (descriptionOf (bytes good mode1)).isSome = true ∧
      faults.all (fun bs => (descriptionOf bs).isNone && leaves (exec (.descriptionReceived .c (answer 0x11 bs)) w) w) = true ∧
      (descriptionOf (bytes good { mode1 with minInterval := 1001 })).map (fun d => d.modes.map Mode.minInterval) = some [1000] ∧
      replyGood 0x12 { payload := [7], sum1 := 26, sum2 := 46 } = true ∧
      replyGood 0x12 { payload := [7], sum1 := 26, sum2 := 47 } = false ∧
      lineMessage 4 [7] = [1, 4, 7, 12, 18] := by decide +kernel
theorem test_configuration :
    let c := onC { smartOn with state := .configuring, lineRate := .r9600
                                window := some { kind := .configure .r115200, start := 99900 } }
    let e := onC { smartOn with modeChange := some 1, window := some { kind := .select, start := 99900 } }
    let r := shown (onC { smartOn with modeChange := some 0 })
    [c, e, r].all (fun s => decide (s.stillPort .c)) = true ∧ replyGood 0x12 (answer 0x12 [1]) = true ∧
      leavesSuch (exec (.configureAccept .c (answer 0x12 [1])) c) (fun t =>
        (t.port .c).state = .active && (t.port .c).lineRate = .r115200 && (t.acquisition .c).nextDue = 100020) = true ∧
      leavesSuch (exec (.selectAccept .c (answer 0x12 [1])) e) (fun t =>
        (t.port .c).modeChange = none && (t.port .c).window = none) = true ∧
      (r.port .c).window = none ∧ [c, e, r].all (fun s => (s.acquisition .c).pollWindow = none) = true ∧
      leavesSuch (exec (.selectDeferredSend .c) r) (fun t =>
        (t.port .c).lineSent.take 3 = [1, 4, 0] && tags t = [.stale, .stale, .empty, .empty]) = true := by decide +kernel
/-- 10 10.2: at reset every reflex is DISABLED on A0; a write of A0 is noted by all of them and acted on by none. -/
theorem test_dormant_reflexes_note :
    let s := (hub.setPort .a (activeAs .light 2)).setAcq .a { Acquisition.reset with schedule := .analog, nextDue := 100000 }
    s.stillPort .a ∧ leavesSuch (exec (.analogSample .a 77) s) (fun t =>
      t.cells.a.q0.value = 77 && t.reflexes.all (fun r => r.lastValue = 77 && r.lastTag = .valid) &&
        t = ((s.setAcq .a { s.acquisition .a with nextDue := 100010 }).portWritten .a 0
          ((s.cell (.port .a 0)).written 100000 77 .valid .sensor) false).noted s) = true := by decide +kernel
/-- 03 3.6: a length byte above 250 makes the receiver deaf until its window closes. -/
theorem test_deaf_windows :
    let w (deaf : Bool) : State := onC { smartOn with window := some { kind := .select, start := 99990, deaf := deaf } }
    let p (deaf : Bool) : State :=
      (onC smartOn).setAcq .c { Acquisition.reset with schedule := .poll, pollWindow := some { closes := 100017, deaf := deaf } }
    let long := answer 0x12 (List.replicate 251 0)
    (w false).settled ∧ ((w false).acquisition .c).pollWindow = none ∧ ((p false).port .c).window = none ∧
      (lineCommands .c 0x12 long).all (fun c =>
        leaves (exec c (w false)) (w true) && leaves (exec c (p false)) (p true)) = true ∧
      (lineCommands .c 0x12 (answer 0x12 [1])).all (fun c =>
        leaves (exec c (w true)) (w true) && leaves (exec c (p true)) (p true)) = true ∧
      (∀ k : Fin 256, replyGood (BitVec.ofNat 8 k.val) { answer 0x12 [1] with sum1 := 99, sum2 := 98 } = false) ∧
      leaves (exec (.selectAccept .c { answer 0x12 [1] with sum1 := 99, sum2 := 98 }) (w false)) (w false) = true := by
  decide +kernel
theorem test_port_control :
    let a := shown (onC smartOn)
    a.quiet ∧ a.stillPort .c ∧ a.canAnswer sender 2 ∧ (a.flag .c).due = 0 ∧
      leavesSuch (exec (.portReset sender 2 7) a) (fun t => replied t [4, 0] && (t.port .c).state = .empty) = true ∧
      leavesSuch (exec (.portReset sender 2 5) a) (fun t => replied t [4, 0] && (t.port .c).state = .detecting) = true ∧
      leavesSuch (exec (.portSuspend sender 2) a) (fun t =>
        replied t [4, 0] && (t.port .c).state = .suspended && tags t = [.stale, .stale, .empty, .empty]) = true ∧
      leavesSuch (exec (.selectMode sender 2 0) a) (fun t =>
        replied t [4, 0] && (t.port .c).selectedMode = 0 && tags t = [.stale, .stale, .empty, .empty]) = true ∧
      (let w := a.setAcq .c { Acquisition.reset with pollWindow := some { closes := 100003 } }
       w.stillPort .c ∧ leavesSuch (exec (.selectMode sender 2 0) w) (fun t =>
          replied t [4, 0] && (t.port .c).modeChange = some 0 && (t.port .c).selectedMode = 1) = true) := by decide +kernel
theorem test_suspend_and_resume :
    let m := (onC (activeAs (.motor .m) 5)).setMotor .c (some (running cruise))
    let p (r : PortRec) : State := onC { r with state := .suspended }
    [m, p (activeAs .touch 1), p smartOn].all (fun s => decide (s.stillPort .c)) = true ∧
      leavesSuch (exec (.portSuspend sender 2) m) (fun t =>
        replied t [4, 0] && t.motor .c = some ((running cruise).stoppedIn .idle .coast)) = true ∧
      leavesSuch (exec (.portResume sender 2 2048) (p (activeAs .touch 1))) (fun t =>
        replied t [4, 0] && (t.port .c).state = .active && t.cells.c.q0.value = 0 && t.cells.c.q0.tag = .valid) = true ∧
      (let m' := (running cruise).stoppedIn .idle .brake
       let s := (p (activeAs (.motor .m) 5)).setMotor .c (some m')
       s.stillPort .c ∧ leavesSuch (exec (.portResume sender 2 0) s) (fun t =>
        replied t [4, 0] && (t.port .c).state = .active && t.motor .c = some (m'.stoppedIn .idle .coast)) = true) ∧
      leavesSuch (exec (.portResume sender 2 4095) (p (activeAs .light 2))) (fun t =>
        replied t [4, 0] && t.cells.c.q0.value = 4095) = true ∧
      leavesSuch (exec (.portResume sender 2 0) (shown (p smartOn))) (fun t =>
        replied t [4, 0] && (t.port .c).state = .configuring && tags t = [.empty, .empty, .empty, .empty]) = true := by
  decide +kernel

/-! ## Sampling -/

/-- A passive port C with a sample due now. -/
def sampling (r : PortRec) : State := (onC r).setAcq .c { Acquisition.reset with schedule := .analog, nextDue := 100000 }

theorem test_touch_boundary :
    (sampling (activeAs .touch 1)).stillPort .c ∧
      leavesSuch (exec (.analogSample .c 2048) (sampling (activeAs .touch 1))) (fun t =>
        t.cells.c.q0.value = 0 && (t.acquisition .c).nextDue = 100010) = true ∧
      leavesSuch (exec (.analogSample .c 2049) (sampling (activeAs .touch 1))) (fun t => t.cells.c.q0.value = 1) = true := by
  decide +kernel
/-- 04 4.7 and 4.8: table 3, within it, at its ends and beyond them. -/
theorem test_light_by_table :
    let g (q : RangePolicy) : PortSettings := { PortSettings.defaults with calibration := some 3, policy := q }
    let s (q : RangePolicy) : State :=
      { sampling { activeAs .light 2 with settings := g q } with
        calibration := hub.calibration.set 3 [{ raw := 1000, val := 0 }, { raw := 3000, val := 500 }] }
    let gives (q : RangePolicy) (raw : RawSample) (v : Int) (tag : CellTag) (range : Bool) : Bool :=
      leavesSuch (exec (.analogSample .c raw) (s q)) fun t =>
        t.cells.c.q0.value = v && t.cells.c.q0.tag = tag && (t.flag .c).flags.getLsbD 0 = range
    (s .saturate).stillPort .c ∧ gives .saturate 1733 183 .valid false ∧ gives .saturate 1000 0 .valid false ∧
      gives .saturate 3000 500 .valid false ∧ gives .saturate 999 0 .valid true ∧ gives .saturate 3001 500 .valid true ∧
      gives .indefinite 900 (-2147483648) .range true := by decide +kernel
/-- Table 4 of 04 4.7, of three breakpoints: both segments and where they meet. -/
theorem test_light_by_three_breakpoints :
    let s := { sampling { activeAs .light 2 with settings := { PortSettings.defaults with calibration := some 3 } } with
      calibration := hub.calibration.set 3 table4 }
    s.stillPort .c ∧ table4 = [{ raw := 200, val := -50 }] ++ { raw := 1000, val := 0 } :: { raw := 3000, val := 500 } :: [] ∧
      [(200, -50), (600, -25), (1000, 0), (2000, 250), (3000, 500)].all (fun (e : Fin 4096 × Int) =>
        leavesSuch (exec (.analogSample .c e.1) s) fun t => t.cells.c.q0.value = e.2 && (t.flag .c).flags = 0) = true := by
  decide +kernel
theorem test_light_without_table :
    leavesSuch (exec (.analogSample .c 4095) (sampling (activeAs .light 2))) (fun t => t.cells.c.q0.value = 4095) = true ∧
      leavesSuch (exec (.analogSample .c 7) (sampling { activeAs .light 2 with
        settings := { PortSettings.defaults with calibration := some 5 } })) (fun t => t.cells.c.q0.value = 7) = true := by
  decide +kernel
/-- 04 4.10: the samples at 3 and at 85. -/
theorem test_good_sample :
    let s := (onC smartOn).setAcq .c { Acquisition.reset with schedule := .poll, pollWindow := some { closes := 100017 }, missCount := 2 }
    let m (raw : List Byte) : LineReply := answer 0x13 (1 :: raw)
    s.stillPort .c ∧ replyGood 0x13 (m [101, 0, 144, 1]) = true ∧ (s.port .c).currentMode = some mode1 ∧
      sampleValues (s.port .c) (m [101, 0, 144, 1]).payload = some [101, 400] ∧
      leavesSuch (exec (.sampleReceived .c (m [101, 0, 144, 1])) s) (fun t =>
        t.cells.c.q0.value = 252 && t.cells.c.q1.value = 1000 && (t.acquisition .c).missCount = 0 &&
          tags t = [.valid, .valid, .empty, .empty]) = true ∧
      leavesSuch (exec (.sampleReceived .c (m [102, 0, 194, 1])) s) (fun t =>
        t.cells.c.q0.value = 255 && t.cells.c.q1.value = 1000 && (t.flag .c).flags = 1 && t.attention = s.attention) = true ∧
      leavesSuch (exec (.sampleReceived .c (m [102, 0, 194, 1])) (s.setFlagRec .c { flags := 0, mask := 1, due := 0 })) (fun t =>
        (t.flag .c).flags = 1 && t.attention.latches = 64) = true := by decide +kernel
theorem test_polling :
    let due := (onC smartOn).setAcq .c { Acquisition.reset with schedule := .poll, nextDue := 100000 }
    let s (n : Nat) : State :=
      (shown (onC smartOn)).setAcq .c { Acquisition.reset with schedule := .poll, pollWindow := some { closes := 100000 }, missCount := n }
    due.stillPort .c ∧ (s 2).stillPort .c ∧
      leavesSuch (exec (.pollDue .c) due) (fun t =>
        (t.port .c).lineSent = [0, 3, 3, 3] && (t.acquisition .c).pollWindow = some { closes := 100020 }) = true ∧
      replyGood 0x14 (answer 0x14 []) = true ∧
      leavesSuch (exec (.holdReceived .c (answer 0x14 [5, 5])) (s 0)) (fun t => (t.acquisition .c).missCount = 1) = true ∧
      leavesSuch (exec (.holdReceived .c (answer 0x14 [])) (s 0)) (fun t => (t.acquisition .c).missCount = 1) = true ∧
      leavesSuch (exec (.pollWindowClose .c) (s 1)) (fun t =>
        (t.acquisition .c).missCount = 2 && tags t = [.valid, .valid, .empty, .empty]) = true ∧
      leavesSuch (exec (.pollWindowClose .c) (s 2)) (fun t =>
        (t.acquisition .c).missCount = 3 && tags t = [.stale, .stale, .empty, .empty] && (t.flag .c).flags = 2) = true ∧
      leavesSuch (exec (.portLineMessageRejected .c 0x12 (answer 0x12 [1])) (s 1)) (fun t =>
        (t.flag .c).flags = 4 && (t.acquisition .c).pollWindow = some { closes := 100000 }) = true ∧
      replyGood 0x13 (answer 0x13 [1, 0, 0]) = true ∧
      leavesSuch (exec (.sampleReceived .c (answer 0x13 [1, 0, 0])) (s 1)) (fun t =>
        (t.flag .c).flags = 4 && (t.acquisition .c).missCount = 2 && (t.acquisition .c).pollWindow = none) = true ∧
      leavesSuch (exec (.sampleReceived .c (answer 0x13 [1, 0, 0])) (s 2)) (fun t =>
        (t.flag .c).flags = 6 && tags t = [.stale, .stale, .empty, .empty]) = true ∧
      leavesSuch (exec (.sampleReceived .c { answer 0x13 [1, 0, 0, 0, 0] with sum1 := 99 }) (s 1)) (fun t =>
        (t.flag .c).flags = 4 && (t.acquisition .c).missCount = 1 &&
          (t.acquisition .c).pollWindow = some { closes := 100000 }) = true ∧
      (let four := { smartOn with selectedMode := 0 }
       four.valueCount = 4 ∧
        leavesSuch (exec (.pollWindowClose .c) ((shown (onC four)).setAcq .c
          { Acquisition.reset with schedule := .poll, pollWindow := some { closes := 100000 }, missCount := 2 })) (fun t =>
            (t.flag .c).flags = 2) = true) := by decide +kernel

/-- R52: a hub whose port C is polled, with its POLL window open, meets the invariant of the port lines, and a step that closes
the window runs. -/
theorem test_lines_meet_in_a_polled_hub :
    let s := (onC smartOn).setAcq .c { Acquisition.reset with schedule := .poll, pollWindow := some { closes := 100000 } }
    s.linesSound ∧ leavesSuch (step { s with pending := [.pollWindowClose .c] }) (fun t =>
      (t.acquisition .c).pollWindow = none && (t.acquisition .c).schedule = .poll) = true :=
  ⟨fun p => by cases p <;> decide +kernel, by decide +kernel⟩

/-! ## Motion -/

/-- A hub with this motor on port B, of class MOTOR_M. -/
def driving (m : Motor) : State := (hub.setPort .b (activeAs (.motor .m) 5)).setMotor .b (some m)

/-- A motor at rest. -/
def resting : Motor := { running cruise with state := .idle, output := .coast, bridge := .coast, queue := [], x := 7 }

/-- A segment record: RUN_BY with delta 1, speed 100, accel 20000, no notice route. -/
def record : RawSegment :=
  { kind := 2, endAction := 1, speed := 100, position := 1, duty := 0, accel := 20000, duration := 0, routeLink := 255
    routeChannel := 0, tag := 12 }

/-- What port B's motor is after a command. -/
def motorAfter (c : Instr) (m : Motor) (f : Motor → Bool) : Bool :=
  leavesSuch (exec c (driving m)) fun t => match t.motor .b with
    | some m => f m
    | none => false

/-- A motor that holds. -/
def holding : Motor := { resting with state := .holding, output := .driven, bridge := .driven, v := 40, p := 7000 }

theorem test_motors_take_commands :
    (driving (running cruise)).settled ∧ (driving (running cruise)).takesMotion .b (running cruise) ∧
      (running cruise).silent ∧ (running cruise).consistent ∧ (parseSegment record).isSome = true ∧
      (driving holding).takesMotion .b holding ∧ holding.silent ∧ holding.consistent ∧
      (driving resting).takesMotion .b resting ∧ resting.silent ∧ resting.consistent := by
  refine ⟨?_, ?_, ?_, ?_, ?_, ?_, ?_, ?_, ?_, ?_, ?_⟩ <;> decide +kernel
theorem test_motor_commands :
    let m := running cruise
    let h := holding
    motorAfter (.append .b sender record) m (fun m => m.queue.map Segment.tag = [11, 12]) = true ∧
      motorAfter (.append .b sender record) resting (fun m => m.state = .running && m.target = some 8 && m.v = 0) = true ∧
      motorAfter (.append .b sender record) h (fun m => m.v = 40 && m.target = some 8) = true ∧
      motorAfter (.replace .b sender record) m (fun m => m.queue.map Segment.tag = [12]) = true ∧
      motorAfter (.replace .b sender record) resting (fun m => m.p = 7000) = true ∧
      motorAfter (.abort .b sender 2) m (fun m => m.state = .holding && m.holdAccel = 2000 && m.queue = []) = true ∧
      motorAfter (.abort .b sender 1) resting (fun m => m.output = .brake && m.state = .idle) = true ∧
      motorAfter (.abort .b sender 2) resting (fun m => m.state = .holding && m.p = 7000 && m.holdAccel = 20000) = true ∧
      motorAfter (.abort .b sender 2) h (fun m => m = h) = true ∧
      motorAfter (.zero .b sender) h (fun m => m.x = 0 && m.offset = 7 && m.p = 0) = true := by decide +kernel
theorem test_encoder_bounds :
    motorAfter (.encoderStep .b true) { resting with encoder := 2146999999 } (fun m => m.encoder = 2147000000) = true ∧
      motorAfter (.encoderStep .b true) { resting with encoder := 2147000000 } (fun m =>
        m.encoder = 2147000000 && m.discardNoted) = true ∧
      motorAfter (.encoderStep .b false) resting (fun m => m.encoder = -1) = true := by decide +kernel
theorem test_segment_checks :
    let raw : Segment := { cruise with kind := .runTo, speed := -1001, position := -2000000001, duty := 10001, accel := 99 }
    let h := raw.clamped 1000
    let top := { raw with speed := 1001, position := 2000000001, duty := -10001, accel := 20001 }.clamped 1000
    h.speed = -1000 ∧ h.position = -2000000000 ∧ h.duty = 10000 ∧ h.accel = 100 ∧
      top.speed = 1000 ∧ top.position = 2000000000 ∧ top.duty = -10000 ∧ top.accel = 20000 ∧
      (cruise.clamped 1000) = cruise ∧ parseSegment { record with kind := 4 } = none ∧
      parseSegment { record with endAction := 3 } = none ∧ parseSegment { record with routeLink := 2 } = none ∧
      parseSegment { record with speed := 0 } = none ∧ (parseSegment { record with kind := 0, speed := 0 }).isSome = true := by
  decide +kernel
theorem test_refusals :
    let shows (s : State) (c : Instr) (target code : Byte) (status : Byte) : Bool :=
      leavesSuch (exec c s) fun t => t.free = 63 && (t.link .radio).urgent =
        [{ channel := 3, kind := .notice, flags := 1, tag := 9, payload := [4, target, code, status] ++ le32 100000 }]
    let locked := { resting with state := .locked, output := .brake, bridge := .brake }
    let still := (driving resting).setPort .b { activeAs (.motor .m) 5 with state := .suspended }
    let full := { running cruise with queue := List.replicate 4 cruise }
    let rest : RawNote := { kind := 2, wavetable := 0, envelope := 0, frequency := 20, gain := 0, duration := 1
                            routeLink := 255, routeChannel := 0, tag := 0 }
    (driving locked).quiet ∧ ((driving locked).link .radio).up = true ∧ (driving locked).mgmt.inProgress = none ∧
      shows hub (.append .f sender { record with kind := 4 }) 5 1 1 = true ∧
      shows hub (.replace .f sender { record with kind := 4 }) 5 2 1 = true ∧ shows hub (.abort .a sender 3) 0 3 1 = true ∧
      shows hub (.zero .f sender) 5 4 6 = true ∧ shows hub (.abort .f sender 0) 5 3 6 = true ∧
      shows (driving locked) (.zero .b sender) 1 4 8 = true ∧ shows (driving locked) (.abort .b sender 0) 1 3 8 = true ∧
      shows still (.abort .b sender 0) 1 3 7 = true ∧ shows still (.append .b sender record) 1 1 7 = true ∧
      (let critical (m : Motor) : State := { driving m with supply := { hub.supply with state := .critical } }
       shows (critical resting) (.replace .b sender record) 1 2 7 = true ∧
        shows (critical locked) (.zero .b sender) 1 4 8 = true) ∧
      (let m := { resting with settings := { resting.settings with lossAction := .coast, watched := .either } }
       let s := { (driving m).setLink .controller (freshLink false true) with free := 96 }
       s.quiet ∧ leavesSuch (exec (.abort .b sender 1) s) (fun t => t.free = 95 && (t.link .radio).urgent =
        [{ channel := 3, kind := .notice, flags := 1, tag := 9, payload := [4, 1, 3, 7] ++ le32 100000 }]) = true) ∧
      shows (driving (running cruise)) (.zero .b sender) 1 4 7 = true ∧
      (driving full).takesMotion .b full ∧ shows (driving full) (.append .b sender record) 1 1 9 = true ∧
      shows hub (.queue 3 sender { rest with kind := 3 }) 19 1 1 = true ∧
      shows hub (.play 0 sender { rest with kind := 3 }) 16 2 1 = true ∧ (parseNote rest).isSome = true ∧
      shows (powered 5000 .critical) (.queue 0 sender rest) 16 1 7 = true ∧
      shows (powered 5000 .critical) (.play 0 sender rest) 16 2 7 = true ∧
      shows (hub.setVoice 1 { Voice.reset with state := .playing, notes := List.replicate 8 tone })
        (.queue 1 sender rest) 17 1 9 = true ∧
      shows hub (.setGain 0 sender 0) 16 5 7 = true := by decide +kernel
theorem test_period_at_rest :
    let m := { resting with encoder := 9, ring := 5 :: List.replicate 19 5, foldback := 9950 }
    let s := driving m
    s.stillPort .b ∧ (s.flag .b).due = 0 ∧ s.motor .b = some m ∧ m.output ≠ .driven ∧ m.loaded = none ∧
      motorAfter (.motorControlPeriod .b (-1500)) m (fun m => m.x = 9 && m.speed = 200 && m.foldback = 10000) = true ∧
      leavesSuch (exec (.motorControlPeriod .b 1500) s) (fun t =>
        t.cells.b.q0.value = 9 && t.cells.b.q1.value = 200 && t.cells.b.q2.value = 0 && t.cells.b.q3.value = 1) = true := by
  decide +kernel
/-- 07 7.7: a period whose profile step arrives at the worked case. -/
theorem test_running_period :
    let g := { cruise with speed := 500 }
    let m := { running g with v := 500, p := 120000, encoder := 118, integral := 40000, ring := List.replicate 20 108 }
    let s := { driving m with sys := (powered 6400 .normal).sys }
    s.stillPort .b ∧ s.motor .b = some m ∧ m.queue = [g] ∧ m.stallTimer + 1 < m.settings.stallTime ∧
      leavesSuch (exec (.motorControlPeriod .b 1499) s) (fun t => t.cells.b.q0.value = 118 && t.cells.b.q1.value = 500 &&
        t.cells.b.q2.value = 5224 && t.cells.b.q3.value = 2 &&
          (t.motor .b).map (fun m => (m.integral, m.foldback)) = some (42500, 10000)) = true := by decide +kernel
theorem test_period_not_due :
    let s := { driving (running cruise) with hubTime := 99999 }
    s.stillPort .b ∧ reached s.hubTime (running cruise).nextPeriod = false ∧
      [Instr.motorControlPeriod .b 0, .settleTimeout .b, .segmentDurationEnd .b, .stallDetected .b].all (fun c =>
        leaves (exec c s) s) = true := by decide +kernel
/-- The period leaves the motor of port B, which the cells show as `c`, as `after`. -/
def periodLeaves (m c after : Motor) : Bool :=
  decide ((driving m).stillPort .b) && leaves (exec (.motorControlPeriod .b 0) (driving m))
    (((driving m).periodLeft .b m c after).noted (driving m))
theorem test_driven_periods :
    let s := driving (running cruise)
    let m := running cruise
    let seg (k : SegmentKind) : Segment := { cruise with kind := k, duty := -5000, speed := 100, duration := 2 }
    let duty := { running (seg .runDuty) with ring := List.replicate 20 (-3), periodsRun := 1 }
    let move := { running (seg .runTo) with target := some 3 }
    let by' := { running (seg .runBy) with target := some 0, p := 0 }
    let settling := { running (seg .runTo) with
      state := .settling, target := some 2, queue := [seg .runTo, seg .runDuty], p := 2000 }
    let late := { settling with target := some 3, settlePeriods := 499 }
    let step := { { m.periodMeasured.steps 600 2000 with p := 2, periodsRun := 1 }.takesPath s 0 with v := 2 }
    let last := { duty.periodMeasured with p := 0, v := 150, periodsRun := 2 }.takesPath s 0
    let held := { holding.periodMeasured.steps 0 holding.holdAccel with p := 7020 }.takesPath s 0
    step.v = 2 ∧ periodLeaves m step step ∧
      periodLeaves duty last (last.endedWith .brake 2000) ∧ last.duty = -5000 ∧
      (let c := (move.periodMeasured.approaches 1000 3 (seg .runTo) []).takesPath s 0
       c.state = .running ∧ c.v = 2 ∧ c.periodsRun = 1 ∧ periodLeaves move c c) ∧
      (let c := (by'.periodMeasured.approaches 1000 0 (seg .runBy) []).takesPath s 0
       c.state = .idle ∧ c.output = .brake ∧ periodLeaves by' c c) ∧
      (let c := (settling.periodMeasured.settles 1000 2 (seg .runTo) [seg .runDuty]).takesPath s 0
       c.state = .running ∧ c.duty = -5000 ∧ c.queue = [seg .runDuty] ∧ periodLeaves settling c c) ∧
      (let c := (late.periodMeasured.settles 1000 3 (seg .runTo) [seg .runDuty]).takesPath s 0
       c.state = .running ∧ c.settlePeriods = 0 ∧ periodLeaves late c c) ∧
      holding.queue = [] ∧ held.v = 20 ∧ periodLeaves holding held held := by decide +kernel
theorem test_period_after_a_load :
    let g := { (running cruise).settings with lossAction := .brake }
    let m := { running cruise with loaded := some g }
    let down (m : Motor) : State := { (driving m).setLink .radio (freshLink false true) with free := 96 }
    let c := ({ m with settings := g, loaded := none }.periodMeasured.stoppedIn .idle .brake).rests 0
    (driving m).stillPort .b ∧ m.loaded = some g ∧ g.noticeRoute = none ∧ g.watched ≠ .controller ∧
      leavesSuch (exec (.motorControlPeriod .b 0) (driving m)) (fun t =>
        leaves (exec (.motorControlPeriod .b 0) (driving { m with settings := g, loaded := none })) t) = true ∧
      (down m).stillPort .b ∧
      leaves (exec (.motorControlPeriod .b 0) (down m)) (((down m).periodLeft .b m c c).noted (down m)) = true ∧
      (let away := { (driving m).setLink .controller (freshLink false true) with free := 96 }
       g.watched = .radio ∧ away.stillPort .b ∧ leavesSuch (exec (.motorControlPeriod .b 0) away) (fun t =>
        (t.motor .b).map (fun m => (m.state, m.loaded.isSome, m.settings.lossAction)) = some (.running, false, .brake)) = true) := by
  decide +kernel
theorem test_segment_ends :
    let settling := { running { cruise with kind := .runTo, speed := 100 } with
      state := .settling, target := some 3, settlePeriods := 499 }
    let timed := { running { cruise with duration := 2000 } with
      queue := [{ cruise with duration := 2000 }, { cruise with tag := 13 }], periodsRun := 1999, v := 600 }
    let jammed := { running cruise with stallTimer := 299 }
    [settling, timed, jammed].all (fun m => decide ((driving m).stillPort .b)) = true ∧
      settling.settings.tolerance < (settling.x - 3).natAbs ∧ settling.settings.settleTimeout ≤ settling.settlePeriods + 1 ∧
      motorAfter (.settleTimeout .b) settling (fun m => m.state = .idle && m.output = .brake && m.queue = []) = true ∧
      motorAfter (.segmentDurationEnd .b) timed (fun m =>
        m.queue.map Segment.tag = [13] && m.v = 600 && m.periodsRun = 0) = true ∧
      leavesSuch (exec (.stallDetected .b) (driving jammed)) (fun t =>
        (t.flag .b).flags = 16 && (t.motor .b).map (fun m => (m.state, m.bridge, m.stallTimer)) =
          some (.stalled, .coast, 0)) = true := by decide +kernel

/-! ## Supply -/

/-- 08 8.7: the first sagging measurement, and the changes at 260, 590 and 1630. -/
theorem test_supply :
    let w (st : SupplyState) (v : Int) (f c r : Option Time) : State :=
      { powered v st with
        supply := { hub.supply with state := st, ring := List.replicate 8 7000, nextMeasurement := 100000, fallTimer := f
                                    criticalTimer := c, riseTimer := r } }
    let s := w .normal 7000 none none none
    s.settled ∧ s.ignores (.sys 0) ∧ s.ignores (.sys 1) ∧ s.ignores (.sys 2) ∧ s.supply.eventRoute = none ∧
      reached s.hubTime s.supply.nextMeasurement = true ∧ s.supply.due 6875 s.hubTime = none ∧
      leavesSuch (exec (.supplyMeasurement 6000 1200) s) (fun t => t.sys.q0.value = 6875 && t.sys.q1.value = 1200 &&
        t.supply.nextMeasurement = 100010 && t.supply.fallTimer = none) = true ∧
      leavesSuch (exec (.supplyMeasurement 12000 0) { s with supply := hub.supply, hubTime := 100010 }) (fun t =>
        t.sys.q0.value = 12000 && t.sys.q2.value = 0 && t.sys.q2.tag = .valid) = true ∧
      leavesSuch (exec .supplyFallToLow (w .normal 6000 (some 99800) none none)) (fun t =>
        t.supply.state = .low && t.sys.q2.value = 1 && t.attention.latches = 128) = true ∧
      leavesSuch (exec .supplyRise (w .low 6500 none none (some 99000))) (fun t => t.supply.state = .normal) = true ∧
      leavesSuch (exec .supplyRise (w .critical 6500 none none (some 99000))) (fun t => t.supply.state = .low) = true ∧
      (let c := { w .low 5300 none (some 99950) none with
          amp := .on, motors := (driving (running cruise)).motors
          voices := { hub.voices with q2 := { Voice.reset with state := .playing, notes := [tone] } } }
       c.quiet ∧ c.ignores (.sys 2) ∧ (c.cell (.sys 0)).value < c.supply.settings.critical ∧
        leavesSuch (exec .supplyFallToCritical c) (fun t => t.supply.state = .critical && t.amp = .off &&
          (t.voice 2).state = .idle && t.motor .b = some ((running cruise).stoppedIn .idle .coast)) = true) := by
  decide +kernel

/-! ## Sound -/

/-- The record of `tone`. -/
def toneRecord : RawNote :=
  { kind := 0, wavetable := 0, envelope := 3, frequency := 440, gain := 200, duration := 50, routeLink := 255
    routeChannel := 0, tag := 4 }

/-- A hub with the amplifier ON and this record on voice 1. -/
def sounding (r : Voice) : State := (({ hub with amp := .on } : State).setVoice 1 r)

/-- What voice 1 is after a command. -/
def voiceAfter (c : Instr) (r : Voice) (f : Voice → Bool) : Bool := leavesSuch (exec c (sounding r)) fun t => f (t.voice 1)

/-- R139: the clamps of a note, the ways in which one is malformed, and the fields that a kind does not use. -/
theorem test_note_checks :
    let clamped (f g : BitVec 16) : Option (Nat × Nat) :=
      (parseNote { toneRecord with frequency := f, gain := g }).map fun n => (n.frequency, n.gain)
    let stream := { toneRecord with kind := 1, wavetable := 9, envelope := 9, duration := 0 }
    clamped 19 257 = some (20, 256) ∧ clamped 8001 256 = some (8000, 256) ∧ clamped 20 0 = some (20, 0) ∧
      [{ toneRecord with kind := 3 }, { toneRecord with wavetable := 4 }, { toneRecord with envelope := 8 },
        { toneRecord with duration := 0 }, { toneRecord with kind := 2, duration := 0 }, { toneRecord with routeLink := 2 },
        { toneRecord with routeLink := 1, routeChannel := 16 }].all (fun r => (parseNote r).isNone) = true ∧
      (parseNote stream).isSome = true ∧ (parseNote { stream with kind := 2, duration := 1 }).isSome = true ∧
      (parseNote { toneRecord with routeLink := 1, routeChannel := 15 }).bind Note.route =
        some { link := .controller, channel := 15 } := by decide +kernel
theorem test_notes_placed :
    let r := { Voice.reset with state := .playing, notes := [tone], level := 9 }
    hub.settled ∧ hub.supply.state ≠ .critical ∧ parseNote toneRecord = some tone ∧
      leavesSuch (exec (.queue 1 sender toneRecord) hub) (fun t =>
        (t.voice 1).state = .waitingAmp && t.amp = .warming 100000) = true ∧
      voiceAfter (.queue 1 sender toneRecord) Voice.reset (fun r => r.state = .playing && r.notes = [tone]) = true ∧
      voiceAfter (.queue 1 sender toneRecord) r (fun r => r.notes = [tone, tone] && r.level = 9) = true := by decide +kernel
theorem test_sound_commands :
    let r := { Voice.reset with state := .playing, notes := [tone, tone], level := 9, loopOn := true }
    let q := { r with notes := [{ tone with kind := .rest }] }
    (sounding r).settled ∧ ((sounding r).voice 1).silent ∧ ((sounding r).voice 1).stream = [] ∧
      voiceAfter (.play 1 sender toneRecord) r (fun r => r.notes = [tone] && r.level = 0 && !r.loopOn) = true ∧
      voiceAfter (.stopCut 1 sender) r (fun r => r.state = .idle && r.notes = []) = true ∧
      voiceAfter (.stopCut 1 sender) Voice.reset (fun r => r = Voice.reset) = true ∧
      voiceAfter (.stopRelease 1 sender) Voice.reset (fun r => r = { Voice.reset with stopMarker := true }) = true ∧
      voiceAfter (.stopRelease 1 sender) q (fun r => r.state = .idle) = true ∧
      (hub.envelopes.get 3).release ≠ 0 ∧
      voiceAfter (.stopRelease 1 sender) r (fun r => r.state = .releasing && r.stopMarker && r.notes = [tone]) = true ∧
      voiceAfter (.setGain 1 sender 300) r (fun r => r.notes = [{ tone with gain := 256 }, tone]) = true ∧
      voiceAfter (.setLoop 1 sender 0) r (fun r => !r.loopOn) = true ∧
      voiceAfter (.setLoop 1 sender 1) Voice.reset (fun r => r.loopOn) = true := by decide +kernel
theorem test_sound_commands_free_the_stream :
    let f : Frame := { small with kind := .stream, payload := [1, 0] }
    let n := { tone with kind := .stream }
    let s (r : Voice) : State := { sounding { r with stream := [f, f] } with free := 62 }
    let idle := { Voice.reset with loopOn := true }
    let at' (st : VoiceState) (n : Note) : Voice := { Voice.reset with state := st, notes := [n, tone], loopOn := true }
    (s idle).quiet ∧ (s (at' .playing n)).quiet ∧ ((s (at' .playing n)).voice 1).silent ∧
      leavesSuch (exec (.stopCut 1 sender) (s idle)) (fun t => t.free = 64 && t.voice 1 = idle) = true ∧
      leavesSuch (exec (.stopRelease 1 sender) (s idle)) (fun t =>
        t.free = 64 && t.voice 1 = { Voice.reset with stopMarker := true }) = true ∧
      leavesSuch (exec (.stopRelease 1 sender) (s (at' .playing n))) (fun t => t.free = 63 &&
        t.voice 1 = { Voice.reset with state := .releasing, notes := [n], stream := [f], stopMarker := true }) = true ∧
      leavesSuch (exec (.stopRelease 1 sender) (s (at' .releasing tone))) (fun t => t.free = 64 &&
        t.voice 1 = { Voice.reset with state := .releasing, notes := [tone], stopMarker := true }) = true ∧
      [VoiceState.waitingAmp, .starved].all (fun st =>
        leavesSuch (exec (.stopRelease 1 sender) (s (at' st n))) fun t => t.free = 64 &&
          t.voice 1 = { Voice.reset with stopMarker := true }) = true ∧
      leavesSuch (exec (.stopRelease 1 sender) (s (at' .playing tone))) (fun t =>
        t.voice 1 = { Voice.reset with stopMarker := true, envPhase := .release }) = true ∧
      leavesSuch (exec (.play 1 sender toneRecord) (s (at' .playing n))) (fun t =>
        t.free = 64 && (t.voice 1).notes = [tone] && (t.voice 1).stream = [] && (t.voice 1).nextStep = 100001) = true := by
  decide +kernel
theorem test_amplifier :
    let warm := { hub with amp := .warming 99980 }
    let on := { hub with amp := .on, idleTimer := some 98000 }
    warm.settled ∧ (∀ w, (warm.voice w).state = .idle) ∧ warm.sound.idleOff ≠ 0 ∧
      leavesSuch (exec .ampWarmupComplete warm) (fun t => t.amp = .on && t.idleTimer = some 100000) = true ∧
      (let v := warm.setVoice 1 { Voice.reset with state := .waitingAmp, notes := [tone] }
       (v.envelopes.get tone.envelope).attack ≠ 0 ∧ (∀ w, w ≠ 1 → (v.voice w).state ≠ .waitingAmp) ∧
        leavesSuch (exec .ampWarmupComplete v) (fun t =>
          (t.voice 1).state = .playing && (t.voice 1).nextStep = 100001 && t.amp = .on) = true) ∧
      leavesSuch (exec .ampIdleOff on) (fun t => t.amp = .off && t.idleTimer = none) = true := by decide +kernel
/-- R142 and R159: as the amplifier enters ON every waiting voice plays, a tone with an attack of 0 at its level; no earlier than
20 ms. -/
theorem test_waiting_voices :
    let wait (n : Note) : Voice := { Voice.reset with state := .waitingAmp, notes := [n] }
    let s (start : Time) : State :=
      { hub with
        amp := .warming start, envelopes := hub.envelopes.set 5 { attack := 0, decay := 0, sustain := 128, release := 20 }
        voices := { q0 := wait { tone with kind := .stream }, q1 := wait { tone with envelope := 5 }
                    q2 := wait { tone with kind := .rest }, q3 := wait tone } }
    (s 99980).settled ∧ leaves (exec .ampWarmupComplete (s 99981)) (s 99981) = true ∧
      leavesSuch (exec .ampWarmupComplete (s 99980)) (fun t => t.amp = .on && allVoices.all (fun v =>
        (t.voice v).state = .playing && (t.voice v).nextStep = 100001) &&
          allVoices.map (fun v => ((t.voice v).level, (t.voice v).envPhase)) =
            [(0, .attack), (32768, .sustain), (0, .attack), (0, .attack)]) = true := by decide +kernel
/-- 09 9.4, with the default envelope at the first step and the last. -/
theorem test_envelope_steps :
    let r := { Voice.reset with state := .playing, notes := [tone] }
    (sounding r).settled ∧ tone.kind = .tone ∧ ((sounding r).envelopes.get 3).attack = 5 ∧ tone.duration ≤ 65535 ∧
      reached (sounding r).hubTime r.nextStep = true ∧
      voiceAfter (.envelopeStep 1) { r with nextStep := 100000 } (fun r =>
        r.level = 13056 && r.elapsed = 1 && r.nextStep = 100001) = true ∧
      (let late := { r with nextStep := 100001, elapsed := 49 }
       [Instr.envelopeStep 1, .noteDurationEnd 1].all (fun c => leaves (exec c (sounding late)) (sounding late)) = true) ∧
      voiceAfter (.envelopeStep 1) { r with state := .releasing, envPhase := .release, level := 3265 } (fun r =>
        r.level = 1 && r.state = .releasing) = true ∧
      (let e := { sounding { r with envPhase := .decay, level := 65280 } with
          envelopes := hub.envelopes.set 3 (Envelope.mk 7 10 128 30) }
       leavesSuch (exec (.envelopeStep 1) e) (fun t => (t.voice 1).level = 62028) = true) ∧
      voiceAfter (.envelopeStep 1) { r with elapsed := 4, level := 52224 } (fun r =>
        r.level = 65280 && r.envPhase = .sustain && r.state = .playing) = true ∧
      voiceAfter (.envelopeStep 1) { r with envPhase := .sustain, level := 65280 } (fun r =>
        r.level = 65280 && r.elapsed = 1) = true ∧
      voiceAfter (.envelopeStep 1) { r with elapsed := 49, envPhase := .sustain, level := 65280 } (fun r =>
        r.state = .releasing && r.envPhase = .release) = true ∧
      voiceAfter (.envelopeStep 1) { r with state := .releasing, envPhase := .release, level := 3264 } (fun r =>
        r.state = .idle && r.notes = []) = true ∧
      voiceAfter (.envelopeStep 1) { r with state := .releasing, envPhase := .release, level := 3264, loopOn := true } (fun r =>
        r.state = .playing && r.elapsed = 0 && r.notes = [tone]) = true ∧
      voiceAfter (.envelopeStep 1) { r with elapsed := 49, notes := [{ tone with kind := .rest }] } (fun r =>
        r.state = .idle) = true ∧
      (let stream := { r with notes := [{ tone with kind := .stream }] }
       leaves (exec (.envelopeStep 1) (sounding stream)) (sounding stream) = true) ∧
      voiceAfter (.noteDurationEnd 1) { r with elapsed := 49, level := 5 } (fun r => r.state = .releasing) = true ∧
      voiceAfter (.noteDurationEnd 1) { r with elapsed := 49, notes := [{ tone with kind := .rest }] } (fun r =>
        r.state = .idle) = true ∧
      voiceAfter (.starvedTimeout 1) { r with state := .starved, starvedSince := 99500
                                              notes := [{ tone with kind := .stream }] } (fun r => r.state = .idle) = true := by
  decide +kernel
/-- 09 9.4: sample 4 of the worked tone at the mixer. -/
theorem test_output_sample :
    let r := { Voice.reset with
      state := .playing, notes := [tone], level := 65280, phase := 472446404, increment := 118111601 }
    (sounding r).settled ∧
      leavesSuch (exec .outputSample (sounding r)) (fun t =>
        t.speaker = 16175 && (t.voice 1).phase = 590558005 && t.clips = 0) = true ∧
      leavesSuch (exec .outputSample { sounding r with amp := .off }) (fun t => t.speaker = 0) = true := by decide +kernel
/-- 09 9.5: a U8R sample at 8000 Hz is used twice, and the voice starves after the last use of a frame without END. -/
theorem test_stream_samples :
    let f : Frame := { small with kind := .stream, payload := [2, 1, 255] }
    let s (second : Bool) : State :=
      { sounding { Voice.reset with
          state := .playing, notes := [{ tone with kind := .stream, gain := 256 }], stream := [f], secondUse := second } with
        free := 63 }
    (s false).conserved ∧
      leavesSuch (exec .outputSample (s false)) (fun t => t.speaker = 32767 && (t.voice 1).secondUse && t.free = 63) = true ∧
      leavesSuch (exec .outputSample (s true)) (fun t => t.speaker = 32767 && (t.voice 1).state = .starved &&
        (t.voice 1).underruns = 1 && (t.voice 1).stream = [] && t.free = 64) = true := by decide +kernel

/-- 09 9.5: the ends of a stream's frames: END, STOP_RELEASE, a malformed frame before a good one, and an empty queue. -/
theorem test_stream_ends :
    let n := { tone with kind := .stream, gain := 256 }
    let f (flags : Byte) (payload : List Byte) : Frame := { small with kind := .stream, flags := flags, payload := payload }
    let s (st : VoiceState) (fs : List Frame) : State :=
      { sounding { Voice.reset with state := st, notes := [n, tone], stream := fs } with free := 64 - fs.length }
    let good := f 0 [0, 0, 0, 128, 1, 0]
    (s .playing [good]).quiet ∧ good.wellFormedStream ∧ good.samples = 2 ∧ good.sample 0 = -32768 ∧ good.sample 1 = 1 ∧
      (f 0 [1, 0, 0]).sample 0 = -32768 ∧ ¬(f 0 [0, 0, 1]).wellFormedStream ∧ (∀ w, w ≠ 1 → ((s .playing []).voice w).state = .idle) ∧
      leavesSuch (exec .outputSample (s .playing [good])) (fun t =>
        t.speaker = -32768 && (t.voice 1).playIndex = 1 && t.free = 63) = true ∧
      leavesSuch (exec .outputSample (s .playing [f 2 [1, 0, 129]])) (fun t =>
        t.speaker = 256 && (t.voice 1).notes = [tone] && (t.voice 1).state = .playing && t.free = 64) = true ∧
      leavesSuch (exec .outputSample (s .releasing [f 0 [1, 0, 129], good])) (fun t =>
        (t.voice 1).notes = [tone] && (t.voice 1).stream = [good]) = true ∧
      leavesSuch (exec .outputSample (s .playing [f 0 [3, 0], good])) (fun t =>
        t.speaker = -32768 && (t.voice 1).formatErrors = 1 && (t.voice 1).stream = [good] && t.free = 63) = true ∧
      leavesSuch (exec .outputSample (s .playing [f 0 [1, 0]])) (fun t =>
        t.speaker = 0 && (t.voice 1).state = .starved && (t.voice 1).formatErrors = 0) = true ∧
      leavesSuch (exec .outputSample (s .playing [])) (fun t =>
        (t.voice 1).state = .starved && (t.voice 1).underruns = 1 && (t.voice 1).starvedSince = 100000) = true ∧
      leavesSuch (exec .outputSample (s .releasing [])) (fun t => (t.voice 1).notes = [tone]) = true := by decide +kernel

/-! ## Reflexes and subscriptions -/

/-- Reflex 6 of 10 10.8. -/
def hysteretic : Reflex :=
  { Reflex.reset with
    cell := .port .b 1, t := 800, hysteresis := 100, mode := .rearm, action := .sendEvent { link := .radio, channel := 9 }
    state := .armed }

/-- A write of B1. -/
def speedWrite (v : Int) (tag : CellTag) : Write := { cell := .port .b 1, left := (Cell.reset 0).written 0 v tag .motor }

theorem test_reflex_conditions :
    let r (c : Condition) : Reflex := { hysteretic with condition := c, t := 1, t2 := 3, lastValue := 0, lastTag := .valid }
    let c (v : Int) (tag : CellTag) : Cell := (speedWrite v tag).left
    [0, 1, 2, 3, 4].map (fun v => [Condition.above, .below, .inside, .outside, .riseThrough].map fun k =>
      (r k).holds (c v .valid)) =
      [[false, true, false, true, false], [false, false, true, false, true], [true, false, true, false, true],
        [true, false, true, false, true], [true, false, false, true, true]] ∧
      (r .notValid).holds (c 9 .stale) = true ∧ (r .above).holds (c 9 .range) = false ∧
      ({ r .fallThrough with lastValue := 2 }).holds (c 1 .valid) = true := by decide +kernel
/-- 10 10.3: the re-arm tests of ABOVE, BELOW, INSIDE and OUTSIDE with a hysteresis of 1, at and beside their bounds. -/
theorem test_rearm_tests :
    let r (c : Condition) : Reflex := { hysteretic with condition := c, t := 3, t2 := 6, hysteresis := 1 }
    [1, 2, 4, 5, 7, 8].map (fun v => [Condition.above, .below, .inside, .outside, .notValid, .riseThrough].map fun k =>
      (r k).rearmTest (speedWrite v .valid).left) =
      [[true, false, true, false, true, false], [false, false, false, false, true, false],
        [false, false, false, true, true, false], [false, true, false, true, true, false],
        [false, true, false, false, true, false], [false, true, true, false, true, false]] ∧
      (r .notValid).rearmTest (speedWrite 9 .stale).left = false := by decide +kernel
/-- 10 10.4: the outcome of each action, and the REFLEX_FIRED event behind it. -/
theorem test_reflex_outcomes :
    let fires (s : State) (a : ReflexAction) : State :=
      evaluateReflex (speedWrite 850 .valid) (s.setReflex 6 { hysteretic with action := a }) 6
    let out (s : State) (a : ReflexAction) : ReflexOutcome := ((fires s a).reflex 6).lastOutcome
    let m := running cruise
    let locked := { resting with state := .locked, output := .brake, bridge := .brake }
    let still := (driving resting).setPort .b { activeAs (.motor .m) 5 with state := .suspended }
    let low (s : State) : State := { s with supply := { s.supply with state := .critical } }
    let e : Endpoint := { link := .controller, channel := 4 }
    [out (driving m) (.motorReplace .b { record with kind := 4 }), out hub (.motorStop .b .hold true),
      out (driving locked) (.motorReplace .b record), out still (.motorStop .b .coast false), out (low still) (.motorReplace .b record),
      out (low (driving m)) (.motorReplace .b record), out (driving m) (.motorReplace .b record),
      out hub (.voicePlay 1 { toneRecord with kind := 3 }), out (low hub) (.voicePlay 1 toneRecord),
      out hub (.voicePlay 1 toneRecord), out hub (.voiceStop 1 true)] =
      [.refused .badFormat, .noTarget, .refused .locked, .noTarget, .noTarget, .refused .wrongState, .done,
        .refused .badFormat, .refused .wrongState, .done, .done] ∧
      (driving m).takesMotion .b m ∧
      (fires (driving m) (.motorStop .b .hold true)).motor .b = some (m.stoppedIn .locked .brake) ∧
      (fires (driving m) (.motorStop .b .coast false)).motor .b = some (m.endedWith .coast 2000) ∧
      (fires hub (.voicePlay 1 toneRecord)).voices.q1.notes = [tone] ∧
      (let t := evaluateReflex (speedWrite 850 .valid)
        (hub.setReflex 6 { hysteretic with action := .motorStop .b .hold true, eventOnFire := some e }) 6
       (t.link .controller).urgent = [{ channel := 4, kind := .event, flags := 1, tag := 0
                                        payload := [4, 6, 5, 1] ++ leInt 850 ++ [2, 0, 1] ++ le32 0 }]) := by decide +kernel
/-- 10 10.8: the firing at 850, the re-arm at 650 and the event that found RADIO DOWN. -/
theorem test_reflex_firing :
    let s (r : Reflex) : State := hub.setReflex 6 r
    (s hysteretic).conserved ∧ (s hysteretic).mgmt.inProgress = none ∧ hysteretic.holds (speedWrite 850 .valid).left = true ∧
      hysteretic.holds (speedWrite 800 .valid).left = false ∧
      (let t := evaluateReflex (speedWrite 850 .valid) (s hysteretic) 6
       (t.reflex 6).state = .fired ∧ (t.reflex 6).fireCount = 1 ∧ (t.reflex 6).lastOutcome = .done ∧ t.free = 63 ∧
        (t.link .radio).urgent.length = 1 ∧ t.attention.latches = 2048) ∧
      (evaluateReflex (speedWrite 700 .valid) (s { hysteretic with state := .fired }) 6).reflex 6 =
        { hysteretic with state := .fired, lastValue := 700, lastTag := .valid } ∧
      ((evaluateReflex (speedWrite 650 .valid) (s { hysteretic with state := .fired }) 6).reflex 6).state = .armed ∧
      ((evaluateReflex (speedWrite 850 .valid) (lone.setReflex 6 hysteretic) 6).reflex 6).lastOutcome = .noTarget ∧
      ((evaluateReflex (speedWrite 850 .valid) (s { hysteretic with state := .disabled }) 6).reflex 6).lastValue = 850 := by
  decide +kernel

/-- A hub with a TOUCH device on port C, a sample due, that nothing watches. -/
def touching : State := sampling (activeAs .touch 1)

/-- R83 and R168: the write that a sample makes fires the ARMED reflex on its cell, and only notes one that does not hold. -/
theorem test_sample_fires_a_reflex :
    let r : Reflex := { hysteretic with cell := .port .c 0, t := 0 }
    touching.stillPort .c ∧ touching.quiet ∧ (touching.port .c).cls = .touch ∧ touching.mgmt.inProgress = none ∧
      r.holds ((touching.touched .c 2049).cell (.port .c 0)) = true ∧
      leavesSuch (exec (.analogSample .c 2049) (touching.setReflex 6 r)) (fun t =>
        (t.reflex 6).state = .fired && (t.reflex 6).lastOutcome = .done && t.free = 63 && t.attention.latches = 2048 &&
          (t.link .radio).urgent.map Frame.payload = [[5, 6, 8, 1] ++ leInt 1 ++ le32 100000]) = true ∧
      leavesSuch (exec (.analogSample .c 2048) (touching.setReflex 6 r)) (fun t =>
        t.reflex 6 = { r with lastTag := .valid } && t.free = 64) = true := by decide +kernel

/-- Subscription 7 of 11 11.6, last reported 600 at 100000 − n. -/
def speedSub (n : Nat) : Subscription :=
  { Subscription.reset with
    cell := .port .b 1, target := { link := .radio, channel := 8 }, deadband := 100, minInterval := 50, active := true
    lastValue := 600, lastTag := .valid, lastReport := some (100000 - BitVec.ofNat 32 n) }

theorem test_subscriptions :
    let s (b : Subscription) : State := hub.setSub 7 b
    let p := { speedSub 50 with mode := .periodic, nextExpiry := some 100000 }
    let due := { speedSub 50 with pending := true, attemptDue := true }
    let w := fun (v : Int) => speedWrite v .valid
    (s p).quiet ∧ ((s p).sub 7).cell ≠ .sys 3 ∧ reached 100000 100000 = true ∧
      leavesSuch (exec (.subscriptionPeriodExpiry 7) (s p)) (fun t => t.free = 63 && (t.link .radio).normal.length = 1 &&
        (t.sub 7).nextExpiry = some 101000 && !(t.sub 7).pending) = true ∧
      leavesSuch (exec (.subscriptionIntervalEnd 7) (s due)) (fun t => (t.sub 7).lastReport = some 100000) = true ∧
      leavesSuch (exec (.subscriptionIntervalEnd 7) (lone.setSub 7 due)) (fun t =>
        (t.sub 7).skipped = 1 && (t.sub 7).pending) = true ∧
      leavesSuch (exec (.subscriptionPeriodExpiry 7) (lone.setSub 7 p)) (fun t => (t.sub 7).skipped = 1) = true ∧
      (observeSub (w 700) (s (speedSub 49)) 7).sub 7 = speedSub 49 ∧
      ((observeSub (w 701) (s (speedSub 49)) 7).sub 7).attemptDue = true ∧
      [SubMode.periodic, .change, .both].map (fun m =>
        ((observeSub (w 701) (s { speedSub 50 with mode := m }) 7).link .radio).normal.length) = [0, 1, 1] ∧
      ((observeSub (w 701) (lone.setSub 7 (speedSub 50)) 7).sub 7).skipped = 1 := by decide +kernel
/-- R83 and R179: the write that a sample makes reaches the ACTIVE subscription on its cell. -/
theorem test_sample_is_reported :
    let b : Subscription := { speedSub 50 with cell := .port .c 0, deadband := 0, lastValue := 0 }
    touching.stillPort .c ∧ touching.quiet ∧ (touching.acquisition .c).schedule = .analog ∧
      leavesSuch (exec (.analogSample .c 2049) (touching.setSub 7 b)) (fun t =>
        t.free = 63 && (t.link .radio).normal.map Frame.payload = [[7, 8, 1] ++ leInt 1 ++ le32 100000 ++ [1, 0, 0] ++ le32 100000]
          && (t.sub 7).lastValue = 1 && !(t.sub 7).pending) = true ∧
      leavesSuch (exec (.analogSample .c 2048) (touching.setSub 7 b)) (fun t => t.sub 7 = b && t.free = 64) = true ∧
      leavesSuch (exec (.analogSample .c 2049) (touching.setSub 7 { b with lastReport := some 99951 })) (fun t =>
        (t.sub 7).attemptDue && t.free = 64) = true := by decide +kernel
/-- R182 and R185: two subscriptions report one write of S3. Both carry the value that the write left; the page of the first
wrote S3 again, so that the second carries one more update. -/
theorem test_reports_of_s3 :
    let b : Subscription := { speedSub 50 with cell := .sys 3, deadband := 0, lastValue := 64 }
    let w : Write := { cell := .sys 3, left := (hub.cell (.sys 3)).valueWrite 100000 63 .valid .pool }
    let s : State := { (((hub.setCell (.sys 3) w.left).setSub 4 b).setSub 7 b).setLink .radio
      { hub.link .radio with normal := [small] } with free := 63 }
    s.conserved ∧ ((observeSubs w s).link .radio).normal.tail.map (fun f => f.payload.take 12) =
      [[4, 27, 1] ++ leInt 63 ++ le32 100000 ++ [3], [7, 27, 1] ++ leInt 63 ++ le32 100000 ++ [4]] := by decide +kernel

/-! ## Notices and events of 13 13.3 -/

/-- A route to RADIO, channel 4. -/
def to4 : Option Endpoint := some { link := .radio, channel := 4 }

/-- Hub time 100000, low byte first. -/
def timeBytes : List Byte := [0xA0, 0x86, 1, 0]

/-- RADIO's urgent queue in `t` is that of `s` with frames of a kind for `to4` behind it, each of one page, with these tags and
these payloads before the hub time. -/
def sentAfter (s t : State) (kind : FrameKind) (fs : List (Byte × List Byte)) : Bool :=
  t.free + fs.length = s.free && (t.link .radio).urgent = (s.link .radio).urgent ++ fs.map fun f =>
    { channel := 4, kind := kind, flags := 1, tag := f.1, payload := f.2 ++ timeBytes }

/-- The command sends these frames. -/
def sends (c : Instr) (s : State) (kind : FrameKind) (fs : List (Byte × List Byte)) : Bool :=
  leavesSuch (exec c s) fun t => sentAfter s t kind fs

/-- A running motor at position 7 with two segments, their notices and the motor's to `to4`, and a low-water mark of 1. -/
def telling : Motor :=
  let m := running { cruise with duration := 2000 }
  { m with
    x := 7, queue := [{ cruise with duration := 2000, route := to4 }, { cruise with route := to4, tag := 12 }]
    settings := { m.settings with noticeRoute := to4, lowWater := 1 } }

/-- `telling` at rest. -/
def tellingStill : Motor := { telling with state := .idle, output := .coast, bridge := .coast, queue := [] }

theorem test_motors_report :
    (driving telling).reports ∧ (driving telling).takesMotion .b telling ∧ telling.consistent ∧
      (driving tellingStill).reports ∧ (driving tellingStill).takesMotion .b tellingStill ∧ tellingStill.consistent := by
  refine ⟨?_, ?_, ?_, ?_, ?_, ?_⟩ <;> decide +kernel
theorem test_motor_notices :
    let m := telling
    let settling := { m with state := .settling, target := some 10, settlePeriods := 499 }
    let flushed : Byte × List Byte := (12, [1, 1, 12, 2, 7, 0, 0, 0])
    sends (.replace .b sender record) (driving m) .notice [(11, [1, 1, 11, 1, 7, 0, 0, 0]), flushed, (11, [2, 1, 1, 1])] = true ∧
      sends (.abort .b sender 1) (driving m) .notice
        [(11, [1, 1, 11, 3, 7, 0, 0, 0]), flushed, (0, [3, 1, 1, 2, 1, 0, 0, 0x68, 1, 7, 0, 0, 0])] = true ∧
      sends (.append .b sender record) (driving tellingStill) .notice [(0, [3, 1, 2, 1, 2, 1, 0, 0x68, 1, 7, 0, 0, 0])] = true ∧
      sends (.segmentDurationEnd .b) (driving { m with periodsRun := 1999 }) .notice
        [(11, [1, 1, 11, 0, 7, 0, 0, 0]), (11, [2, 1, 1, 1])] = true ∧
      sends (.settleTimeout .b) (driving settling) .notice
        [(11, [1, 1, 11, 5, 7, 0, 0, 0]), (11, [2, 1, 1, 1]), (0, [3, 1, 2, 3, 2, 1, 0, 0x68, 1, 7, 0, 0, 0])] = true ∧
      sends (.stallDetected .b) (driving { m with stallTimer := 299 }) .notice
        [(11, [1, 1, 11, 4, 7, 0, 0, 0]), flushed, (0, [3, 1, 5, 2, 0, 0, 0, 0x68, 1, 7, 0, 0, 0])] = true := by
  decide +kernel
/-- The stops from outside the queue: SUPPLY, SUSPENDED, LINK_LOST, LOCKED and DETACHED. -/
theorem test_stop_notices :
    let m := { telling with settings := { telling.settings with lossAction := .brake, watched := .controller } }
    let s := driving m
    let down := { s.setLink .controller (freshLink false true) with free := 96 }
    let flushed : Byte × List Byte := (12, [1, 1, 12, 2, 7, 0, 0, 0])
    let stops (s t : State) (outcome state output : Byte) : Bool :=
      sentAfter s t .notice
        [(11, [1, 1, 11, outcome, 7, 0, 0, 0]), flushed, (0, [3, 1, state, 2, output, 0, 0, 0x68, 1, 7, 0, 0, 0])]
    s.conserved ∧ s.mgmt.inProgress = none ∧ down.conserved ∧ m.state ≠ .locked ∧ lossHolds m down = true ∧
      stops s (supplyHalt .b s) 9 1 0 = true ∧ stops s (suspendMotor .b s) 10 1 0 = true ∧
      stops down (examineLoss .b down) 8 1 1 = true ∧ stops s (takeMotion .b .lock m s) 7 6 1 = true ∧
      stops s (detachMotor .b s) 6 0 0 = true := by decide +kernel
/-- A notice of a DOWN link is dropped and counted, and one without a page is lost, counted and latched. -/
theorem test_notices_lost_and_dropped :
    let down := { (driving telling).setLink .radio (freshLink false true) with free := 96 }
    let full := { driving telling with free := 0, links := { hub.links with
      radio := { hub.link .radio with outstanding := 64, ceiling := 64 }
      controller := { hub.link .controller with outstanding := 64, ceiling := 64 } } }
    down.reports ∧ full.reports ∧
      leavesSuch (exec (.abort .b sender 1) down) (fun t =>
        t.free = 96 && (t.link .radio).counters.downLinkDrops = 3 && (t.link .radio).urgent = []) = true ∧
      leavesSuch (exec (.abort .b sender 1) full) (fun t => t.free = 0 && (t.link .radio).counters.lostNotices = 3 &&
        t.attention.latches = 1024 && (t.link .radio).urgent = []) = true := by decide +kernel
/-- R125 and R126: the period in which the stall timer reaches the stall time. -/
theorem test_stalling_period :
    let m := { running cruise with stallTimer := 299 }
    let m := { m with settings := { m.settings with stallDuty := 0, stallSpeed := 10000 } }
    let s := driving m
    s.stillPort .b ∧ (s.flag .b).due = 0 ∧ m.settings.stallTime = 300 ∧ m.loaded = none ∧
      leavesSuch (exec (.motorControlPeriod .b 0) s) (fun t =>
        (t.motor .b).map (fun m => (m.state, m.output, m.queue, m.stallTimer)) = some (.stalled, .coast, [], 0) &&
          (t.flag .b).flags = 16 && t.cells.b.q2.value = 0 && t.cells.b.q3.value = 5) = true ∧
      leavesSuch (exec (.motorControlPeriod .b 0) (driving { m with settings := { m.settings with stallDuty := 10000 } }))
        (fun t => (t.motor .b).map (fun m => (m.state, m.stallTimer)) = some (.running, 0) && (t.flag .b).flags = 0) = true := by
  decide +kernel

/-- Port C's record with events to `to4`. -/
def told (r : PortRec) : PortRec := { r with settings := { r.settings with eventRoute := to4 } }

theorem test_port_events :
    let d (b : Band) : State := onC (told { PortRec.reset 0 with state := .detecting, debounce := some { band := b, start := 99950 } })
    let smart := { smartOn with state := .configuring }
    let waits (kind : PortWindow) (r : PortRec) : State :=
      (onC (told { r with window := some { kind := kind, start := 99800 } })).setFlagRec .c { flags := 0, mask := 8, due := 0 }
    let f := onC (told { PortRec.reset 0 with state := .fault, cls := .smart, faultReason := .short, recovery := some 99500 })
    [d 1, d 5, d 0, waits (.configure .r115200) smart, waits .select smartOn, f].all (fun s => decide (s.calmPort .c)) = true ∧
      sends (.debounceExpiry .c 0) (d 1) .event [(0, [1, 2, 4, 1, 0, 0, 0, 0, 0])] = true ∧
      sends (.debounceExpiry .c 0) (d 5) .event [(0, [1, 2, 4, 5, 0, 0, 0, 0, 0])] = true ∧
      sends (.debounceExpiry .c 0) (d 0) .event [(0, [1, 2, 6, 0, 0, 0, 0, 0, 1])] = true ∧
      replyGood 0x12 (answer 0x12 [1]) = true ∧
      sends (.configureAccept .c (answer 0x12 [1])) (waits (.configure .r115200) smart) .event
        [(0, [1, 2, 4, 3, 17, 0, 1, 2, 0])] = true ∧
      sends (.configureTimeout .c) (waits (.configure .r115200) smart) .event
        [(0, [1, 2, 6, 3, 0, 0, 0, 0, 3]), (0, [2, 2, 8, 8, 8])] = true ∧
      sends (.selectTimeout .c) (waits .select smartOn) .event [(0, [1, 2, 6, 3, 0, 0, 0, 0, 4]), (0, [2, 2, 8, 8, 8])] = true ∧
      sends (.faultRecoveryExpiry .c 7) f .event [(0, [1, 2, 0, 7, 0, 0, 0, 0, 0])] = true ∧
      (let a := onC (told { activeAs .light 2 with bandWatch := some { band := 7, start := 99950 } })
       a.calmPort .c ∧ sends (.bandWatchExpiry .c) a .event [(0, [1, 2, 0, 7, 0, 0, 0, 0, 0])] = true) := by decide +kernel
/-- R65, R71 and R201: the events of raises, and raw values of one and of four bytes. -/
theorem test_flag_events :
    let s (r : PortRec) (flags : FlagRec) : State := ((onC (told r)).setAcq .c
      { Acquisition.reset with schedule := .poll, pollWindow := some { closes := 100000 }, missCount := 2 }).setFlagRec .c flags
    let m (raw : List Byte) : LineReply := answer 0x13 (1 :: raw)
    let wide (f : RawFormat) : PortRec := { smartOn with
      description := some { sensor with modes := [mode4, { mode1 with
        valueCount := 1, format := f, rawMin := -100000, rawMax := 100000, siMin := -100000, siMax := 100000 }] } }
    let gives (f : RawFormat) (raw : List Byte) (v : Int) : Bool :=
      leavesSuch (exec (.sampleReceived .c (m raw)) (s (wide f) { flags := 0, mask := 0, due := 0 })) fun t =>
        t.cells.c.q0.value = v && t.cells.c.q0.tag = .valid
    (s smartOn { flags := 0, mask := 1, due := 0 }).calmPort .c ∧
      sends (.sampleReceived .c (m [102, 0, 194, 1])) (s smartOn { flags := 0, mask := 1, due := 0 }) .event
        [(0, [2, 2, 1, 1, 1])] = true ∧
      sends (.sampleReceived .c (m [102, 0, 194, 1])) (s smartOn { flags := 4, mask := 5, due := 4 }) .event
        [(0, [2, 2, 4, 4, 5]), (0, [2, 2, 1, 5, 5])] = true ∧
      sends (.sampleReceived .c (m [194, 1, 102, 0])) (s smartOn { flags := 4, mask := 5, due := 4 }) .event
        [(0, [2, 2, 5, 5, 5])] = true ∧
      sends (.portLineMessageRejected .c 0x12 (answer 0x12 [1])) (s smartOn { flags := 0, mask := 4, due := 0 }) .event
        [(0, [2, 2, 4, 4, 4])] = true ∧
      sends (.pollWindowClose .c) (s smartOn { flags := 0, mask := 2, due := 0 }) .event [(0, [2, 2, 2, 2, 2])] = true ∧
      gives .int8 [0xFF] (-1) ∧ gives .int8 [0x80] (-128) ∧ gives .int16 [0x34, 0x12] 4660 ∧ gives .int16 [0, 0x80] (-32768) ∧
      gives .int32 [0x90, 0xEE, 0xFE, 0xFF] (-70000) ∧ gives .int32 [0x70, 0x11, 1, 0] 70000 ∧
      sends (.sampleReceived .c (m [0, 0, 0, 0x80])) (s (wide .int32) { flags := 0, mask := 1, due := 0 }) .event
        [(0, [2, 2, 1, 1, 1])] = true := by decide +kernel
/-- R56: the mode chosen; R65: the poll interval. -/
theorem test_chosen_modes :
    let g (m : Option Nat) (poll : Nat) : PortSettings := { PortSettings.defaults with mode := m, pollInterval := poll }
    [none, some 0, some 1, some 2].map (fun m => chosenMode sensor (g m 0)) = [1, 0, 1, 1] ∧
      [0, 19, 21].map (fun n => ({ smartOn with settings := g none n } : PortRec).intervalInUse) = [20, 20, 21] := by
  decide +kernel
/-- R135, with S0 and S1 as the measurement wrote them; R129 step 5, R131: a measurement at which a dwell has passed. -/
theorem test_supply_events :
    let w (st : SupplyState) (v : Nat) (f c r : Option Time) : State :=
      { powered v st with
        supply := { hub.supply with
          state := st, ring := List.replicate 8 v, nextMeasurement := 100000, eventRoute := to4, fallTimer := f
          criticalTimer := c, riseTimer := r }
        sys := { (powered v st).sys with q1 := (Cell.reset 0).written 0 1200 .valid .supply } }
    let fall := w .normal 6000 (some 99800) none none
    fall.reports ∧ fall.settled ∧ fall.ignores (.sys 0) ∧ fall.ignores (.sys 1) ∧ fall.ignores (.sys 2) ∧
      sends .supplyFallToLow fall .event [(0, [3, 1, 0, 0x70, 0x17, 0xB0, 4])] = true ∧
      sends .supplyRise (w .low 6500 none none (some 99000)) .event [(0, [3, 0, 1, 0x64, 0x19, 0xB0, 4])] = true ∧
      sends .supplyRise (w .critical 6500 none none (some 99000)) .event [(0, [3, 1, 2, 0x64, 0x19, 0xB0, 4])] = true ∧
      leavesSuch (exec (.supplyMeasurement 5200 300) fall) (fun t => t.supply.state = .low && t.sys.q2.value = 1 &&
        sentAfter fall t .event [(0, [3, 1, 0, 0x0C, 0x17, 0x2C, 1])]) = true ∧
      leavesSuch (exec (.supplyMeasurement 5200 300) (w .normal 5500 (some 99800) (some 99950) none)) (fun t =>
        t.supply.state = .critical && t.sys.q0.value = 5462 && t.sys.q2.value = 2) = true ∧
      leavesSuch (exec (.supplyMeasurement 6500 0) (w .low 6500 none none (some 99000))) (fun t =>
        t.supply.state = .normal && t.sys.q2.value = 0) = true ∧
      leavesSuch (exec (.supplyMeasurement 6500 0) (w .low 6500 none none (some 99001))) (fun t =>
        t.supply.state = .low && t.supply.riseTimer = some 99001 && (t.link .radio).urgent = []) = true := by decide +kernel
/-- Log entry 47: between two measurements the three rows act once their dwell has passed, and take no sample. -/
theorem test_supply_changes_between_measurements :
    let w (st : SupplyState) (v : Int) (f c r : Option Time) : State :=
      { powered v st with
        supply := { hub.supply with state := st, ring := List.replicate 8 7000, nextMeasurement := 100005, fallTimer := f
                                    criticalTimer := c, riseTimer := r } }
    let goesTo (c : Instr) (s : State) (st : SupplyState) : Bool := leavesSuch (exec c s) fun t =>
      t.supply.state = st && t.supply.ring = s.supply.ring && t.supply.nextMeasurement = 100005 && t.sys.q0 = s.sys.q0
    let fall := w .normal 6000 (some 99800) none none
    let late := w .normal 6000 (some 99801) none none
    leaves (exec (.supplyMeasurement 6000 0) fall) fall = true ∧ goesTo .supplyFallToLow fall .low = true ∧
      goesTo .supplyFallToCritical (w .low 5300 none (some 99950) none) .critical = true ∧
      goesTo .supplyRise (w .low 6500 none none (some 99000)) .normal = true ∧
      leaves (exec .supplyFallToLow late) late = true ∧ leaves (exec .supplyRise fall) fall = true := by decide +kernel
/-- R149: the outcomes of notes, the current one first. -/
theorem test_note_notices :
    let n := { tone with route := to4 }
    let r := { Voice.reset with state := .playing, notes := [n, { n with tag := 5 }], level := 9 }
    let one := { r with notes := [n] }
    let ends (c : Instr) (r : Voice) (fs : List (Byte × Byte)) : Bool :=
      sends c (sounding r) .notice (fs.map fun f => (f.1, [5, 1, f.1, f.2]))
    let spent := { one with state := .releasing, envPhase := .release, level := 3264 }
    (sounding r).reports ∧ (sounding r).settled ∧
      ends (.play 1 sender toneRecord) r [(4, 1), (5, 2)] = true ∧ ends (.stopCut 1 sender) r [(4, 12), (5, 2)] = true ∧
      ends (.stopRelease 1 sender) r [(5, 2)] = true ∧
      ends (.stopRelease 1 sender) { r with state := .waitingAmp } [(4, 11), (5, 2)] = true ∧
      ends (.stopRelease 1 sender) { r with notes := [{ n with kind := .rest }] } [(4, 11)] = true ∧
      ends (.envelopeStep 1) spent [(4, 0)] = true ∧ ends (.envelopeStep 1) { spent with stopMarker := true } [(4, 11)] = true ∧
      ends (.envelopeStep 1) { spent with loopOn := true } [] = true ∧
      ends (.noteDurationEnd 1) { one with elapsed := 49, level := 0 } [(4, 0)] = true ∧
      ends (.starvedTimeout 1) { one with state := .starved, starvedSince := 99500, notes := [{ n with kind := .stream }] }
        [(4, 13)] = true := by decide +kernel
/-- R148, R149 and R158: a stream that ends with END, with and without loop mode, and one that sounds beside the tone of 09
9.4. -/
theorem test_streams_loop_and_mix :
    let n := { tone with kind := .stream, gain := 256, route := to4 }
    let last : Frame := { small with kind := .stream, flags := 2, payload := [1, 0, 129] }
    let s (r : Voice) : State := { sounding r with free := 63 }
    let r := { Voice.reset with state := .playing, notes := [n, tone], stream := [last] }
    let beside : Voice := { Voice.reset with
      state := .playing, notes := [tone], level := 65280, phase := 472446404, increment := 118111601 }
    (s r).quiet ∧ (s r).reports ∧ last.wellFormedStream ∧ (∀ w, w ≠ 1 → ((s r).voice w).state = .idle) ∧
      leavesSuch (exec .outputSample (s r)) (fun t => t.free = 63 && (t.voice 1).notes = [tone] && (t.link .radio).urgent =
        [{ channel := 4, kind := .notice, flags := 1, tag := 4, payload := [5, 1, 4, 0] ++ timeBytes }]) = true ∧
      leavesSuch (exec .outputSample (s { r with state := .releasing })) (fun t => (t.link .radio).urgent =
        [{ channel := 4, kind := .notice, flags := 1, tag := 4, payload := [5, 1, 4, 11] ++ timeBytes }]) = true ∧
      leavesSuch (exec .outputSample (s { r with loopOn := true })) (fun t =>
        t.free = 64 && (t.voice 1).notes = [tone, n] && (t.link .radio).urgent = [] && t.speaker = 256) = true ∧
      leavesSuch (exec .outputSample ((s { r with loopOn := true }).setVoice 2 beside)) (fun t =>
        t.speaker = 16175 + 256 && (t.voice 2).phase = 590558005 && (t.voice 1).notes = [tone, n]) = true := by decide +kernel
/-- R33 to R200: records of another length or with one field out of range, and records that the state of the hub refuses. -/
theorem test_refused_loads :
    let s : State := { (driving (running cruise)).setPort .c
        { activeAs .light 2 with settings := { PortSettings.defaults with calibration := some 4 } } with
      calibration := hub.calibration.set 4 table4 }
    let settings := (running cruise).settings
    let refuses (code : Byte) (c : Instr) : Bool := leaves (exec c s) (s.answered sender [2, code])
    let cls (at' : Nat) (b : Byte) : List Byte := [180, 0, 0xDC, 5, 0x2C, 1, 16, 0, 0xC0, 0x5D].set at' b
    let ports (at' : Nat) (b : Byte) : List Byte := [10, 0, 0, 0, 255, 255, 0, 0, 255, 0].set at' b
    let motors (at' : Nat) (b : Byte) : List Byte := settings.bytes.set at' b
    s.quiet ∧ s.canAnswer sender 2 ∧ s.motor .b ≠ none ∧ s.motor .f = none ∧ settings.inRange = true ∧
      [Instr.loadRoute sender 32 [0, 0, 0, 0], .loadMotorClass sender 3 (cls 0 1), .loadMotorSettings sender 6 (motors 0 0),
        .loadPortSettings sender 6 (ports 0 1), .loadCalibration sender 6 (calibrationBytes table4),
        .loadWavetable sender 4 (wavetableBytes squareTable), .loadEnvelope sender 8 [5, 0, 0, 0, 255, 20, 0],
        .loadReflex sender 16 reflexBytes, .loadSubscription sender 24 (subBytes 0),
        .loadSupplySettings sender 1 SupplySettings.defaults.bytes, .loadSoundSettings sender 1 [0, 1, 0xD0, 7],
        .loadLinkSettings sender 1 [32, 32], .loadEventRoutes sender 1 [255, 0]].all (refuses 3) = true ∧
      [Instr.loadRoute sender 31 [5, 0, 0, 0], .loadRoute sender 0 [2, 6, 0, 0], .loadRoute sender 0 [3, 0, 4, 0],
        .loadRoute sender 0 [4, 0, 0, 16], .loadRoute sender 0 [0, 0, 0], .loadMotorClass sender 2 ((cls 0 0).set 1 0),
        .loadMotorClass sender 2 (cls 3 0x4F), .loadMotorClass sender 2 (cls 5 16), .loadMotorClass sender 2 (cls 7 16),
        .loadMotorSettings sender 1 (motors 1 16), .loadMotorSettings sender 1 (motors 9 0x80),
        .loadMotorSettings sender 1 (motors 24 2), .loadMotorSettings sender 1 (motors 25 3),
        .loadMotorSettings sender 1 (motors 27 4), .loadMotorSettings sender 1 (motors 28 2),
        .loadPortSettings sender 5 (ports 0 0), .loadPortSettings sender 5 (ports 3 4), .loadPortSettings sender 5 (ports 4 8),
        .loadPortSettings sender 5 (ports 5 6), .loadPortSettings sender 5 (ports 6 4), .loadPortSettings sender 5 (ports 7 2),
        .loadPortSettings sender 5 (ports 8 2)].all (refuses 4) = true ∧
      [Instr.loadCalibration sender 5 [1, 0, 0, 0, 0, 0, 0], .loadCalibration sender 5 ((calibrationBytes table4).set 14 0),
        .loadCalibration sender 5 ((calibrationBytes table4).set 14 16), .loadWavetable sender 3 [0],
        .loadEnvelope sender 7 [5, 0, 0, 0, 255, 20], .loadReflex sender 15 (reflexBytes.set 0 28),
        .loadReflex sender 15 (reflexBytes.set 1 7), .loadReflex sender 15 (reflexBytes.set 13 0x80),
        .loadReflex sender 15 (reflexBytes.set 15 5), .loadReflex sender 15 (reflexBytes.set 17 16),
        .loadReflex sender 15 (reflexBytes.set 20 2), .loadSubscription sender 23 (subBytes 2),
        .loadSubscription sender 23 ((subBytes 0).set 3 3), .loadSubscription sender 23 ((subBytes 0).set 9 0x80),
        .loadSupplySettings sender 0 (SupplySettings.mk 6300 6300 200 7200).bytes,
        .loadSupplySettings sender 0 (SupplySettings.mk 6300 5600 1001 7200).bytes, .loadSoundSettings sender 0 [1, 1, 0xD0, 7],
        .loadLinkSettings sender 0 [7, 32], .loadLinkSettings sender 0 [32, 49], .loadEventRoutes sender 0 [0, 16],
        .loadEventRoutes sender 0 [2, 0]].all (refuses 4) = true ∧
      [Instr.loadMotorClass sender 1 (cls 0 1), .loadCalibration sender 4 (calibrationBytes table4),
        .loadPortSettings sender 2 (ports 5 3)].all (refuses 5) = true ∧
      refuses 6 (.loadMotorSettings sender 5 settings.bytes) = true := by decide +kernel
/-- R187: an accepted request of each code, from the queue: its effect, with its reply in its own chain. -/
theorem test_queued_requests_take_effect :
    let does (s : State) (payload reply : List Byte) (f : State → Bool) : Bool :=
      let s := { s with free := s.free - pagesOf payload.length, mgmt := (asked payload).mgmt }
      decide s.quiet && leavesSuch (exec (.mgmtHeadConsideration 7 2049) s) fun t =>
        replied t reply && t.mgmt.queue = [] && t.mgmt.inProgress = none && t.free + 1 = s.free + pagesOf payload.length && f t
    let touch (st : PortState) : State := onC { activeAs .touch 1 with state := st }
    let locked := { resting with state := .locked, output := .brake, bridge := .brake }
    let flagged := hub.setFlagRec .f { flags := 4, mask := 4, due := 4 }
    does hub [2, 0, 31, 4, 0, 0, 3] [2, 0, 0, 31] (fun t => t.route .controller 15 = .pass 3) ∧
      does hub ([2, 5, 3] ++ wavetableBytes squareTable) [2, 0, 5, 3] (fun t => t.wavetables.q3 = squareTable) ∧
      does hub [2, 6, 7, 7, 0, 10, 0, 128, 30, 0] [2, 0, 6, 7] (fun t => t.envelopes.get 7 = Envelope.mk 7 10 128 30) ∧
      does hub [2, 10, 0, 0, 1, 1, 2] [2, 0, 10, 0] (fun t => t.sound.idleOff = 513) ∧
      does (withRadio fun u => { u with ceiling := 48 }) [2, 11, 0, 40, 32] [2, 0, 11, 0] (fun t =>
        (t.link .radio).ceiling = 40 && (t.link .radio).outstanding = 32) ∧
      does hub [2, 12, 0, 1, 15] [2, 0, 12, 0] (fun t => t.supply.eventRoute = some { link := .controller, channel := 15 }) ∧
      does hub [2, 13, 0] [2, 2] (fun _ => true) ∧ does hub [2, 255, 0, 1, 2] [2, 2] (fun _ => true) ∧
      does hub [3, 16, 0] [3, 0, 0, 0, 1, 0, 0] (fun t => t.clips = 0) ∧
      does (touch .active) [4, 2, 0, 0] [4, 0] (fun t => (t.port .c).state = .empty) ∧
      does (touch .active) [4, 2, 1, 0] [4, 0] (fun t => (t.port .c).state = .suspended) ∧
      does (touch .suspended) [4, 2, 2, 0] [4, 0] (fun t => (t.port .c).state = .active && t.cells.c.q0.value = 1) ∧
      does (onC smartOn) [4, 2, 3, 0] [4, 0] (fun t => (t.port .c).selectedMode = 0) ∧
      does (driving locked) [5, 1] [5, 0] (fun t => (t.motor .b).map Motor.state = some .idle) ∧
      does hub [6, 15] [6, 0] (fun t => (t.reflex 15).state = .armed) ∧
      does flagged [7, 5] [7, 0, 4, 4] (fun t => t.flag .f = { flags := 0, mask := 4, due := 0 }) ∧
      does { hub with attention := { hub.attention with latches := 0x802 } } [8] [8, 0, 2, 8, 0, 0, 0] (fun t =>
        t.attention.latches = 0) ∧
      does hub [9, 0xFF, 15, 1] [9, 0] (fun t => t.attention.mask = 4095 && t.attention.mode = .pulse) ∧
      does (withRadio fun u => { u with counters := { u.counters with overruns := 258 } }) [10, 0]
        [10, 0, 0, 0, 0, 0, 0, 0, 2, 1, 0, 0, 0, 0, 0, 0, 0, 0, 0, 0] (fun t => (t.link .radio).counters.overruns = 0) ∧
      does flagged [11, 5, 3] [11, 0] (fun t => t.flag .f = { flags := 4, mask := 3, due := 0 }) ∧
      (let full := { (asked [12]).setLink .radio { hub.link .radio with urgent := List.replicate 8 small } with free := 55 }
       full.quiet ∧ leavesSuch (exec (.mgmtHeadConsideration 7 0) full) (fun t =>
        t.mgmt.resetTaken = some sender && t.free = 55) = true) := by decide +kernel
/-- R189: a LOAD of each further table, from the queue. -/
theorem test_queued_loads_take_effect :
    let s (s : State) (payload : List Byte) : State :=
      { s with free := s.free - pagesOf payload.length, mgmt := (asked payload).mgmt }
    let loads (t : State) (more : Nat) (table index : Byte) (record : List Byte) (f : State → Bool) : Bool :=
      let s := s t (2 :: table :: index :: record)
      decide s.quiet && leavesSuch (exec (.mgmtHeadConsideration 7 0) s) fun u =>
        replied u [2, 0, table, index] && u.free + 1 + more = t.free && f u
    let m := running cruise
    let g := { m.settings with lowWater := 3 }
    let on := { hub with amp := .on, idleTimer := some 99000, speaker := 7 }
    let away := { hub.setLink .controller (freshLink false true) with free := 96 }
    loads hub 0 1 2 PerClass.defaults.s.bytes (fun t => t.classes.l = PerClass.defaults.s) ∧
      loads (driving m) 0 2 1 g.bytes (fun t => t.motor .b = some { m with loaded := some g }) ∧
      loads hub 0 3 5 [10, 0, 0, 0, 7, 255, 0, 0, 255, 0] (fun t => (t.port .f).settings.mode = some 7) ∧
      loads hub 0 4 5 (calibrationBytes table4) (fun t => t.calibration.get 5 = table4) ∧
      loads hub 0 7 15 reflexBytes (fun t => (t.reflex 15).state = .armed && (t.reflex 15).t = 800) ∧
      loads hub 0 8 23 (subBytes 1) (fun t => (t.sub 23).period = 1000 && (t.link .radio).normal = []) ∧
      loads hub 1 8 23 (subBytes 0) (fun t => (t.sub 23).lastReport = some 100000 && (t.link .radio).normal.length = 1) ∧
      loads away 0 8 23 ((subBytes 0).set 1 1) (fun t => (t.sub 23).skipped = 1 && (t.sub 23).pending) ∧
      loads hub 0 9 0 (SupplySettings.mk 9000 8999 1000 4800).bytes (fun t => t.supply.settings.critical = 8999) ∧
      loads on 0 10 0 [0, 1, 0xE8, 3] (fun t => t.amp = .off && t.speaker = 0) ∧
      (let v := s (hub.setVoice 3 { Voice.reset with underruns := 2 }) [3, 15, 3]
       v.quiet ∧ leavesSuch (exec (.mgmtHeadConsideration 7 0) v) (fun t =>
        replied t [3, 0, 0, 0, 0, 0, 255, 0, 0, 0, 2, 0, 0, 0] && (t.voice 3).underruns = 0) = true) ∧
      (let w := s ((onC smartOn).setAcq .c { Acquisition.reset with pollWindow := some { closes := 100003 } }) [4, 2, 3, 0]
       w.stillPort .c ∧ leavesSuch (exec (.mgmtHeadConsideration 7 0) w) (fun t =>
        replied t [4, 0] && (t.port .c).modeChange = some 0 && (t.port .c).selectedMode = 1) = true) := by decide +kernel
/-- `telling` after a lock. -/
def tellingLocked : Motor := { tellingStill with state := .locked, output := .brake, bridge := .brake }
/-- A hub with a TOUCH device on port C, with events to `to4`. -/
def touchTold : State := onC (told (activeAs .touch 1))

theorem test_requests_report :
    (driving tellingLocked).reports ∧ (driving tellingLocked).canAnswer sender 2 ∧ (driving telling).reports ∧
      (driving telling).canAnswer sender 2 ∧ touchTold.quiet ∧ touchTold.calmPort .c ∧ touchTold.canAnswer sender 2 := by
  refine ⟨?_, ?_, ?_, ?_, ?_, ?_, ?_⟩ <;> decide +kernel
/-- R190: the notices and events of a request stand ahead of its reply: those of its effect, and the event of a reflex on S3
that the page of its notice fires. -/
theorem test_replies_stand_behind_their_events :
    let order (c : Instr) (s : State) (fs : List (FrameKind × List Byte)) : Bool :=
      leavesSuch (exec c s) fun t => (t.link .radio).urgent.map (fun f => (f.kind, f.payload)) = fs
    let locked := tellingLocked
    let unlocked : FrameKind × List Byte := (.notice, [3, 1, 1, 6, 1, 0, 0, 0x68, 1, 7, 0, 0, 0] ++ timeBytes)
    let watched := (driving locked).setReflex 0
      { Reflex.reset with cell := .sys 3, condition := .below, t := 63, state := .armed
                          action := .sendEvent { link := .radio, channel := 4 } }
    let touch := touchTold
    order (.motorUnlock sender 1) (driving locked) [unlocked, (.mgmtReply, [5, 0])] = true ∧
      order (.motorUnlock sender 1) watched
        [unlocked, (.event, [5, 0, 27, 1, 62, 0, 0, 0] ++ timeBytes), (.mgmtReply, [5, 0])] = true ∧
      order (.portReset sender 2 7) touch
        [(.event, [1, 2, 0, 7, 0, 0, 0, 0, 0] ++ timeBytes), (.mgmtReply, [4, 0])] = true ∧
      order (.portSuspend sender 1) (driving telling)
        [(.notice, [1, 1, 11, 10, 7, 0, 0, 0] ++ timeBytes), (.notice, [1, 1, 12, 2, 7, 0, 0, 0] ++ timeBytes)
        , (.notice, [3, 1, 1, 2, 0, 0, 0, 0x68, 1, 7, 0, 0, 0] ++ timeBytes), (.mgmtReply, [4, 0])] = true := by
  decide +kernel
/-- R125 and R127: a LOAD has put the stall time below the running timer; the next period that meets the test stalls (log entry
46). -/
theorem test_stall_time_below_the_timer :
    let m := { running cruise with stallTimer := 299 }
    let m := { m with loaded := some { m.settings with stallDuty := 0, stallSpeed := 10000, stallTime := 100 } }
    (driving m).stillPort .b ∧
      motorAfter (.motorControlPeriod .b 0) m (fun m => m.state = .stalled && m.stallTimer = 0) = true := by decide +kernel

end Sys2Proof.Tests
end

section
/-!
Ports (chapter 03): the band table of R41.
-/
namespace Sys2Proof.Machine

/-- `ofBand` and `code` are two tables written apart; band by band, the second undoes the first (R41). -/
@[simp] theorem DeviceClass.code_ofBand (b : Band) : (DeviceClass.ofBand b).code = b.val := by
  match b with
  | 0 | 1 | 2 | 3 | 4 | 5 | 6 | 7 => rfl

/-- Settles O36: each row of the table is a branch of `DeviceClass.ofBand`, and the code is `DeviceClass.code_ofBand`. -/
theorem bandGivesTheDeviceClass : Obligations.BandGivesTheDeviceClass :=
  ⟨rfl, rfl, rfl, rfl, rfl, rfl, rfl, rfl, DeviceClass.code_ofBand⟩

end Sys2Proof.Machine
end

section
/-!
Sampling and conversion (chapter 04): the rounding modes of R75 and the bounds of a conversion in range.
-/
namespace Sys2Proof.Machine

section RoundingModes
variable {n d : Int}

/-- DOWN is the floor: the quotient's interval is [q, q + 1). -/
theorem Rounding.down_quotient_brackets (n : Int) (hd : 0 < d) :
    Rounding.down.quotient n d * d ≤ n ∧ n < (Rounding.down.quotient n d + 1) * d := by
  simp only [Rounding.quotient, Int.fdiv_eq_ediv_of_nonneg n hd.le]
  exact ⟨Int.ediv_mul_le n hd.ne', Int.lt_ediv_add_one_mul_self n hd⟩

/-- UP is the ceiling, as the negated floor of the negated dividend. -/
theorem Rounding.up_quotient_brackets (n : Int) (hd : 0 < d) :
    n ≤ Rounding.up.quotient n d * d ∧ (Rounding.up.quotient n d - 1) * d < n := by
  have up_eq : Rounding.up.quotient n d = -Rounding.down.quotient (-n) d := rfl
  obtain ⟨floor_le, lt_next⟩ := Rounding.down_quotient_brackets (-n) hd
  rw [up_eq]
  constructor <;> linarith

theorem Rounding.towardZero_quotient_eq_down (hn : 0 ≤ n) (hd : 0 < d) :
    Rounding.towardZero.quotient n d = Rounding.down.quotient n d :=
  (Int.fdiv_eq_tdiv_of_nonneg hn hd.le).symm

theorem Rounding.towardZero_quotient_eq_up (hn : n ≤ 0) (hd : 0 < d) :
    Rounding.towardZero.quotient n d = Rounding.up.quotient n d := by
  simp only [Rounding.quotient, Int.fdiv_eq_tdiv_of_nonneg (neg_nonneg.mpr hn) hd.le, Int.neg_tdiv, neg_neg]

/-- TOWARD_ZERO is the floor of a quotient that is not negative and the ceiling of one that is not positive. -/
theorem Rounding.towardZero_quotient_brackets (n : Int) (hd : 0 < d) :
    (0 ≤ n → Rounding.towardZero.quotient n d * d ≤ n ∧ n < (Rounding.towardZero.quotient n d + 1) * d) ∧
    (n ≤ 0 → n ≤ Rounding.towardZero.quotient n d * d ∧ (Rounding.towardZero.quotient n d - 1) * d < n) := by
  constructor <;> intro hn
  · rw [towardZero_quotient_eq_down hn hd]
    exact down_quotient_brackets n hd
  · rw [towardZero_quotient_eq_up hn hd]
    exact up_quotient_brackets n hd

/-- NEAREST_EVEN is the floor, where the remainder is below half of d or is half of it over an even floor, and else the
integer above. -/
theorem Rounding.nearestEven_quotient_cases (n d : Int) :
    let floor := Rounding.down.quotient n d
    let twice := 2 * (n - floor * d)
    Rounding.nearestEven.quotient n d = floor ∧ (twice < d ∨ twice = d ∧ floor % 2 = 0) ∨
    Rounding.nearestEven.quotient n d = floor + 1 ∧ (d < twice ∨ twice = d ∧ floor % 2 ≠ 0) := by
  simp only [Rounding.quotient, roundNearestEven]
  split_ifs with below above even
  · exact .inl ⟨rfl, .inl below⟩
  · exact .inr ⟨rfl, .inl above⟩
  · exact .inl ⟨rfl, .inr ⟨by omega, even⟩⟩
  · exact .inr ⟨rfl, .inr ⟨by omega, even⟩⟩

/-- NEAREST_EVEN is at most half of d away, and even where it is just half of d away. -/
theorem Rounding.nearestEven_quotient_nearest (n : Int) (hd : 0 < d) :
    2 * (n - Rounding.nearestEven.quotient n d * d) ≤ d ∧ -d ≤ 2 * (n - Rounding.nearestEven.quotient n d * d) ∧
    ((2 * (n - Rounding.nearestEven.quotient n d * d) = d ∨ 2 * (n - Rounding.nearestEven.quotient n d * d) = -d) →
      Rounding.nearestEven.quotient n d % 2 = 0) := by
  obtain ⟨floor_le, lt_next⟩ := down_quotient_brackets n hd
  obtain ⟨rounds, half⟩ | ⟨rounds, half⟩ := nearestEven_quotient_cases n d
  · rw [rounds]
    omega
  · rw [add_mul, one_mul] at lt_next
    rw [rounds, add_mul, one_mul]
    omega

/-- Every mode rounds to an integer less than one away from the exact quotient. -/
theorem Rounding.quotient_within_one (r : Rounding) (n : Int) (hd : 0 < d) :
    (r.quotient n d - 1) * d < n ∧ n < (r.quotient n d + 1) * d := by
  cases r with
  | nearestEven =>
    obtain ⟨above, below, -⟩ := nearestEven_quotient_nearest n hd
    constructor <;> linarith
  | towardZero =>
    obtain ⟨of_nonneg, of_nonpos⟩ := towardZero_quotient_brackets n hd
    obtain hn | hn := le_total 0 n
    · obtain ⟨floor_le, lt_next⟩ := of_nonneg hn
      exact ⟨by linarith, lt_next⟩
    · obtain ⟨le_ceil, prev_lt⟩ := of_nonpos hn
      exact ⟨prev_lt, by linarith⟩
  | down =>
    obtain ⟨floor_le, lt_next⟩ := down_quotient_brackets n hd
    exact ⟨by linarith, lt_next⟩
  | up =>
    obtain ⟨le_ceil, prev_lt⟩ := up_quotient_brackets n hd
    exact ⟨prev_lt, by linarith⟩

/-- An integer at or below the exact quotient is at or below the rounded one. -/
theorem Rounding.le_quotient (r : Rounding) {k : Int} (hd : 0 < d) (h : k * d ≤ n) : k ≤ r.quotient n d :=
  Int.lt_add_one_iff.mp (lt_of_mul_lt_mul_right (h.trans_lt (r.quotient_within_one n hd).2) hd.le)

/-- An integer at or above the exact quotient is at or above the rounded one. -/
theorem Rounding.quotient_le (r : Rounding) {k : Int} (hd : 0 < d) (h : n ≤ k * d) : r.quotient n d ≤ k :=
  Int.sub_one_lt_iff.mp (lt_of_mul_lt_mul_right ((r.quotient_within_one n hd).1.trans_le h) hd.le)

@[simp] theorem Rounding.quotient_mul_self (r : Rounding) (k : Int) (hd : 0 < d) : r.quotient (k * d) d = k :=
  le_antisymm (r.quotient_le hd le_rfl) (r.le_quotient hd le_rfl)

end RoundingModes

/-- The dividend of a conversion is the weighted sum of the two end values, with weights that add up to x1 − x0. -/
theorem interpolate_dividend (x0 x1 y0 y1 x : Int) :
    y0 * (x1 - x0) + (x - x0) * (y1 - y0) = y0 * (x1 - x) + y1 * (x - x0) := by ring

/-- A lower bound of both end values bounds the conversion in range from below. -/
theorem le_interpolate (r : Rounding) {x0 x1 y0 y1 x lo : Int} (hx : x0 < x1) (hx0 : x0 ≤ x) (hx1 : x ≤ x1)
    (h0 : lo ≤ y0) (h1 : lo ≤ y1) : lo ≤ interpolate r x0 x1 y0 y1 x := by
  apply r.le_quotient (sub_pos.mpr hx)
  calc lo * (x1 - x0) = lo * (x1 - x) + lo * (x - x0) := by ring
    _ ≤ y0 * (x1 - x) + y1 * (x - x0) :=
      add_le_add (mul_le_mul_of_nonneg_right h0 (sub_nonneg.mpr hx1)) (mul_le_mul_of_nonneg_right h1 (sub_nonneg.mpr hx0))
    _ = y0 * (x1 - x0) + (x - x0) * (y1 - y0) := (interpolate_dividend ..).symm

/-- An upper bound of both end values bounds the conversion in range from above. -/
theorem interpolate_le (r : Rounding) {x0 x1 y0 y1 x hi : Int} (hx : x0 < x1) (hx0 : x0 ≤ x) (hx1 : x ≤ x1)
    (h0 : y0 ≤ hi) (h1 : y1 ≤ hi) : interpolate r x0 x1 y0 y1 x ≤ hi := by
  apply r.quotient_le (sub_pos.mpr hx)
  calc y0 * (x1 - x0) + (x - x0) * (y1 - y0) = y0 * (x1 - x) + y1 * (x - x0) := interpolate_dividend ..
    _ ≤ hi * (x1 - x) + hi * (x - x0) :=
      add_le_add (mul_le_mul_of_nonneg_right h0 (sub_nonneg.mpr hx1)) (mul_le_mul_of_nonneg_right h1 (sub_nonneg.mpr hx0))
    _ = hi * (x1 - x0) := by ring

/-- Settles O43: each mode's bracket is its own lemma; the integer quotients and the bounds of a conversion both follow
from `Rounding.quotient_within_one`. -/
theorem roundingModesRoundTheQuotient : Obligations.RoundingModesRoundTheQuotient := by
  refine ⟨fun n d hd => ⟨Rounding.nearestEven_quotient_nearest n hd, Rounding.towardZero_quotient_brackets n hd,
    Rounding.down_quotient_brackets n hd, Rounding.up_quotient_brackets n hd, ?_⟩, ?_⟩
  · rintro r k rfl
    exact r.quotient_mul_self k hd
  · intro r x0 x1 y0 y1 x hx hx0 hx1
    exact ⟨le_interpolate r hx hx0 hx1 (min_le_left ..) (min_le_right ..),
      interpolate_le r hx hx0 hx1 (le_max_left ..) (le_max_right ..)⟩

end Sys2Proof.Machine
end

section
/-!
Accounting (chapter 01): what the operations of the credit manager do to the pages of the hub, to S3 and to the two links.
-/
namespace Sys2Proof.Machine

/-! ## The pages of one link and of one voice -/

/-- The pages that a link accounts for: its reservation and the frames that it stores (R3). -/
def LinkUnit.pageTotal (u : LinkUnit) : Nat := u.outstanding + u.storedPages

/-- Replacing a link unit moves its pages out of the total and those of the new one in. -/
theorem State.poolTotal_setLink (s : State) (l : Link) (u : LinkUnit) :
    (s.setLink l u).poolTotal + (s.link l).pageTotal = s.poolTotal + u.pageTotal := by
  cases l <;>
    simp only [State.poolTotal, State.storedPages, LinkUnit.pageTotal, State.link, State.setLink, State.voice,
      PerLink.get, PerLink.set] <;> omega

/-- Replacing a link unit by one with as many pages keeps the total. -/
theorem State.poolTotal_setLink_of_eq {s : State} {l : Link} {u : LinkUnit} (h : u.pageTotal = (s.link l).pageTotal) :
    (s.setLink l u).poolTotal = s.poolTotal := by
  have := s.poolTotal_setLink l u
  omega

/-- Replacing a voice moves the pages of its stream queue out of the total and those of the new one in. -/
theorem State.poolTotal_setVoice (s : State) (v : VoiceId) (r : Voice) :
    (s.setVoice v r).poolTotal + pagesOfAll (s.voice v).stream = s.poolTotal + pagesOfAll r.stream := by
  match v with
  | 0 | 1 | 2 | 3 =>
    simp only [State.poolTotal, State.storedPages, State.link, State.setVoice, State.voice, Quad.get, Quad.set]
    omega

/-- The pages of a list of frames, frame by frame. -/
@[simp] theorem pagesOfAll_nil : pagesOfAll [] = 0 := rfl
@[simp] theorem pagesOfAll_cons (f : Frame) (fs : List Frame) : pagesOfAll (f :: fs) = f.pages + pagesOfAll fs := by
  simp [pagesOfAll]
@[simp] theorem pagesOfAll_append (fs gs : List Frame) : pagesOfAll (fs ++ gs) = pagesOfAll fs + pagesOfAll gs := by
  simp [pagesOfAll]

/-- The first frames of a list and those behind them hold its pages together. -/
theorem pagesOfAll_take_add_drop (k : Nat) (fs : List Frame) :
    pagesOfAll (fs.take k) + pagesOfAll (fs.drop k) = pagesOfAll fs := by
  rw [← pagesOfAll_append, List.take_append_drop]

/-! ## What an operation leaves of a link -/

/-- A link unit `u'` comes from `u` by grants, counters and frames that join its queues: it stays UP or DOWN with its
ceiling, its receiver and its hold list, and it stays sound. -/
structure LinkUnit.Stays (u u' : LinkUnit) : Prop where
  up : u'.up = u.up
  ceiling : u'.ceiling = u.ceiling
  receiver : u'.receiver = u.receiver
  hold : u'.hold = u.hold
  sound : u.sound → u'.sound

theorem LinkUnit.Stays.refl (u : LinkUnit) : u.Stays u := ⟨rfl, rfl, rfl, rfl, id⟩

theorem LinkUnit.Stays.trans {u v w : LinkUnit} (h : u.Stays v) (k : v.Stays w) : u.Stays w :=
  ⟨k.up.trans h.up, k.ceiling.trans h.ceiling, k.receiver.trans h.receiver, k.hold.trans h.hold, k.sound ∘ h.sound⟩

/-- A grant keeps the credit under the ceiling. -/
theorem LinkUnit.grant_le_deficit (u : LinkUnit) (free : Nat) : u.grant free ≤ u.ceiling - u.outstanding := by
  unfold LinkUnit.grant LinkUnit.deficit
  split <;> omega

/-- A DOWN link is granted nothing. -/
theorem LinkUnit.grant_of_down {u : LinkUnit} (h : u.up = false) (free : Nat) : u.grant free = 0 := by
  simp [LinkUnit.grant, h]

/-- A grant to a link. -/
theorem LinkUnit.Stays.granted (u : LinkUnit) (free : Nat) :
    u.Stays { u with outstanding := u.outstanding + u.grant free, pendingCredit := satAdd 255 u.pendingCredit (u.grant free) } where
  up := rfl
  ceiling := rfl
  receiver := rfl
  hold := rfl
  sound := by
    rintro ⟨le, lo, hi, pend, down⟩
    have hg := u.grant_le_deficit free
    refine ⟨by dsimp only; omega, lo, hi, by simp [satAdd], fun (hu : u.up = false) => ?_⟩
    have none : u.grant free = 0 := LinkUnit.grant_of_down hu free
    simpa [none, satAdd] using down hu

/-- Counters of a link. -/
theorem LinkUnit.Stays.counters (u : LinkUnit) (c : LinkCounters) : u.Stays { u with counters := c } :=
  ⟨rfl, rfl, rfl, rfl, id⟩

/-- A frame that joins the urgent queue of an UP link. -/
theorem LinkUnit.Stays.urgent {u : LinkUnit} (h : u.up = true) (q : List Frame) : u.Stays { u with urgent := q } :=
  ⟨rfl, rfl, rfl, rfl, fun ⟨le, lo, hi, pend, _⟩ => ⟨le, lo, hi, pend, fun hd => by simp [h] at hd⟩⟩

/-- A frame that joins the normal queue of an UP link. -/
theorem LinkUnit.Stays.normal {u : LinkUnit} (h : u.up = true) (q : List Frame) : u.Stays { u with normal := q } :=
  ⟨rfl, rfl, rfl, rfl, fun ⟨le, lo, hi, pend, _⟩ => ⟨le, lo, hi, pend, fun hd => by simp [h] at hd⟩⟩

/-! ## What an operation leaves of the hub -/

/-- `t` comes from `s` by operations that keep the reset state, the commands and the requests that wait, and the supply
state, and that leave each link in its place. -/
structure Frames (s t : State) : Prop where
  inReset : t.inReset = s.inReset
  pending : t.pending = s.pending
  queue : t.mgmt.queue = s.mgmt.queue
  supply : t.supply = s.supply
  link : ∀ l, (s.link l).Stays (t.link l)

theorem Frames.refl (s : State) : Frames s s := ⟨rfl, rfl, rfl, rfl, fun _ => .refl _⟩

theorem Frames.trans {s t u : State} (h : Frames s t) (k : Frames t u) : Frames s u :=
  ⟨k.inReset.trans h.inReset, k.pending.trans h.pending, k.queue.trans h.queue, k.supply.trans h.supply,
    fun l => (h.link l).trans (k.link l)⟩

/-- A link unit that stays in its place. -/
theorem Frames.setLink {s : State} {l : Link} {u : LinkUnit} (h : (s.link l).Stays u) : Frames s (s.setLink l u) where
  inReset := rfl
  pending := rfl
  queue := rfl
  supply := rfl
  link k := by
    by_cases e : l = k
    · subst e; rwa [State.link_setLink_same]
    · rw [State.link_setLink_other s u e]; exact .refl _

/-- An operation of the credit manager: as `Frames`, and neither a motor, a voice nor the amplifier changes. -/
structure PoolFrames (s t : State) : Prop extends Frames s t where
  motors : t.motors = s.motors
  voices : t.voices = s.voices
  amp : t.amp = s.amp
  speaker : t.speaker = s.speaker

theorem PoolFrames.refl (s : State) : PoolFrames s s := ⟨.refl s, rfl, rfl, rfl, rfl⟩

theorem PoolFrames.trans {s t u : State} (h : PoolFrames s t) (k : PoolFrames t u) : PoolFrames s u :=
  ⟨h.toFrames.trans k.toFrames, k.motors.trans h.motors, k.voices.trans h.voices, k.amp.trans h.amp,
    k.speaker.trans h.speaker⟩

theorem PoolFrames.setLink {s : State} {l : Link} {u : LinkUnit} (h : (s.link l).Stays u) :
    PoolFrames s (s.setLink l u) := ⟨.setLink h, rfl, rfl, rfl, rfl⟩

/-- The accounts of the pool are kept from `s` to `t`: no page is lost or made, and S3 goes on to show free. -/
structure Accounts (s t : State) : Prop where
  pool : t.poolTotal = s.poolTotal
  shown : s.poolTotal ≤ 128 → s.freeShown → t.freeShown

theorem Accounts.refl (s : State) : Accounts s s := ⟨rfl, fun _ => id⟩

theorem Accounts.trans {s t u : State} (h : Accounts s t) (k : Accounts t u) : Accounts s u :=
  ⟨k.pool.trans h.pool, fun hs hf => k.shown (h.pool ▸ hs) (h.shown hs hf)⟩

/-- Accounts are kept where free and S3 stay, and the pages outside of free. -/
theorem Accounts.of_same {s t : State} (hp : t.poolTotal = s.poolTotal) (hf : t.free = s.free)
    (hc : t.cell (.sys 3) = s.cell (.sys 3)) : Accounts s t :=
  ⟨hp, fun _ h => by unfold State.freeShown; rw [hc, hf]; exact h⟩

/-! ## The operations of the credit manager -/

theorem writeFree_frames (s : State) : PoolFrames s (writeFree s) := ⟨⟨rfl, rfl, rfl, rfl, fun _ => .refl _⟩, rfl, rfl, rfl, rfl⟩

@[simp] theorem writeFree_poolTotal (s : State) : (writeFree s).poolTotal = s.poolTotal := rfl

/-- The write of S3 shows free, which no hub with at most 128 pages takes out of the range of a cell. -/
theorem writeFree_shown {s : State} (h : s.poolTotal ≤ 128) : (writeFree s).freeShown := by
  have hf : s.free ≤ 2147483647 := by
    have : s.free ≤ s.poolTotal := by simp only [State.poolTotal]; omega
    omega
  rw [writeFree_eq hf]
  exact ⟨rfl, rfl, rfl⟩

theorem review_frames (l : Link) (s : State) : PoolFrames s (review l s) :=
  have h : PoolFrames s (s.setLink l _) := .setLink (.granted (s.link l) s.free)
  ⟨⟨rfl, rfl, rfl, rfl, h.link⟩, rfl, rfl, rfl, rfl⟩

/-- A review moves its grant from free to the reservation. -/
@[simp] theorem review_poolTotal (l : Link) (s : State) : (review l s).poolTotal = s.poolTotal := by
  have hg := (s.link l).grant_le s.free
  have h := s.poolTotal_setLink l
    { s.link l with outstanding := (s.link l).outstanding + (s.link l).grant s.free
                    pendingCredit := satAdd 255 (s.link l).pendingCredit ((s.link l).grant s.free) }
  simp only [LinkUnit.pageTotal, LinkUnit.storedPages] at h
  simp only [review, State.poolTotal, State.storedPages, State.setLink, State.link, State.voice] at h hg ⊢
  omega

theorem reviewBoth_frames (s : State) : PoolFrames s (reviewBoth s) :=
  (review_frames _ s).trans (review_frames _ _)

@[simp] theorem reviewBoth_poolTotal (s : State) : (reviewBoth s).poolTotal = s.poolTotal := by simp [reviewBoth]

theorem freePages_frames (n : Nat) (s : State) : PoolFrames s (freePages n s) :=
  ⟨⟨rfl, rfl, rfl, rfl, fun _ => .refl _⟩, rfl, rfl, rfl, rfl⟩

@[simp] theorem freePages_poolTotal (n : Nat) (s : State) : (freePages n s).poolTotal = s.poolTotal + n := by
  simp only [freePages, State.poolTotal, State.storedPages, State.link, State.voice]
  omega

theorem release_frames (n : Nat) (s : State) : PoolFrames s (release n s) := by
  unfold release
  split
  · exact .refl s
  · exact ((freePages_frames n s).trans (reviewBoth_frames _)).trans (writeFree_frames _)

/-- The pages of a release come back to the total that they had left. -/
@[simp] theorem release_poolTotal (n : Nat) (s : State) : (release n s).poolTotal = s.poolTotal + n := by
  unfold release
  split <;> simp [*]

/-- A release shows free, or changes nothing. -/
theorem release_shown {n : Nat} {s : State} (h : s.poolTotal + n ≤ 128) (hs : s.freeShown) : (release n s).freeShown := by
  unfold release
  split
  · exact hs
  · exact writeFree_shown (by simpa using h)

theorem writeFreeIfMoved_frames {s t : State} (h : PoolFrames s t) : PoolFrames s (writeFreeIfMoved s t) := by
  unfold writeFreeIfMoved
  split
  · exact h
  · exact h.trans (writeFree_frames t)

/-- An operation that moves pages and writes S3 where free has changed keeps the accounts. -/
theorem writeFreeIfMoved_accounts {s t : State} (hp : t.poolTotal = s.poolTotal) (hc : t.cell (.sys 3) = s.cell (.sys 3)) :
    Accounts s (writeFreeIfMoved s t) := by
  unfold writeFreeIfMoved
  split
  · next e => exact .of_same hp e hc
  · exact ⟨by simpa using hp, fun hs _ => writeFree_shown (hp ▸ hs)⟩

theorem reviewOperation_frames (l : Link) (s : State) : PoolFrames s (reviewOperation l s) :=
  writeFreeIfMoved_frames (review_frames l s)

theorem reviewOperation_accounts (l : Link) (s : State) : Accounts s (reviewOperation l s) :=
  writeFreeIfMoved_accounts (review_poolTotal l s) rfl

theorem modCounters_frames (l : Link) (f : LinkCounters → LinkCounters) (s : State) : PoolFrames s (modCounters l f s) :=
  .setLink (.counters _ _)

theorem modCounters_accounts (l : Link) (f : LinkCounters → LinkCounters) (s : State) : Accounts s (modCounters l f s) :=
  .of_same (State.poolTotal_setLink_of_eq rfl) rfl rfl

/-- What every operation of the credit manager that moves whole frames does. -/
structure PoolOp (s t : State) : Prop extends PoolFrames s t, Accounts s t

theorem PoolOp.refl (s : State) : PoolOp s s := ⟨.refl s, .refl s⟩

theorem PoolOp.trans {s t u : State} (h : PoolOp s t) (k : PoolOp t u) : PoolOp s u :=
  ⟨h.toPoolFrames.trans k.toPoolFrames, h.toAccounts.trans k.toAccounts⟩

theorem PoolOp.foldl {α : Type} {f : State → α → State} (h : ∀ s a, PoolOp s (f s a)) (as : List α) (s : State) :
    PoolOp s (as.foldl f s) := by
  induction as generalizing s with
  | nil => exact .refl s
  | cons a as ih => exact (h s a).trans (ih _)

theorem setLatch_poolOp (k : Nat) (s : State) : PoolOp s (setLatch k s) :=
  ⟨⟨⟨rfl, rfl, rfl, rfl, fun _ => .refl _⟩, rfl, rfl, rfl, rfl⟩, .of_same rfl rfl rfl⟩

/-- A frame of one page takes its page from free. -/
theorem pushUrgent_accounts {l : Link} {f : Frame} {s : State} (hf : f.pages = 1) (hs : 1 ≤ s.free) :
    (pushUrgent l f { s with free := s.free - 1 }).poolTotal = s.poolTotal := by
  have h := s.poolTotal_setLink l { s.link l with urgent := (s.link l).urgent ++ [f] }
  simp only [LinkUnit.pageTotal, LinkUnit.storedPages, pagesOfAll_append, pagesOfAll_cons, pagesOfAll_nil, hf] at h
  simp only [pushUrgent, State.poolTotal, State.storedPages, State.setLink, State.link, State.voice] at h ⊢
  omega

theorem pushNormal_accounts {l : Link} {f : Frame} {s : State} (hf : f.pages = 1) (hs : 1 ≤ s.free) :
    (pushNormal l f { s with free := s.free - 1 }).poolTotal = s.poolTotal := by
  have h := s.poolTotal_setLink l { s.link l with normal := (s.link l).normal ++ [f] }
  simp only [LinkUnit.pageTotal, LinkUnit.storedPages, pagesOfAll_append, pagesOfAll_cons, pagesOfAll_nil, hf] at h
  simp only [pushNormal, State.poolTotal, State.storedPages, State.setLink, State.link, State.voice] at h ⊢
  omega

theorem pushUrgent_frames {l : Link} {f : Frame} {s : State} (h : (s.link l).up = true) :
    PoolFrames s (pushUrgent l f s) := .setLink (.urgent h _)

theorem pushNormal_frames {l : Link} {f : Frame} {s : State} (h : (s.link l).up = true) :
    PoolFrames s (pushNormal l f s) := .setLink (.normal h _)

/-- The free pages of a hub play no part in its frame. -/
theorem PoolFrames.withFree (s : State) (n : Nat) : PoolFrames s { s with free := n } :=
  ⟨⟨rfl, rfl, rfl, rfl, fun _ => .refl _⟩, rfl, rfl, rfl, rfl⟩

/-- A payload of at most 28 bytes fits one page. -/
theorem Frame.pages_eq_one {f : Frame} (h : f.payload.length ≤ 28) : f.pages = 1 := by
  simp only [Frame.pages, pagesOf]; omega

/-- A frame of one page takes its page from free and joins the urgent queue of an UP link (R12). -/
theorem allocateUrgent_poolOp {l : Link} {f : Frame} {s : State} (hf : f.payload.length ≤ 28)
    (hu : (s.link l).up = true) (hs : 1 ≤ s.free) :
    PoolOp s (writeFree (pushUrgent l f { s with free := s.free - 1 })) :=
  have hp := pushUrgent_accounts (l := l) (Frame.pages_eq_one hf) hs
  ⟨((PoolFrames.withFree s (s.free - 1)).trans (pushUrgent_frames hu)).trans (writeFree_frames _),
    ⟨by simpa using hp, fun hs _ => writeFree_shown (hp ▸ hs)⟩⟩

/-- A notice or an event of one page is placed, dropped or counted (R12). -/
theorem placeUrgent_poolOp {l : Link} {f : Frame} (hf : f.payload.length ≤ 28) (s : State) : PoolOp s (placeUrgent l f s) := by
  unfold placeUrgent
  split
  · exact ⟨modCounters_frames .., modCounters_accounts ..⟩
  · exact .trans ⟨modCounters_frames .., modCounters_accounts ..⟩ (setLatch_poolOp ..)
  · next placed =>
    have hu : (s.link l).up = true := by
      unfold urgentPlacement at placed; split at placed <;> simp_all
    have hs : 1 ≤ s.free := by
      unfold urgentPlacement at placed; rw [if_pos hu] at placed
      split at placed <;> simp_all
    exact allocateUrgent_poolOp hf hu hs

theorem sendNotice_poolOp {payload : List Byte} (h : payload.length ≤ 28) (route : Option Endpoint) (tag : Byte) (s : State) :
    PoolOp s (sendNotice route tag payload s) := by
  cases route with
  | none => exact .refl s
  | some e => exact placeUrgent_poolOp (f := noticeFrame e tag payload) h s

theorem sendEvent_poolOp {payload : List Byte} (h : payload.length ≤ 28) (route : Option Endpoint) (s : State) :
    PoolOp s (sendEvent route payload s) := by
  cases route with
  | none => exact .refl s
  | some e => exact placeUrgent_poolOp (f := eventFrame e payload) h s

theorem sendRefused_poolOp (o : Origin) (target : Nat) (command : Byte) (code : Status) (s : State) :
    PoolOp s (sendRefused o target command code s) := sendNotice_poolOp (by simp [refusedPayload, le32]) ..

/-- A report of one page joins the normal queue of a link with room (R13). -/
theorem placeReport_poolOp {l : Link} {f : Frame} {s : State} (hf : f.payload.length ≤ 28) (h : reportRoom l s = true) :
    PoolOp s (placeReport l f s) := by
  simp only [reportRoom, Bool.and_eq_true, decide_eq_true_eq] at h
  obtain ⟨⟨hu, hs⟩, -⟩ := h
  have hp := pushNormal_accounts (l := l) (Frame.pages_eq_one hf) hs
  exact ⟨((PoolFrames.withFree s (s.free - 1)).trans (pushNormal_frames hu)).trans (writeFree_frames _),
    ⟨by simpa [placeReport] using hp, fun hs _ => writeFree_shown (hp ▸ hs)⟩⟩

/-! ## Flags -/

theorem setFlagRec_poolOp (p : Port) (r : FlagRec) (s : State) : PoolOp s (s.setFlagRec p r) :=
  ⟨⟨⟨rfl, rfl, rfl, rfl, fun _ => .refl _⟩, rfl, rfl, rfl, rfl⟩, .of_same rfl rfl rfl⟩

theorem raiseFlags_poolOp (p : Port) (raised : BitVec 5) (s : State) : PoolOp s (raiseFlags p raised s) :=
  (setLatch_poolOp ..).trans (sendEvent_poolOp (by simp [portFlagPayload, le32]) ..)

theorem setFlag_poolOp (p : Port) (k : Nat) (s : State) : PoolOp s (setFlag p k s) := by
  unfold setFlag
  dsimp only
  split
  · exact .refl s
  · split
    · exact (setFlagRec_poolOp ..).trans (raiseFlags_poolOp ..)
    · exact setFlagRec_poolOp ..

theorem writeFlags_poolOp (p : Port) (setsRange : Bool) (s : State) : PoolOp s (writeFlags p setsRange s) := by
  unfold writeFlags
  dsimp only
  split
  · exact setFlagRec_poolOp ..
  · exact (setFlagRec_poolOp ..).trans (raiseFlags_poolOp ..)

theorem clearFlags_poolOp (p : Port) (s : State) : PoolOp s (clearFlags p s) := setFlagRec_poolOp ..

end Sys2Proof.Machine
end

section
/-!
What every command keeps (chapters 01, 06, 08 and 09): the commands that wait, the accounts of the pool, sound links, consistent
motors under the duty cap, consistent voices and a sound output. `Kept` holds of each operation of a unit, and composes.
-/
namespace Sys2Proof.Machine

/-- `t` comes from `s` by operations that leave the links, the commands and the requests in their place and keep every
invariant. -/
structure Kept (s t : State) : Prop extends Accounts s t where
  inReset : t.inReset = s.inReset
  pending : t.pending = s.pending
  queue : t.mgmt.queue = s.mgmt.queue
  up : ∀ l, (t.link l).up = (s.link l).up
  receiver : ∀ l, (t.link l).receiver = (s.link l).receiver
  hold : ∀ l, (t.link l).hold = (s.link l).hold
  sound : s.linksSound → t.linksSound
  motors : s.motorsConsistent → t.motorsConsistent
  duties : s.motorsConsistent → s.dutyCapped → t.dutyCapped
  voices : s.voicesConsistent → t.voicesConsistent
  output : s.outputSound → t.outputSound

theorem Kept.refl (s : State) : Kept s s :=
  ⟨.refl s, rfl, rfl, rfl, fun _ => rfl, fun _ => rfl, fun _ => rfl, id, id, fun _ => id, id, id⟩

theorem Kept.trans {s t u : State} (h : Kept s t) (k : Kept t u) : Kept s u where
  toAccounts := h.toAccounts.trans k.toAccounts
  inReset := k.inReset.trans h.inReset
  pending := k.pending.trans h.pending
  queue := k.queue.trans h.queue
  up l := (k.up l).trans (h.up l)
  receiver l := (k.receiver l).trans (h.receiver l)
  hold l := (k.hold l).trans (h.hold l)
  sound := k.sound ∘ h.sound
  motors := k.motors ∘ h.motors
  duties hm hd := k.duties (h.motors hm) (h.duties hm hd)
  voices := k.voices ∘ h.voices
  output := k.output ∘ h.output

theorem Kept.foldl {α : Type} {f : State → α → State} (h : ∀ s a, Kept s (f s a)) (as : List α) (s : State) :
    Kept s (as.foldl f s) := by
  induction as generalizing s with
  | nil => exact .refl s
  | cons a as ih => exact (h s a).trans (ih _)

/-- Links that stay in their places stay sound. -/
theorem Frames.sound {s t : State} (h : Frames s t) (hs : s.linksSound) : t.linksSound := by
  obtain ⟨radio, controller, sum, down⟩ := hs
  refine ⟨(h.link _).sound radio, (h.link _).sound controller, ?_, ?_⟩
  · rw [(h.link _).ceiling, (h.link _).ceiling]; exact sum
  · rw [h.inReset, (h.link _).up, (h.link _).up]; exact down

/-- An operation that leaves the links in their places and has its accounts, with what it does to motors and voices. -/
theorem Frames.kept {s t : State} (h : Frames s t) (a : Accounts s t) (motors : s.motorsConsistent → t.motorsConsistent)
    (duties : s.motorsConsistent → s.dutyCapped → t.dutyCapped) (voices : s.voicesConsistent → t.voicesConsistent)
    (output : s.outputSound → t.outputSound) : Kept s t where
  toAccounts := a
  inReset := h.inReset
  pending := h.pending
  queue := h.queue
  up l := (h.link l).up
  receiver l := (h.link l).receiver
  hold l := (h.link l).hold
  sound := h.sound
  motors := motors
  duties := duties
  voices := voices
  output := output

theorem PoolFrames.motor {s t : State} (h : PoolFrames s t) (p : Port) : t.motor p = s.motor p := by
  simp only [State.motor, h.motors]

theorem PoolFrames.voice {s t : State} (h : PoolFrames s t) (v : VoiceId) : t.voice v = s.voice v := by
  simp only [State.voice, h.voices]

theorem PoolFrames.outputSound {s t : State} (h : PoolFrames s t) (hs : s.outputSound) : t.outputSound := by
  unfold State.outputSound; rw [h.amp, h.speaker]; exact hs

/-- An operation of the credit manager keeps every invariant. -/
theorem PoolOp.kept {s t : State} (h : PoolOp s t) : Kept s t :=
  h.toFrames.kept h.toAccounts (fun hs p => by rw [h.motor]; exact hs p)
    (fun _ hs p => by rw [h.motor, h.supply]; exact hs p) (fun hs v => by rw [h.voice]; exact hs v) h.outputSound

/-- A hub whose other fields alone change keeps every invariant. -/
theorem Kept.of_same {s t : State} (h : PoolFrames s t) (hp : t.poolTotal = s.poolTotal) (hf : t.free = s.free)
    (hc : t.cell (.sys 3) = s.cell (.sys 3)) : Kept s t := PoolOp.kept ⟨h, .of_same hp hf hc⟩

/-! ## Motors -/

/-- A motor that stays within the table of R95, and whose duty does not pass a cap that it did not pass before. -/
structure Motor.Stays (cap : Nat) (m m' : Motor) : Prop where
  consistent : m.consistent → m'.consistent
  duty : m.consistent → m.duty.natAbs ≤ cap → m'.duty.natAbs ≤ cap

theorem Motor.Stays.refl (cap : Nat) (m : Motor) : m.Stays cap m := ⟨id, fun _ => id⟩

theorem Motor.Stays.trans {cap : Nat} {m n k : Motor} (h : m.Stays cap n) (h' : n.Stays cap k) : m.Stays cap k :=
  ⟨h'.consistent ∘ h.consistent, fun hc hd => h'.duty (h.consistent hc) (h.duty hc hd)⟩

/-- A motor with the same state, queue, output, bridge and duty. -/
theorem Motor.Stays.of_eq {cap : Nat} {m m' : Motor} (hs : m'.state = m.state) (hq : m'.queue = m.queue)
    (ho : m'.output = m.output) (hb : m'.bridge = m.bridge) (hd : m'.duty = m.duty) : m.Stays cap m' := by
  refine ⟨fun h => ?_, fun _ h => hd ▸ h⟩
  unfold Motor.consistent Motor.executing at h ⊢
  rw [hs, hq, ho, hb, hd]
  exact h

/-- A halted motor, IDLE, STALLED with COAST or LOCKED with BRAKE. -/
theorem Motor.halted_consistent (m : Motor) {o : MotorOutput} {st : MotionState} (ho : o ≠ .driven)
    (hst : st = .idle ∨ st = .stalled ∧ o = .coast ∨ st = .locked ∧ o = .brake) : (m.halted o st).consistent := by
  obtain rfl | ⟨rfl, rfl⟩ | ⟨rfl, rfl⟩ := hst <;>
    simp [Motor.consistent, Motor.halted, Motor.stopAt, Motor.executing, ho]

theorem Motor.Stays.halted (cap : Nat) (m : Motor) {o : MotorOutput} {st : MotionState} (ho : o ≠ .driven)
    (hst : st = .idle ∨ st = .stalled ∧ o = .coast ∨ st = .locked ∧ o = .brake) : m.Stays cap (m.halted o st) :=
  ⟨fun _ => m.halted_consistent ho hst, fun _ _ => Nat.zero_le _⟩

/-- A segment that starts at the head of the queue. -/
theorem Motor.Stays.start (cap : Nat) (m : Motor) (rated : Nat) (continuous : Bool) (g : Segment) (rest : List Segment) :
    m.Stays cap ({ m with queue := g :: rest }.start rated continuous g) :=
  ⟨fun _ => by simp [Motor.consistent, Motor.start, Motor.executing], fun _ h => h⟩

/-- An end action on an emptied queue. -/
theorem Motor.Stays.endWith (cap : Nat) (m : Motor) (a : EndAction) (accel : Nat) :
    m.Stays cap ({ m with queue := [] }.endWith a accel) := by
  cases a <;>
    exact ⟨fun _ => by simp [Motor.consistent, Motor.endWith, Motor.stopAt, Motor.executing],
      fun _ h => by simpa [Motor.endWith, Motor.stopAt] using h⟩

theorem Motor.Stays.endHead (cap : Nat) (m : Motor) (rated : Nat) : m.Stays cap (m.endHead rated) := by
  unfold Motor.endHead
  split
  · exact .start ..
  · exact .endWith ..
  · exact .refl ..

/-- HOLDING from the measured state, for a motor without segments. -/
theorem Motor.Stays.holdMeasured (cap : Nat) (m : Motor) (rated : Nat) (h : m.executing = false) :
    m.Stays cap (m.holdMeasured rated) := by
  refine ⟨fun ⟨hq, _⟩ => ?_, fun _ h => h⟩
  have : m.queue = [] := by by_contra hne; simp [hq.mpr hne] at h
  simp [Motor.consistent, Motor.holdMeasured, Motor.executing, this]

/-- A motion request keeps the table of R95. -/
theorem Motor.Stays.take (cap : Nat) (m : Motor) (rated : Nat) (r : MotionRequest) : m.Stays cap (m.take rated r).1 := by
  cases r with
  | append g =>
    simp only [Motor.take]
    split
    · next h => exact ⟨fun ⟨_, rest⟩ => ⟨by simpa [Motor.executing] using h, rest⟩, fun _ h => h⟩
    · exact .start ..
  | replace g => exact .start ..
  | abort a =>
    simp only [Motor.take]
    split
    · exact .endWith ..
    · next h =>
      cases a with
      | coast => exact .halted _ _ (by decide) (.inl rfl)
      | brake => exact .halted _ _ (by decide) (.inl rfl)
      | hold =>
        dsimp only
        split
        · exact .refl ..
        · exact .holdMeasured _ _ _ (by simpa using h)
  | zero => exact .of_eq rfl rfl rfl rfl rfl
  | lock => exact .halted _ _ (by decide) (.inr (.inr ⟨rfl, rfl⟩))

/-- Replacing the motor of a port. -/
theorem setMotor_kept {s : State} {p : Port} {m' : Option Motor}
    (h : ∀ n, m' = some n → (n.consistent ∧ n.duty = 0) ∨ ∃ m, s.motor p = some m ∧ m.Stays (capOf s.supply.state) n) :
    Kept s (s.setMotor p m') := by
  have motor : ∀ q n, (s.setMotor p m').motor q = some n →
      (n.consistent ∧ n.duty = 0) ∨ ∃ m, s.motor q = some m ∧ m.Stays (capOf s.supply.state) n := by
    intro q n hq
    by_cases e : p = q
    · subst e
      rw [State.motor_setMotor_same] at hq
      exact h n hq
    · rw [State.motor_setMotor_other s m' e] at hq
      exact .inr ⟨n, hq, .refl ..⟩
  refine Frames.kept ⟨rfl, rfl, rfl, rfl, fun _ => .refl _⟩ (.of_same rfl rfl rfl) (fun hs q n hq => ?_)
    (fun hs hd q n hq => ?_) id id
  · obtain ⟨hc, -⟩ | ⟨m, hm, hst⟩ := motor q n hq
    · exact hc
    · exact hst.consistent (hs q m hm)
  · obtain ⟨-, hz⟩ | ⟨m, hm, hst⟩ := motor q n hq
    · simp [hz]
    · exact hst.duty (hs q m hm) (hd q m hm)

theorem setMotor_none_kept (p : Port) (s : State) : Kept s (s.setMotor p none) := setMotor_kept fun _ h => by cases h

theorem setMotor_some_kept {s : State} {p : Port} {m n : Motor} (hm : s.motor p = some m)
    (h : m.Stays (capOf s.supply.state) n) : Kept s (s.setMotor p (some n)) :=
  setMotor_kept fun _ e => .inr ⟨m, hm, Option.some.inj e ▸ h⟩

theorem reportEnded_poolOp (p : Port) (x : Int) (ended : List (Segment × SegOutcome)) (s : State) :
    PoolOp s (reportEnded p x ended s) :=
  .foldl (fun _ _ => sendNotice_poolOp (by simp [segmentEndPayload, leInt, le32]) ..) ..

theorem reportState_poolOp (p : Port) (new prev : Nat) (m : Motor) (s : State) : PoolOp s (reportState p new prev m s) :=
  sendNotice_poolOp (by simp [motorStatePayload, leInt, le32, le16]) ..

theorem reportLowWater_poolOp (p : Port) (before after : Motor) (ended : List (Segment × SegOutcome)) (s : State) :
    PoolOp s (reportLowWater p before after ended s) := by
  unfold reportLowWater
  split
  · dsimp only
    split
    · exact sendNotice_poolOp (by simp [lowWaterPayload, le32]) ..
    · exact .refl s
  · exact .refl s

/-- The notices of a motor that changes are operations of the credit manager on the hub with the new motor. -/
theorem moveMotor_poolOp (p : Port) (before after : Motor) (ended : List (Segment × SegOutcome)) (s : State) :
    PoolOp (s.setMotor p (some after)) (moveMotor p before after ended s) := by
  have h := (reportEnded_poolOp p after.x ended (s.setMotor p (some after))).trans (reportLowWater_poolOp p before after ended _)
  unfold moveMotor
  dsimp only
  split
  · exact h
  · exact h.trans (reportState_poolOp ..)

/-- The motor that changes stands as it is moved. -/
@[simp] theorem moveMotor_motor (p : Port) (before after : Motor) (ended : List (Segment × SegOutcome)) (s : State) :
    (moveMotor p before after ended s).motor p = some after := by
  rw [(moveMotor_poolOp p before after ended s).motor, State.motor_setMotor_same]

@[simp] theorem moveMotor_supply (p : Port) (before after : Motor) (ended : List (Segment × SegOutcome)) (s : State) :
    (moveMotor p before after ended s).supply = s.supply := (moveMotor_poolOp p before after ended s).supply

theorem moveMotor_kept {s : State} {p : Port} {m n : Motor} (before : Motor) (ended : List (Segment × SegOutcome))
    (hm : s.motor p = some m) (h : m.Stays (capOf s.supply.state) n) : Kept s (moveMotor p before n ended s) :=
  (setMotor_some_kept hm h).trans (moveMotor_poolOp ..).kept

theorem takeMotion_kept {s : State} {p : Port} {m : Motor} (r : MotionRequest) (hm : s.motor p = some m) :
    Kept s (takeMotion p r m s) := moveMotor_kept _ _ hm (.take ..)

theorem linkMotorCommand_kept (p : Port) (o : Origin) (code : Byte) (r : Option MotionRequest) (s : State) :
    Kept s (linkMotorCommand p o code r s) := by
  unfold linkMotorCommand
  split
  · exact (sendRefused_poolOp ..).kept
  · split
    · exact (sendRefused_poolOp ..).kept
    · next hm =>
      split
      · exact (sendRefused_poolOp ..).kept
      · exact takeMotion_kept _ hm

theorem reflexMotion_kept (p : Port) (r : Option MotionRequest) (s : State) : Kept s (reflexMotion p r s).2 := by
  unfold reflexMotion
  split
  · exact .refl s
  · split
    · exact .refl s
    · next hm =>
      split
      · exact .refl s
      · exact takeMotion_kept _ hm

theorem reportStall_kept {s : State} {p : Port} {m : Motor} (hm : s.motor p = some m) : Kept s (reportStall p m s) := by
  have flag := setFlag_poolOp p flagMotorFault (s.setMotor p (some { m with stallTimer := 0 }))
  refine ((setMotor_some_kept hm (n := { m with stallTimer := 0 }) (.of_eq rfl rfl rfl rfl rfl)).trans flag.kept).trans
    (moveMotor_kept _ _ (by rw [flag.motor, State.motor_setMotor_same]) ?_)
  exact (Motor.Stays.halted _ _ (by decide) (.inr (.inl ⟨rfl, rfl⟩))).trans (.of_eq rfl rfl rfl rfl rfl)

theorem LossAction.output_ne_driven (a : LossAction) : a.output ≠ .driven := by cases a <;> decide

theorem examineLoss_kept (p : Port) (s : State) : Kept s (examineLoss p s) := by
  unfold examineLoss
  split
  · next hm =>
    split
    · exact moveMotor_kept _ _ hm (.halted _ _ (LossAction.output_ne_driven _) (.inl rfl))
    · exact .refl s
  · exact .refl s

theorem examineLossAt_kept (l : Link) (p : Port) (s : State) : Kept s (examineLossAt l p s) := by
  unfold examineLossAt
  split
  · split
    · exact examineLoss_kept p s
    · exact .refl s
  · exact .refl s

theorem supplyHalt_kept (p : Port) (s : State) : Kept s (supplyHalt p s) := by
  unfold supplyHalt
  split
  · next hm =>
    split
    · exact .refl s
    · refine moveMotor_kept _ _ hm (.halted _ _ (by decide) ?_)
      split
      · exact .inr (.inl ⟨rfl, rfl⟩)
      · exact .inl rfl
  · exact .refl s

theorem suspendMotor_kept (p : Port) (s : State) : Kept s (suspendMotor p s) := by
  unfold suspendMotor
  split
  · next hm => exact moveMotor_kept _ _ hm (.halted _ _ (by decide) (.inl rfl))
  · exact .refl s

theorem detachMotor_kept (p : Port) (s : State) : Kept s (detachMotor p s) := by
  unfold detachMotor
  split
  · exact (setMotor_none_kept p s).trans ((reportEnded_poolOp ..).trans (reportState_poolOp ..)).kept
  · exact .refl s

/-- A LOCKED motor that is unlocked. -/
theorem Motor.Stays.unlocked (cap : Nat) {m : Motor} (h : m.state = .locked) : m.Stays cap { m with state := .idle } := by
  refine ⟨fun ⟨h1, h2, _, h4, h5⟩ => ?_, fun _ h => h⟩
  have := h4 h
  simp_all [Motor.consistent, Motor.executing]

theorem unlockMotor_kept {s : State} {p : Port} {m : Motor} (hm : s.motor p = some m) (h : m.state = .locked) :
    Kept s (unlockMotor p m s) := moveMotor_kept _ _ hm (.unlocked _ h)

/-! ## Voices -/

/-- An operation on a voice `v` that leaves the links in their places, the motors and the other voices, with its accounts. -/
structure VoiceOp (v : VoiceId) (s t : State) : Prop extends Frames s t, Accounts s t where
  motors : t.motors = s.motors
  others : ∀ w, w ≠ v → t.voice w = s.voice w
  output : s.outputSound → t.outputSound

theorem VoiceOp.refl (v : VoiceId) (s : State) : VoiceOp v s s := ⟨.refl s, .refl s, rfl, fun _ _ => rfl, id⟩

theorem VoiceOp.trans {v : VoiceId} {s t u : State} (h : VoiceOp v s t) (k : VoiceOp v t u) : VoiceOp v s u :=
  ⟨h.toFrames.trans k.toFrames, h.toAccounts.trans k.toAccounts, k.motors.trans h.motors,
    fun w e => (k.others w e).trans (h.others w e), k.output ∘ h.output⟩

theorem PoolOp.voiceOp {s t : State} (h : PoolOp s t) (v : VoiceId) : VoiceOp v s t :=
  ⟨h.toFrames, h.toAccounts, h.motors, fun w _ => h.voice w, h.outputSound⟩

/-- A voice is IDLE exactly while it has no note (R140). -/
abbrev Voice.consistent (r : Voice) : Prop := r.state = .idle ↔ r.notes = []

/-- An operation on a voice keeps every invariant where it keeps that of the voice. -/
theorem VoiceOp.kept {v : VoiceId} {s t : State} (h : VoiceOp v s t)
    (hv : (s.voice v).consistent → (t.voice v).consistent) : Kept s t := by
  refine h.toFrames.kept h.toAccounts (fun hs p => ?_) (fun _ hs p => ?_) (fun hs w => ?_) h.output
  · simp only [State.motor, h.motors]; exact hs p
  · simp only [State.motor, h.motors, h.supply]; exact hs p
  · by_cases e : w = v
    · exact e ▸ hv (hs v)
    · rw [h.others w e]; exact hs w

/-- A voice whose stream queue keeps its pages. -/
theorem setVoice_voiceOp {v : VoiceId} {r : Voice} {s : State} (h : pagesOfAll r.stream = pagesOfAll (s.voice v).stream) :
    VoiceOp v s (s.setVoice v r) :=
  ⟨⟨rfl, rfl, rfl, rfl, fun _ => .refl _⟩, .of_same (by have := s.poolTotal_setVoice v r; omega) rfl rfl, rfl,
    fun _ e => State.voice_setVoice_other s r e.symm, id⟩

/-- A voice that changes with its notes and its stream queue kept, and IDLE or not as before. -/
theorem setVoice_kept {v : VoiceId} {r : Voice} {s : State} (hs : r.stream = (s.voice v).stream)
    (hn : (s.voice v).consistent → r.consistent) : Kept s (s.setVoice v r) :=
  (setVoice_voiceOp (by rw [hs])).kept (by rwa [State.voice_setVoice_same])

/-- The amplifier and its idle timer play no part in the frame. -/
theorem ampOff_voiceOp (v : VoiceId) (s : State) : VoiceOp v s (ampOff s) :=
  ⟨⟨rfl, rfl, rfl, rfl, fun _ => .refl _⟩, .of_same rfl rfl rfl, rfl, fun _ _ => rfl,
    fun _ => ⟨⟨show (-32768 : Int) ≤ 0 by decide, show (0 : Int) ≤ 32767 by decide⟩, fun _ => rfl⟩⟩

@[simp] theorem ampOff_voice (s : State) (v : VoiceId) : (ampOff s).voice v = s.voice v := rfl

theorem askWarmup_voiceOp (v : VoiceId) (s : State) : VoiceOp v s (askWarmup s) := by
  unfold askWarmup
  split
  · next off =>
    split
    · exact .refl v s
    · exact ⟨⟨rfl, rfl, rfl, rfl, fun _ => .refl _⟩, .of_same rfl rfl rfl, rfl, fun _ _ => rfl,
        fun ⟨h, z⟩ => ⟨h, fun _ => z (by simp [off])⟩⟩
  · exact .refl v s

@[simp] theorem askWarmup_voice (s : State) (v : VoiceId) : (askWarmup s).voice v = s.voice v := by
  unfold askWarmup; split
  · split <;> rfl
  · rfl

/-- Stopping or starting the idle timer. -/
theorem setIdleTimer_voiceOp (v : VoiceId) (t : Option Time) (s : State) : VoiceOp v s { s with idleTimer := t } :=
  ⟨⟨rfl, rfl, rfl, rfl, fun _ => .refl _⟩, .of_same rfl rfl rfl, rfl, fun _ _ => rfl, id⟩

theorem startIdleTimer_voiceOp (v : VoiceId) (s : State) : VoiceOp v s (startIdleTimer s) := by
  unfold startIdleTimer
  split
  · split
    · exact ampOff_voiceOp v s
    · exact setIdleTimer_voiceOp ..
  · exact .refl v s

@[simp] theorem startIdleTimer_voice (s : State) (v : VoiceId) : (startIdleTimer s).voice v = s.voice v := by
  unfold startIdleTimer; split
  · split <;> rfl
  · rfl

@[simp] theorem Voice.enterDecay_notes (r : Voice) (e : Envelope) : (r.enterDecay e).notes = r.notes := by
  unfold Voice.enterDecay; split <;> rfl
@[simp] theorem Voice.enterDecay_stream (r : Voice) (e : Envelope) : (r.enterDecay e).stream = r.stream := by
  unfold Voice.enterDecay; split <;> rfl
@[simp] theorem Voice.enterDecay_state (r : Voice) (e : Envelope) : (r.enterDecay e).state = r.state := by
  unfold Voice.enterDecay; split <;> rfl

@[simp] theorem Voice.enterPlaying_notes (r : Voice) (envs : Vector Envelope 8) (now : Time) :
    (r.enterPlaying envs now).notes = r.notes := by
  unfold Voice.enterPlaying; dsimp only; split
  · split <;> simp
  · rfl
@[simp] theorem Voice.enterPlaying_stream (r : Voice) (envs : Vector Envelope 8) (now : Time) :
    (r.enterPlaying envs now).stream = r.stream := by
  unfold Voice.enterPlaying; dsimp only; split
  · split <;> simp
  · rfl
@[simp] theorem Voice.enterPlaying_state (r : Voice) (envs : Vector Envelope 8) (now : Time) :
    (r.enterPlaying envs now).state = .playing := by
  unfold Voice.enterPlaying; dsimp only; split
  · split <;> simp
  · rfl

@[simp] theorem Voice.startNote_notes (r : Voice) : r.startNote.notes = r.notes := by
  unfold Voice.startNote; dsimp only; split
  · split <;> rfl
  · rfl
@[simp] theorem Voice.startNote_stream (r : Voice) : r.startNote.stream = r.stream := by
  unfold Voice.startNote; dsimp only; split
  · split <;> rfl
  · rfl

theorem startNote_voiceOp (v : VoiceId) (s : State) : VoiceOp v s (startNote v s) := by
  unfold startNote
  dsimp only
  split
  · exact (setVoice_voiceOp (by simp)).trans (setIdleTimer_voiceOp ..)
  · exact ((setVoice_voiceOp (by simp)).trans (setIdleTimer_voiceOp ..)).trans (askWarmup_voiceOp ..)

/-- A note that starts makes its voice sound or wait, with its notes in their place. -/
theorem startNote_voice (v : VoiceId) (s : State) :
    ((startNote v s).voice v).state ≠ .idle ∧ ((startNote v s).voice v).notes = (s.voice v).notes := by
  unfold startNote
  dsimp only
  split
  · show ((s.setVoice v _).voice v).state ≠ .idle ∧ ((s.setVoice v _).voice v).notes = _
    simp
  · rw [askWarmup_voice]
    show ((s.setVoice v _).voice v).state ≠ .idle ∧ ((s.setVoice v _).voice v).notes = _
    simp

/-- A note that starts on a voice with notes leaves it consistent. -/
theorem startNote_consistent {v : VoiceId} {s : State} (h : (s.voice v).notes ≠ []) :
    ((startNote v s).voice v).consistent := by
  obtain ⟨hs, hn⟩ := startNote_voice v s
  simp [Voice.consistent, hs, hn, h]

theorem becomeIdle_voiceOp (v : VoiceId) (s : State) : VoiceOp v s (becomeIdle v s) :=
  (setVoice_voiceOp (by rfl)).trans (startIdleTimer_voiceOp ..)

theorem becomeIdle_consistent (v : VoiceId) (s : State) : ((becomeIdle v s).voice v).consistent := by
  simp [becomeIdle, Voice.consistent]

theorem reportNotes_poolOp (v : VoiceId) (ended : List (Note × SegOutcome)) (s : State) : PoolOp s (reportNotes v ended s) :=
  .foldl (fun _ _ => sendNotice_poolOp (by simp [noteEndPayload, le32]) ..) ..

theorem endNote_voiceOp (v : VoiceId) (o : SegOutcome) (s : State) : VoiceOp v s (endNote v o s) := by
  unfold endNote
  dsimp only
  split
  · exact .refl v s
  · split
    · exact (setVoice_voiceOp (by rfl)).trans (startNote_voiceOp ..)
    · have h := (setVoice_voiceOp (v := v) (s := s) (r := { s.voice v with notes := ‹List Note› }) rfl).trans
        ((reportNotes_poolOp v [(‹Note›, o)] _).voiceOp v)
      split
      · exact h.trans (becomeIdle_voiceOp ..)
      · exact h.trans (startNote_voiceOp ..)

/-- The end of a note leaves its voice consistent. -/
theorem endNote_consistent {v : VoiceId} {o : SegOutcome} {s : State} (h : (s.voice v).consistent) :
    ((endNote v o s).voice v).consistent := by
  unfold endNote
  dsimp only
  split
  · exact h
  · split
    · exact startNote_consistent (by simp)
    · split
      · exact becomeIdle_consistent ..
      · exact startNote_consistent (by rw [(reportNotes_poolOp ..).voice]; simpa)

theorem endNote_kept (v : VoiceId) (o : SegOutcome) (s : State) : Kept s (endNote v o s) :=
  (endNote_voiceOp v o s).kept endNote_consistent

/-- Replacing a voice plays no part in a frame. -/
theorem Frames.of_setVoice {s t : State} {v : VoiceId} {r : Voice} (h : Frames (s.setVoice v r) t) : Frames s t :=
  ⟨h.inReset, h.pending, h.queue, h.supply, h.link⟩

/-- The stream queue behind its first frames is freed. -/
theorem freeStream_voiceOp (k : Nat) (v : VoiceId) (s : State) : VoiceOp v s (freeStream k v s) := by
  have hr := release_frames (pagesOfAll ((s.voice v).stream.drop k))
    (s.setVoice v { s.voice v with stream := (s.voice v).stream.take k })
  have hp := s.poolTotal_setVoice v { s.voice v with stream := (s.voice v).stream.take k }
  have hk := pagesOfAll_take_add_drop k (s.voice v).stream
  refine ⟨hr.toFrames.of_setVoice, ⟨?_, fun hs hf => ?_⟩, hr.motors,
    fun w e => ?_, fun h => hr.outputSound h⟩
  · show (release _ _).poolTotal = _
    rw [release_poolTotal]; dsimp only at hp; omega
  · exact release_shown (by dsimp only at hp; omega) hf
  · show (release _ _).voice w = _
    rw [hr.voice, State.voice_setVoice_other s _ e.symm]

@[simp] theorem freeStream_voice (k : Nat) (v : VoiceId) (s : State) :
    (freeStream k v s).voice v = { s.voice v with stream := (s.voice v).stream.take k } := by
  rw [freeStream]
  dsimp only
  rw [(release_frames ..).voice, State.voice_setVoice_same]

theorem freeStream_kept (k : Nat) (v : VoiceId) (s : State) : Kept s (freeStream k v s) :=
  (freeStream_voiceOp k v s).kept (by rw [freeStream_voice]; exact id)

theorem queueNote_kept (v : VoiceId) (n : Note) (s : State) : Kept s (queueNote v n s) := by
  unfold queueNote
  dsimp only
  split
  · exact ((setVoice_voiceOp (by rfl)).trans (startNote_voiceOp ..)).kept fun _ => startNote_consistent (by simp)
  · next h => exact setVoice_kept rfl fun hc => by simpa [Voice.consistent, h] using hc

theorem playNote_kept (v : VoiceId) (n : Note) (s : State) : Kept s (playNote v n s) := by
  have h := ((setVoice_voiceOp (v := v) (s := s) (r := { s.voice v with loopOn := false, notes := [n] }) rfl).trans
    ((reportNotes_poolOp v (endedNotes (s.voice v).notes .superseded) _).voiceOp v)).trans (freeStream_voiceOp 0 v _)
  refine (h.trans (startNote_voiceOp ..)).kept fun _ => startNote_consistent ?_
  rw [freeStream_voice, (reportNotes_poolOp ..).voice, State.voice_setVoice_same]
  simp

theorem silence_voiceOp (v : VoiceId) (o : SegOutcome) (s : State) : VoiceOp v s (silence v o s) :=
  (((setVoice_voiceOp (by rfl)).trans ((reportNotes_poolOp ..).voiceOp v)).trans (freeStream_voiceOp ..)).trans
    (becomeIdle_voiceOp ..)

theorem silence_kept (v : VoiceId) (o : SegOutcome) (s : State) : Kept s (silence v o s) :=
  (silence_voiceOp v o s).kept fun _ => becomeIdle_consistent ..

theorem flushBehind_voiceOp (v : VoiceId) (s : State) : VoiceOp v s (flushBehind v s) :=
  (setVoice_voiceOp (by rfl)).trans ((reportNotes_poolOp ..).voiceOp v)

@[simp] theorem flushBehind_voice (v : VoiceId) (s : State) :
    (flushBehind v s).voice v = { s.voice v with notes := (s.voice v).notes.take 1 } := by
  rw [flushBehind]
  dsimp only
  rw [(reportNotes_poolOp ..).voice, State.voice_setVoice_same]

/-- A voice that keeps a sounding state keeps a note. -/
theorem flushBehind_kept {v : VoiceId} {s : State} : Kept s (flushBehind v s) :=
  (flushBehind_voiceOp v s).kept fun h => by
    rw [flushBehind_voice]
    simpa [Voice.consistent, List.take_eq_nil_iff] using h

theorem stopReleaseVoice_kept (v : VoiceId) (s : State) : Kept s (stopReleaseVoice v s) := by
  have marked : Kept s (s.setVoice v { s.voice v with loopOn := false, stopMarker := true }) := setVoice_kept rfl id
  unfold stopReleaseVoice
  dsimp only
  refine marked.trans ?_
  split
  · exact freeStream_kept ..
  · exact silence_kept ..
  · exact silence_kept ..
  · next hst hn =>
    have released : ∀ (r : Voice) (t : State), r.notes ≠ [] → r.state ≠ .idle → r.stream = (t.voice v).stream →
        Kept t (t.setVoice v r) := fun r t h1 h2 h3 => setVoice_kept h3 fun _ => by simp [Voice.consistent, h1, h2]
    split
    · exact silence_kept ..
    · split
      · refine (setVoice_kept ?_ ?_).trans (silence_kept ..)
        · simp
        · simp [Voice.consistent]
      · refine (flushBehind_kept.trans (released _ _ ?_ ?_ ?_)).trans (freeStream_kept ..)
        all_goals simp [hn]
    · refine (flushBehind_kept.trans (released _ _ ?_ ?_ ?_)).trans (freeStream_kept ..)
      all_goals simp [hn]
  · exact flushBehind_kept.trans (freeStream_kept ..)
  · exact .refl _

theorem takeSound_kept (v : VoiceId) (r : SoundRequest) (s : State) : Kept s (takeSound v r s) := by
  cases r with
  | queue n => exact queueNote_kept ..
  | play n => exact playNote_kept ..
  | stopRelease => exact stopReleaseVoice_kept ..
  | stopCut =>
    simp only [takeSound, stopCutVoice]
    split
    · exact freeStream_kept ..
    · exact silence_kept ..
  | setGain g =>
    simp only [takeSound, setGainVoice]
    split
    · next hn => exact setVoice_kept rfl fun h => by simpa [Voice.consistent, hn] using h
    · exact .refl s
  | setLoop on => exact setVoice_kept rfl id

theorem linkSoundCommand_kept (v : VoiceId) (o : Origin) (code : Byte) (r : Option SoundRequest) (s : State) :
    Kept s (linkSoundCommand v o code r s) := by
  unfold linkSoundCommand
  split
  · exact (sendRefused_poolOp ..).kept
  · split
    · exact (sendRefused_poolOp ..).kept
    · exact takeSound_kept ..

theorem reflexSound_kept (v : VoiceId) (r : Option SoundRequest) (s : State) : Kept s (reflexSound v r s).2 := by
  unfold reflexSound
  split
  · exact .refl s
  · split
    · exact .refl s
    · exact takeSound_kept ..

theorem supplyCut_kept (v : VoiceId) (s : State) : Kept s (supplyCut v s) := by
  unfold supplyCut
  split
  · exact .refl s
  · exact silence_kept ..

end Sys2Proof.Machine
end

section
/-!
What the motor loop, the observers of a write, the acquisition unit, the port manager and the supply monitor keep (chapters 03 to
08, 10 and 11).
-/
namespace Sys2Proof.Machine

/-! ## The motor loop -/

theorem onMotor_kept {p : Port} {f : Motor → State → State} {s : State} (h : ∀ m, s.motor p = some m → Kept s (f m s)) :
    Kept s (onMotor p f s) := by
  unfold onMotor
  split
  · next m hm => exact h m hm
  · exact .refl s

theorem Motor.Stays.encoderStep (cap : Nat) (m : Motor) (forward : Bool) : m.Stays cap (m.encoderStep forward) := by
  unfold Motor.encoderStep
  dsimp only
  split <;> split <;> exact .of_eq rfl rfl rfl rfl rfl

theorem Motor.Stays.moveTo (cap : Nat) (m : Motor) (g : Segment) (target : Int) (h : m.state = .running) :
    m.Stays cap (m.moveTo g target) := by
  unfold Motor.moveTo
  dsimp only
  split
  · refine ⟨fun hc => ?_, fun _ hd => hd⟩
    simpa [Motor.consistent, Motor.executing, h] using hc
  · exact .of_eq rfl rfl rfl rfl rfl

theorem Motor.Stays.profile (cap : Nat) (m : Motor) (rated : Nat) : m.Stays cap (m.profile rated) := by
  unfold Motor.profile
  split
  · next running =>
    split
    · split
      · exact .of_eq rfl rfl rfl rfl rfl
      · exact .of_eq rfl rfl rfl rfl rfl
      · exact .moveTo _ _ _ _ running
      · exact .moveTo _ _ _ _ running
    · exact .refl ..
  · exact .of_eq rfl rfl rfl rfl rfl
  · exact .refl ..

theorem Motor.Stays.settle (cap : Nat) (m : Motor) : m.Stays cap m.settle.1 := by
  unfold Motor.settle
  split
  · split
    · exact .refl ..
    · exact .of_eq rfl rfl rfl rfl rfl
  · exact .refl ..

theorem finishHead_kept {s : State} {p : Port} {m : Motor} (o : SegOutcome) (hm : s.motor p = some m) :
    Kept s (finishHead p o m s) := moveMotor_kept _ _ hm (.endHead ..)

theorem profilePeriod_kept {s : State} {p : Port} {m : Motor} (hm : s.motor p = some m) : Kept s (profilePeriod p m s) := by
  have stepped := moveMotor_kept m [] hm (.profile _ m (s.classes.get m.cls).ratedMax)
  have settled := setMotor_some_kept (moveMotor_motor p m (m.profile (s.classes.get m.cls).ratedMax) [] s) (.settle _ _)
  unfold profilePeriod
  dsimp only
  split
  · exact (stepped.trans settled).trans (finishHead_kept _ (by rw [State.motor_setMotor_same]))
  · exact stepped.trans settled

theorem measurePeriod_kept {s : State} {p : Port} {m : Motor} (hm : s.motor p = some m) : Kept s (measurePeriod p m s) := by
  have measured := setMotor_some_kept (n := m.measured) hm (.of_eq rfl rfl rfl rfl rfl)
  unfold measurePeriod
  dsimp only
  split
  · exact measured
  · exact measured.trans (reportState_poolOp ..).kept

/-- A value within symmetric bounds has at most their magnitude. -/
theorem natAbs_clampInt_le (limit : Nat) (x : Int) : (clampInt (-(limit : Int)) limit x).natAbs ≤ limit := by
  unfold clampInt; omega

/-- The limited duty of a period does not pass the cap (R122). -/
theorem Motor.Stays.applied (cap : Nat) (m : Motor) (comp : Int) : m.Stays cap (m.applied cap comp) := by
  refine ⟨fun ⟨h1, h2, h3, h4, _⟩ => ⟨h1, h2, h3, h4, fun h => ⟨rfl, ?_⟩⟩, fun _ _ => ?_⟩
  · exact if_neg h
  · show (if m.output = .driven then clampInt (-(m.dutyLimit cap : Int)) (m.dutyLimit cap) comp else 0).natAbs ≤ cap
    split
    · exact (natAbs_clampInt_le ..).trans (Nat.min_le_right ..)
    · exact Nat.zero_le _

theorem dutyCap_eq_capOf (st : SupplyState) : st.dutyCap = capOf st := by cases st <;> rfl

theorem dutyPeriod_kept {s : State} {p : Port} {m : Motor} (current comp : Int) (hm : s.motor p = some m) :
    Kept s (dutyPeriod p current comp m s) := by
  have folded : m.Stays (capOf s.supply.state) { m with foldback := m.foldbackAfter current } :=
    .of_eq rfl rfl rfl rfl rfl
  have driven := setMotor_some_kept hm (folded.trans (.applied (capOf s.supply.state) _ comp))
  rw [← dutyCap_eq_capOf] at driven
  unfold dutyPeriod
  dsimp only
  split
  · exact driven.trans (setFlag_poolOp ..).kept
  · exact driven

theorem stallPeriod_kept {s : State} {p : Port} {m : Motor} (comp : Int) (hm : s.motor p = some m) :
    Kept s (stallPeriod p comp m s) := by
  unfold stallPeriod
  dsimp only
  split
  · split
    · exact reportStall_kept hm
    · exact setMotor_some_kept hm (.of_eq (by rfl) (by rfl) (by rfl) (by rfl) (by rfl))
  · exact setMotor_some_kept hm (.of_eq (by rfl) (by rfl) (by rfl) (by rfl) (by rfl))

/-! ## The observers of a write -/

theorem reflexAct_kept (i : Fin 16) (a : ReflexAction) (w : Write) (s : State) : Kept s (reflexAct i a w s).2 := by
  cases a with
  | motorReplace p seg => exact reflexMotion_kept ..
  | motorStop p e lock => exact reflexMotion_kept ..
  | voicePlay v note => exact reflexSound_kept ..
  | voiceStop v cut => exact reflexSound_kept ..
  | sendEvent e =>
    show Kept s (sendEvent (some e) (reflexSignalPayload i w s.hubTime) s)
    exact (sendEvent_poolOp (payload := reflexSignalPayload i w s.hubTime) (by simp [reflexSignalPayload, leInt, le32]) ..).kept

theorem setReflex_kept (i : Fin 16) (r : Reflex) (s : State) : Kept s (s.setReflex i r) :=
  .of_same ⟨⟨rfl, rfl, rfl, rfl, fun _ => .refl _⟩, rfl, rfl, rfl, rfl⟩ rfl rfl rfl

theorem setSub_kept (i : Fin 24) (b : Subscription) (s : State) : Kept s (s.setSub i b) :=
  .of_same ⟨⟨rfl, rfl, rfl, rfl, fun _ => .refl _⟩, rfl, rfl, rfl, rfl⟩ rfl rfl rfl

theorem fireReflex_kept (i : Fin 16) (w : Write) (s : State) : Kept s (fireReflex i w s) :=
  (((reflexAct_kept ..).trans (setReflex_kept ..)).trans (setLatch_poolOp ..).kept).trans
    (sendEvent_poolOp (by simp [reflexFiredPayload, leInt, le32]) ..).kept

theorem evaluateReflex_kept (w : Write) (s : State) (i : Fin 16) : Kept s (evaluateReflex w s i) := by
  unfold evaluateReflex
  dsimp only
  split
  · refine Kept.trans ?_ (setReflex_kept ..)
    split
    · exact .refl s
    · split
      · exact fireReflex_kept ..
      · exact .refl s
    · split
      · exact setReflex_kept ..
      · exact .refl s
  · exact .refl s

theorem askReport_kept (i : Fin 24) (c : Cell) (s : State) : Kept s (askReport i c s) := by
  unfold askReport
  dsimp only
  split
  · next room =>
    exact (placeReport_poolOp (by simp [reportFrame, leInt, le32, le16]) room).kept.trans (setSub_kept ..)
  · exact setSub_kept ..

theorem emissionAttempt_kept (i : Fin 24) (c : Cell) (s : State) : Kept s (emissionAttempt i c s) := by
  unfold emissionAttempt
  dsimp only
  split
  · split
    · exact askReport_kept ..
    · exact setSub_kept ..
  · exact .refl s

theorem observeSub_kept (w : Write) (s : State) (i : Fin 24) : Kept s (observeSub w s i) := by
  unfold observeSub
  dsimp only
  split
  · refine Kept.trans ?_ (emissionAttempt_kept ..)
    split
    · exact setSub_kept ..
    · exact .refl s
  · exact .refl s

theorem observe_kept (w : Write) (s : State) : Kept s (observe w s) :=
  (Kept.foldl (evaluateReflex_kept w) ..).trans (Kept.foldl (observeSub_kept w) ..)

/-- The writes that wait play no part in any invariant. -/
theorem setUnobserved_kept (ws : List Write) (s : State) : Kept s { s with unobserved := ws } :=
  .of_same ⟨⟨rfl, rfl, rfl, rfl, fun _ => .refl _⟩, rfl, rfl, rfl, rfl⟩ rfl rfl rfl

theorem drainFuel_kept (n : Nat) (s : State) : Kept s (drainFuel n s) := by
  induction n generalizing s with
  | zero => exact setUnobserved_kept ..
  | succ n ih =>
    unfold drainFuel
    split
    · exact .refl s
    · next w rest _ => exact ((setUnobserved_kept rest s).trans (observe_kept ..)).trans (ih _)

theorem drain_kept (s : State) : Kept s (drain s) := drainFuel_kept ..

/-! ## Cells -/

theorem setPortCell_kept (p : Port) (i : Fin 4) (c : Cell) (s : State) : Kept s (s.setCell (.port p i) c) :=
  .of_same ⟨⟨rfl, rfl, rfl, rfl, fun _ => .refl _⟩, rfl, rfl, rfl, rfl⟩ rfl rfl rfl

theorem commitPortWrite_kept (p : Port) (i : Fin 4) (c : Cell) (setsRange : Bool) (s : State) :
    Kept s (commitPortWrite p i c setsRange s) :=
  (((setPortCell_kept ..).trans (writeFlags_poolOp ..).kept).trans (observe_kept ..)).trans (drain_kept _)

theorem writePortCell_kept (p : Port) (i : Fin 4) (value : Int) (tag : CellTag) (writer : Writer) (setsRange : Bool)
    (s : State) : Kept s (writePortCell p i value tag writer setsRange s) := commitPortWrite_kept ..

theorem retagPortCell_kept (p : Port) (s : State) (i : Fin 4) : Kept s (retagPortCell p s i) := by
  unfold retagPortCell
  dsimp only
  split
  · exact commitPortWrite_kept ..
  · exact .refl s

theorem emptyPortCell_kept (p : Port) (s : State) (i : Fin 4) : Kept s (emptyPortCell p s i) := by
  unfold emptyPortCell
  dsimp only
  split
  · exact .refl s
  · exact commitPortWrite_kept ..

/-- A system cell other than S3. -/
theorem setSysCell_kept {i : Fin 4} (h : i ≠ 3) (c : Cell) (s : State) : Kept s (s.setCell (.sys i) c) :=
  .of_same ⟨⟨rfl, rfl, rfl, rfl, fun _ => .refl _⟩, rfl, rfl, rfl, rfl⟩ rfl rfl
    (State.cell_setCell_other s c (by simpa using h))

theorem commitWrite_kept {i : Fin 4} (h : i ≠ 3) (c : Cell) (s : State) : Kept s (commitWrite (.sys i) c s) := by
  unfold commitWrite
  exact ((setSysCell_kept h ..).trans (observe_kept ..)).trans (drain_kept _)

theorem writeSupplyCell_kept {i : Fin 4} (h : i ≠ 3) (value : Int) (s : State) : Kept s (writeSupplyCell i value s) :=
  commitWrite_kept h ..

/-! ## The control period -/

theorem cellsPeriod_kept (p : Port) (m : Motor) (s : State) : Kept s (cellsPeriod p m s) := by
  unfold cellsPeriod
  exact (((writePortCell_kept ..).trans (writePortCell_kept ..)).trans (writePortCell_kept ..)).trans (writePortCell_kept ..)

theorem endPeriod_kept {s : State} {p : Port} {m : Motor} (hm : s.motor p = some m) : Kept s (endPeriod p m s) := by
  unfold endPeriod
  split
  · exact finishHead_kept _ hm
  · exact .refl s

theorem motionPeriod_kept {s : State} {p : Port} {m : Motor} (hm : s.motor p = some m) : Kept s (motionPeriod p m s) := by
  have measured := (setMotor_some_kept (n := m.inForce) hm (.of_eq rfl rfl rfl rfl rfl)).trans
    (onMotor_kept (p := p) fun _ h => measurePeriod_kept h)
  unfold motionPeriod
  dsimp only
  split
  · exact (measured.trans (examineLoss_kept ..)).trans (onMotor_kept fun _ h => profilePeriod_kept h)
  · exact measured.trans (onMotor_kept fun _ h => profilePeriod_kept h)

theorem drivePeriod_kept {s : State} {p : Port} {m : Motor} (current : Int) (hm : s.motor p = some m) :
    Kept s (drivePeriod p current m s) :=
  (dutyPeriod_kept _ _ hm).trans (onMotor_kept fun _ h => stallPeriod_kept _ h)

theorem controlPeriod_kept (p : Port) (current : Int) (s : State) : Kept s (controlPeriod p current s) :=
  (((onMotor_kept fun _ h => motionPeriod_kept h).trans (onMotor_kept fun _ h => drivePeriod_kept _ h)).trans
    (onMotor_kept fun _ _ => cellsPeriod_kept ..)).trans (onMotor_kept fun _ h => endPeriod_kept h)

theorem periodFalls_kept {s : State} {p : Port} {m : Motor} (current : Int) (hm : s.motor p = some m) :
    Kept s (periodFalls p current m s) := by
  unfold periodFalls
  split
  · exact (setMotor_some_kept hm (.of_eq (by rfl) (by rfl) (by rfl) (by rfl) (by rfl))).trans (controlPeriod_kept ..)
  · exact .refl s

theorem settleTimedOut_kept {s : State} {p : Port} {m : Motor} (hm : s.motor p = some m) :
    Kept s (settleTimedOut p m s) := by
  have settled := Motor.Stays.settle (capOf s.supply.state) m
  unfold settleTimedOut
  split
  · next ends =>
    rw [ends] at settled
    split
    · exact (setMotor_some_kept hm settled).trans (finishHead_kept _ (State.motor_setMotor_same ..))
    · exact .refl s
  · exact .refl s

theorem durationEnded_kept {s : State} {p : Port} {m : Motor} (hm : s.motor p = some m) :
    Kept s (durationEnded p m s) := by
  unfold durationEnded
  dsimp only
  split
  · exact (setMotor_some_kept hm (.of_eq (by rfl) (by rfl) (by rfl) (by rfl) (by rfl))).trans (finishHead_kept _ (State.motor_setMotor_same ..))
  · exact .refl s

theorem stallDetected_kept {s : State} {p : Port} {m : Motor} (hm : s.motor p = some m) :
    Kept s (stallDetected p m s) := by
  unfold stallDetected
  split
  · exact reportStall_kept hm
  · exact .refl s

/-! ## The acquisition unit -/

theorem setPort_kept (p : Port) (r : PortRec) (s : State) : Kept s (s.setPort p r) :=
  .of_same ⟨⟨rfl, rfl, rfl, rfl, fun _ => .refl _⟩, rfl, rfl, rfl, rfl⟩ rfl rfl rfl

theorem setAcq_kept (p : Port) (a : Acquisition) (s : State) : Kept s (s.setAcq p a) :=
  .of_same ⟨⟨rfl, rfl, rfl, rfl, fun _ => .refl _⟩, rfl, rfl, rfl, rfl⟩ rfl rfl rfl

theorem writeConverted_kept (p : Port) (i : Fin 4) (c : Converted) (s : State) : Kept s (writeConverted p i c s) :=
  writePortCell_kept ..

theorem takeAnalog_kept (p : Port) (raw : RawSample) (s : State) : Kept s (takeAnalog p raw s) :=
  (setAcq_kept ..).trans (writeConverted_kept ..)

theorem startAnalog_kept (p : Port) (raw : RawSample) (s : State) : Kept s (startAnalog p raw s) :=
  (setAcq_kept ..).trans (takeAnalog_kept ..)

theorem sendPoll_kept (p : Port) (s : State) : Kept s (sendPoll p s) := (setAcq_kept ..).trans (setPort_kept ..)

theorem staleCells_kept (p : Port) (n : Nat) (s : State) : Kept s (staleCells p n s) := .foldl (retagPortCell_kept p) ..

theorem pollMiss_kept (p : Port) (s : State) : Kept s (pollMiss p s) := by
  unfold pollMiss
  dsimp only
  split
  · exact ((setAcq_kept ..).trans (staleCells_kept ..)).trans (setFlag_poolOp ..).kept
  · exact setAcq_kept ..

theorem goodSample_kept (p : Port) (m : Mode) (raws : List Int) (s : State) : Kept s (goodSample p m raws s) :=
  (setAcq_kept ..).trans (.foldl (fun _ _ => writeConverted_kept ..) ..)

theorem onLine_kept {p : Port} {m : LineReply} {act : State → State} {s : State} (h : Kept s (act s)) :
    Kept s (onLine p m act s) := by
  unfold onLine
  split
  · exact .refl s
  · split
    · exact (setPort_kept ..).trans (setAcq_kept ..)
    · exact h

theorem sampleArrives_kept (p : Port) (m : LineReply) (s : State) : Kept s (sampleArrives p m s) := by
  unfold sampleArrives
  split
  · split
    · split
      · exact goodSample_kept ..
      · exact (setFlag_poolOp ..).kept.trans (pollMiss_kept ..)
    · exact (setFlag_poolOp ..).kept
  · exact .refl s

theorem holdArrives_kept (p : Port) (m : LineReply) (s : State) : Kept s (holdArrives p m s) := by
  unfold holdArrives
  split
  · split
    · exact pollMiss_kept ..
    · exact (setFlag_poolOp ..).kept
  · exact .refl s

theorem strayArrives_kept (p : Port) (kind : Byte) (m : LineReply) (s : State) : Kept s (strayArrives p kind m s) := by
  unfold strayArrives
  split
  · exact (setFlag_poolOp ..).kept
  · exact .refl s

theorem rewriteCells_kept (p : Port) (n : Nat) (s : State) : Kept s (rewriteCells p n s) := by
  refine .foldl (fun s i => ?_) ..
  split
  · exact retagPortCell_kept ..
  · exact emptyPortCell_kept ..

theorem emptyCells_kept (p : Port) (s : State) : Kept s (emptyCells p s) := .foldl (emptyPortCell_kept p) ..

/-! ## The port manager -/

theorem reportEntry_kept (p : Port) (s : State) : Kept s (reportEntry p s) :=
  (setLatch_poolOp ..).kept.trans (sendEvent_poolOp (by simp [portStatePayload, le16, le32]) ..).kept

theorem detach_kept (p : Port) (s : State) : Kept s (detach p s) :=
  (((((setPort_kept ..).trans (setAcq_kept ..)).trans (detachMotor_kept ..)).trans (clearFlags_poolOp ..).kept).trans
    (emptyCells_kept ..)).trans (setPort_kept ..)

theorem enterEmpty_kept (p : Port) (s : State) : Kept s (enterEmpty p s) :=
  ((detach_kept ..).trans (setPort_kept ..)).trans (reportEntry_kept ..)

theorem enterDetecting_kept (p : Port) (band : Band) (s : State) : Kept s (enterDetecting p band s) := setPort_kept ..

theorem detectFrom_kept (p : Port) (band : Band) (s : State) : Kept s (detectFrom p band s) := by
  unfold detectFrom
  split
  · exact enterEmpty_kept ..
  · exact enterDetecting_kept ..

theorem enterFault_kept (p : Port) (reason : FaultReason) (s : State) : Kept s (enterFault p reason s) := by
  unfold enterFault
  dsimp only
  split
  · exact ((((setPort_kept ..).trans (detach_kept ..)).trans (setPort_kept ..)).trans (reportEntry_kept ..)).trans
      (setFlag_poolOp ..).kept
  · exact (((setPort_kept ..).trans (detach_kept ..)).trans (setPort_kept ..)).trans (reportEntry_kept ..)

theorem enterActive_kept (p : Port) (s : State) : Kept s (enterActive p s) := (setPort_kept ..).trans (reportEntry_kept ..)

theorem sendConfigure_kept (p : Port) (rate : LineRate) (s : State) : Kept s (sendConfigure p rate s) :=
  (setPort_kept ..).trans (setPort_kept ..)

theorem enterConfiguring_kept (p : Port) (rate : LineRate) (mode : Nat) (s : State) :
    Kept s (enterConfiguring p rate mode s) :=
  ((setPort_kept ..).trans (emptyCells_kept ..)).trans (sendConfigure_kept ..)

theorem sendQuery_kept (p : Port) (count : Nat) (s : State) : Kept s (sendQuery p count s) :=
  (setPort_kept ..).trans (setPort_kept ..)

theorem sendSelect_kept (p : Port) (mode : Nat) (s : State) : Kept s (sendSelect p mode s) :=
  (((setPort_kept ..).trans (setPort_kept ..)).trans (setAcq_kept ..)).trans (rewriteCells_kept ..)

theorem readBand_kept (p : Port) (band : Band) (s : State) : Kept s (readBand p band s) := by
  unfold readBand
  dsimp only
  split
  · split
    · exact .refl s
    · exact enterDetecting_kept ..
  · split
    · exact enterEmpty_kept ..
    · split
      · split
        · exact .refl s
        · exact enterDetecting_kept ..
      · exact enterDetecting_kept ..
  · exact setPort_kept ..

theorem readingFalls_kept (p : Port) (band : Band) (s : State) : Kept s (readingFalls p band s) := by
  unfold readingFalls
  dsimp only
  split
  · exact (setPort_kept ..).trans (readBand_kept ..)
  · exact .refl s

theorem attachMotor_kept (p : Port) (c : MotorClass) (s : State) : Kept s (attachMotor p c s) :=
  setMotor_kept fun _ h => .inl (by cases h; exact ⟨by simp [Motor.consistent, Motor.attached, Motor.executing], rfl⟩)

theorem attach_kept (p : Port) (band : Band) (raw : RawSample) (s : State) : Kept s (attach p band raw s) := by
  unfold attach
  refine (setPort_kept p { s.port p with band := band, cls := DeviceClass.ofBand band, debounce := none } s).trans ?_
  dsimp only
  split
  · exact (enterActive_kept ..).trans (startAnalog_kept ..)
  · exact (enterActive_kept ..).trans (startAnalog_kept ..)
  · exact (attachMotor_kept ..).trans (enterActive_kept ..)
  · exact setPort_kept ..
  · exact enterFault_kept ..
  · exact enterEmpty_kept ..

theorem debounceExpires_kept (p : Port) (raw : RawSample) (s : State) : Kept s (debounceExpires p raw s) := by
  unfold debounceExpires
  dsimp only
  split
  · split
    · exact attach_kept ..
    · exact .refl s
  · exact .refl s

theorem bandWatchExpires_kept (p : Port) (band : Band) (s : State) : Kept s (bandWatchExpires p band s) := by
  unfold bandWatchExpires
  split
  · split
    · exact enterEmpty_kept ..
    · exact setPort_kept ..
  · split
    · exact enterEmpty_kept ..
    · exact (enterEmpty_kept ..).trans (enterDetecting_kept ..)

theorem bandWatchDue_kept (p : Port) (s : State) : Kept s (bandWatchDue p s) := by
  unfold bandWatchDue
  dsimp only
  split
  · split
    · exact bandWatchExpires_kept ..
    · exact .refl s
  · exact .refl s

theorem recoveryDue_kept (p : Port) (band : Band) (s : State) : Kept s (recoveryDue p band s) := by
  unfold recoveryDue
  dsimp only
  split
  · exact detectFrom_kept ..
  · exact .refl s

theorem lineBreakEnds_kept (p : Port) (s : State) : Kept s (lineBreakEnds p s) := by
  unfold lineBreakEnds
  dsimp only
  split
  · exact (setPort_kept ..).trans (sendQuery_kept ..)
  · exact .refl s

theorem queryAgain_kept (p : Port) (s : State) : Kept s (queryAgain p s) := by
  unfold queryAgain
  dsimp only
  split
  · exact sendQuery_kept ..
  · exact .refl s

theorem identifyExpires_kept (p : Port) (s : State) : Kept s (identifyExpires p s) := by
  unfold identifyExpires
  dsimp only
  split
  · exact enterFault_kept ..
  · exact .refl s

theorem descriptionArrives_kept (p : Port) (m : LineReply) (s : State) : Kept s (descriptionArrives p m s) := by
  unfold descriptionArrives
  dsimp only
  split
  · split
    · exact (setPort_kept ..).trans (enterConfiguring_kept ..)
    · exact .refl s
  · exact strayArrives_kept ..

theorem configureAccepted_kept (p : Port) (m : LineReply) (s : State) : Kept s (configureAccepted p m s) := by
  unfold configureAccepted
  dsimp only
  split
  · split
    · exact ((setPort_kept ..).trans (enterActive_kept ..)).trans (setAcq_kept ..)
    · exact .refl s
  · exact strayArrives_kept ..

theorem configureExpires_kept (p : Port) (s : State) : Kept s (configureExpires p s) := by
  unfold configureExpires
  split
  · split
    · exact enterFault_kept ..
    · exact .refl s
  · exact .refl s

theorem deferredSelect_kept (p : Port) (s : State) : Kept s (deferredSelect p s) := by
  unfold deferredSelect
  dsimp only
  split
  · split
    · exact sendSelect_kept ..
    · exact .refl s
  · exact .refl s

theorem takeSelectMode_kept (p : Port) (mode : Nat) (s : State) : Kept s (takeSelectMode p mode s) :=
  (setPort_kept ..).trans (deferredSelect_kept ..)

theorem selectAccepted_kept (p : Port) (m : LineReply) (s : State) : Kept s (selectAccepted p m s) := by
  unfold selectAccepted
  dsimp only
  split
  · split
    · exact (setPort_kept ..).trans (setAcq_kept ..)
    · exact .refl s
  · exact strayArrives_kept ..

theorem selectExpires_kept (p : Port) (s : State) : Kept s (selectExpires p s) := by
  unfold selectExpires
  split
  · split
    · exact enterFault_kept ..
    · exact .refl s
  · exact .refl s

theorem analogDue_kept (p : Port) (raw : RawSample) (s : State) : Kept s (analogDue p raw s) := by
  unfold analogDue
  dsimp only
  split
  · exact takeAnalog_kept ..
  · exact .refl s

theorem pollDueNow_kept (p : Port) (s : State) : Kept s (pollDueNow p s) := by
  unfold pollDueNow
  dsimp only
  split
  · exact sendPoll_kept ..
  · exact .refl s

theorem pollWindowCloses_kept (p : Port) (s : State) : Kept s (pollWindowCloses p s) := by
  unfold pollWindowCloses
  split
  · split
    · exact pollMiss_kept ..
    · exact .refl s
  · exact .refl s

theorem watchdogExpires_kept (p : Port) (s : State) : Kept s (watchdogExpires p s) := by
  unfold watchdogExpires
  split
  · exact enterFault_kept ..
  · exact .refl s

theorem suspendPort_kept (p : Port) (s : State) : Kept s (suspendPort p s) := by
  unfold suspendPort
  dsimp only
  split
  · exact ((setAcq_kept ..).trans (setPort_kept ..)).trans (suspendMotor_kept ..)
  · exact ((setAcq_kept ..).trans (setPort_kept ..)).trans (staleCells_kept ..)

theorem resumePort_kept (p : Port) (raw : RawSample) (s : State) : Kept s (resumePort p raw s) := by
  unfold resumePort
  dsimp only
  split
  · exact (enterActive_kept ..).trans (startAnalog_kept ..)
  · exact (enterActive_kept ..).trans (startAnalog_kept ..)
  · exact enterConfiguring_kept ..
  · exact (suspendMotor_kept ..).trans (enterActive_kept ..)

theorem resetPort_kept (p : Port) (band : Band) (s : State) : Kept s (resetPort p band s) :=
  ((detach_kept ..).trans (setPort_kept ..)).trans (detectFrom_kept ..)

/-! ## The supply monitor -/

/-- A motor whose duty is reduced to a cap (R122). -/
def Motor.capped (m : Motor) (cap : Nat) : Motor := { m with duty := clampInt (-(cap : Int)) cap m.duty }

theorem capDuty_eq (cap : Nat) (p : Port) (s : State) :
    capDuty cap p s = s.setMotor p ((s.motor p).map fun m => m.capped cap) := by
  unfold capDuty
  split
  · next hm => rw [hm]; rfl
  · next hm => rw [hm]; exact (State.setMotor_self hm).symm

theorem Motor.capped_consistent {m : Motor} (cap : Nat) (h : m.consistent) : (m.capped cap).consistent := by
  obtain ⟨h1, h2, h3, h4, h5⟩ := h
  refine ⟨h1, h2, h3, h4, fun ho => ⟨(h5 ho).1, ?_⟩⟩
  show clampInt _ _ m.duty = 0
  rw [(h5 ho).2]; unfold clampInt; omega

/-- The duties of all six ports are reduced to a cap: nothing else changes. -/
theorem capAll_eq (cap : Nat) (s : State) :
    allPorts.foldl (fun s p => capDuty cap p s) s =
      { s with motors := s.motors.map fun m => m.map fun m => m.capped cap } := by
  simp only [allPorts, List.foldl_cons, List.foldl_nil, capDuty_eq, State.setMotor, State.motor, PerPort.get, PerPort.set,
    PerPort.map]

theorem PerPort.get_map {α β : Type} (f : α → β) (x : PerPort α) (p : Port) : (x.map f).get p = f (x.get p) := by
  cases p <;> rfl

/-- A change of supply state, with the caps it brings at once (R122, R132). -/
theorem changeCaps_kept (new : SupplyState) (s : State) :
    Kept s { s with supply := s.supply.changed new
                    motors := s.motors.map fun m => m.map fun m => m.capped new.dutyCap } := by
  have motor : ∀ (p : Port) (n : Motor), (s.motors.map fun m => m.map fun m => m.capped new.dutyCap).get p = some n →
      ∃ m, s.motor p = some m ∧ n = m.capped new.dutyCap := by
    intro p n hn
    rw [PerPort.get_map, Option.map_eq_some_iff] at hn
    obtain ⟨m, hm, rfl⟩ := hn
    exact ⟨m, hm, rfl⟩
  refine ⟨.of_same rfl rfl rfl, rfl, rfl, rfl, fun _ => rfl, fun _ => rfl, fun _ => rfl, id, fun hs p n hn => ?_,
    fun hs _ p n hn => ?_, id, id⟩
  · obtain ⟨m, hm, rfl⟩ := motor p n hn
    exact Motor.capped_consistent _ (hs p m hm)
  · obtain ⟨m, hm, rfl⟩ := motor p n hn
    show (m.capped new.dutyCap).duty.natAbs ≤ capOf new
    rw [← dutyCap_eq_capOf]
    exact natAbs_clampInt_le ..

theorem criticalActions_kept (s : State) : Kept s (criticalActions s) :=
  ((Kept.foldl (fun s p => supplyHalt_kept p s) ..).trans ((ampOff_voiceOp 0 _).kept id)).trans
    (.foldl (fun s v => supplyCut_kept v s) ..)

theorem changeSupply_kept (new : SupplyState) (s : State) : Kept s (changeSupply new s) := by
  unfold changeSupply
  dsimp only
  rw [capAll_eq]
  refine Kept.trans ?_ (sendEvent_poolOp (by simp [supplyStatePayload, le16, le32]) ..).kept
  refine Kept.trans ?_ (setLatch_poolOp ..).kept
  refine Kept.trans ?_ (writeSupplyCell_kept (by decide) ..)
  split
  · exact (changeCaps_kept ..).trans (criticalActions_kept _)
  · exact changeCaps_kept ..

/-- The record of the supply, but for its state, plays no part in any invariant. -/
theorem setSupply_kept {u : Supply} {s : State} (h : u.state = s.supply.state) : Kept s { s with supply := u } :=
  ⟨.of_same rfl rfl rfl, rfl, rfl, rfl, fun _ => rfl, fun _ => rfl, fun _ => rfl, id, id,
    fun _ hd p m hm => by show _ ≤ capOf u.state; rw [h]; exact hd p m hm, id, id⟩

theorem measureSupply_kept (voltage current : Nat) (s : State) : Kept s (measureSupply voltage current s) :=
  ((setSupply_kept (by rfl)).trans (writeSupplyCell_kept (by decide) ..)).trans (writeSupplyCell_kept (by decide) ..)

theorem evaluateSupply_kept (first : Bool) (v : Int) (s : State) : Kept s (evaluateSupply first v s) := by
  unfold evaluateSupply
  refine (setSupply_kept (u := s.supply.timed v s.hubTime) rfl).trans ?_
  dsimp only
  split
  · exact changeSupply_kept ..
  · split
    · exact writeSupplyCell_kept (by decide) ..
    · exact .refl _

theorem takeMeasurement_kept (voltage current : Nat) (s : State) : Kept s (takeMeasurement voltage current s) := by
  unfold takeMeasurement
  exact (measureSupply_kept ..).trans (evaluateSupply_kept ..)

theorem measurementDue_kept (voltage current : Nat) (s : State) : Kept s (measurementDue voltage current s) := by
  unfold measurementDue
  split
  · exact takeMeasurement_kept ..
  · exact .refl s

theorem supplyChangeDue_kept (wanted : SupplyState → SupplyState → Bool) (s : State) :
    Kept s (supplyChangeDue wanted s) := by
  unfold supplyChangeDue
  split
  · split
    · exact changeSupply_kept ..
    · exact .refl s
  · exact .refl s

/-! ## Subscriptions by time -/

theorem periodExpires_kept (i : Fin 24) (s : State) : Kept s (periodExpires i s) := by
  unfold periodExpires
  dsimp only
  split
  · split
    · exact (setSub_kept ..).trans (emissionAttempt_kept ..)
    · exact .refl s
  · exact .refl s

theorem intervalEnds_kept (i : Fin 24) (s : State) : Kept s (intervalEnds i s) := by
  unfold intervalEnds
  dsimp only
  split
  · exact (setSub_kept ..).trans (emissionAttempt_kept ..)
  · exact .refl s

end Sys2Proof.Machine
end

section
/-!
What the envelopes, the streams and the mixer keep (chapter 09), and what the effects of the management requests keep (chapter 12).
-/
namespace Sys2Proof.Machine

/-! ## Envelopes -/

@[simp] theorem Voice.envelopeStep_notes (r : Voice) (e : Envelope) : (r.envelopeStep e).notes = r.notes := by
  unfold Voice.envelopeStep
  split
  · split <;> simp
  · split
    · rfl
    · split <;> rfl
  · rfl
  · split <;> rfl

@[simp] theorem Voice.envelopeStep_stream (r : Voice) (e : Envelope) : (r.envelopeStep e).stream = r.stream := by
  unfold Voice.envelopeStep
  split
  · split <;> simp
  · split
    · rfl
    · split <;> rfl
  · rfl
  · split <;> rfl

@[simp] theorem Voice.envelopeStep_state (r : Voice) (e : Envelope) : (r.envelopeStep e).state = r.state := by
  unfold Voice.envelopeStep
  split
  · split <;> simp
  · split
    · rfl
    · split <;> rfl
  · rfl
  · split <;> rfl

/-- A voice with a note whose state is not IDLE is consistent. -/
theorem Voice.consistent_of_sounding {r : Voice} (hs : r.state ≠ .idle) (hn : r.notes ≠ []) : r.consistent := by
  simp [Voice.consistent, hs, hn]

/-- A voice whose state and notes are those of a consistent one is consistent. -/
theorem Voice.consistent_of_eq {r r' : Voice} (hs : r'.state = r.state) (hn : r'.notes = r.notes) (h : r.consistent) :
    r'.consistent := by
  unfold Voice.consistent; rw [hs, hn]; exact h

theorem reachDuration_kept (v : VoiceId) (k : Nat) (s : State) : Kept s (reachDuration v k s) := by
  unfold reachDuration
  dsimp only
  split
  · next hn =>
    split
    · exact (setVoice_kept (by rfl) (Voice.consistent_of_eq (by rfl) (by rfl))).trans (endNote_kept ..)
    · split
      · exact (setVoice_kept (by rfl) fun _ => Voice.consistent_of_sounding (by simp) (by simp [hn])).trans
          (endNote_kept ..)
      · exact setVoice_kept (by rfl) fun _ => Voice.consistent_of_sounding (by simp) (by simp [hn])
    · exact .refl s
  · exact .refl s

theorem stepEnvelope_kept (v : VoiceId) (s : State) : Kept s (stepEnvelope v s) := by
  unfold stepEnvelope
  dsimp only
  split
  · split
    · split
      · exact (setVoice_kept (by simp) (Voice.consistent_of_eq (by simp) (by simp))).trans (reachDuration_kept ..)
      · exact setVoice_kept (by simp) (Voice.consistent_of_eq (by simp) (by simp))
    · split
      · exact reachDuration_kept ..
      · exact setVoice_kept (by rfl) (Voice.consistent_of_eq (by rfl) (by rfl))
    · exact .refl s
  · split
    · split
      · exact (setVoice_kept (by simp) (Voice.consistent_of_eq (by simp) (by simp))).trans (endNote_kept ..)
      · exact setVoice_kept (by simp) (Voice.consistent_of_eq (by simp) (by simp))
    · exact .refl s
  · exact .refl s

theorem stepFalls_kept (v : VoiceId) (s : State) : Kept s (stepFalls v s) := by
  unfold stepFalls
  dsimp only
  split
  · exact (setVoice_kept (by rfl) (Voice.consistent_of_eq (by rfl) (by rfl))).trans (stepEnvelope_kept ..)
  · exact .refl s

theorem durationDue_kept (v : VoiceId) (s : State) : Kept s (durationDue v s) := by
  unfold durationDue
  dsimp only
  split
  · split
    · exact reachDuration_kept ..
    · exact .refl s
  · exact .refl s

theorem starvedEnds_kept (v : VoiceId) (s : State) : Kept s (starvedEnds v s) := by
  unfold starvedEnds
  dsimp only
  split
  · exact endNote_kept ..
  · exact .refl s

/-! ## The amplifier -/

theorem leaveWaiting_kept (s : State) (v : VoiceId) : Kept s (leaveWaiting s v) := by
  unfold leaveWaiting
  split
  · next waiting => exact setVoice_kept (by simp) fun h => by simpa [Voice.consistent, waiting] using h
  · exact .refl s

/-- The amplifier is ON with its output kept. -/
theorem setAmpOn_kept (s : State) : Kept s { s with amp := .on } :=
  Frames.kept ⟨rfl, rfl, rfl, rfl, fun _ => .refl _⟩ (.of_same rfl rfl rfl) id (fun _ => id) id
    fun ⟨range, _⟩ => ⟨range, fun h => absurd rfl h⟩

theorem startIdleTimer_kept (s : State) : Kept s (startIdleTimer s) :=
  (startIdleTimer_voiceOp 0 s).kept (by rw [startIdleTimer_voice]; exact id)

theorem warmupEnds_kept (s : State) : Kept s (warmupEnds s) := by
  unfold warmupEnds
  split
  · split
    · exact ((setAmpOn_kept s).trans (.foldl leaveWaiting_kept ..)).trans (startIdleTimer_kept _)
    · exact .refl s
  · exact .refl s

theorem ampOff_kept (s : State) : Kept s (ampOff s) := (ampOff_voiceOp 0 s).kept id

theorem idleEnds_kept (s : State) : Kept s (idleEnds s) := by
  unfold idleEnds
  split
  · exact ampOff_kept s
  · exact .refl s

/-! ## Streams and the mixer -/

theorem freeCurrentFrame_voiceOp (v : VoiceId) (s : State) : VoiceOp v s (freeCurrentFrame v s) := by
  unfold freeCurrentFrame
  dsimp only
  split
  · next f rest hs =>
    have hp := s.poolTotal_setVoice v { s.voice v with stream := rest, playIndex := 0, secondUse := false }
    have hr := release_frames f.pages (s.setVoice v { s.voice v with stream := rest, playIndex := 0, secondUse := false })
    rw [hs, pagesOfAll_cons] at hp
    refine ⟨hr.toFrames.of_setVoice, ⟨?_, fun hs hf => ?_⟩, hr.motors, fun w e => ?_, fun h => hr.outputSound h⟩
    · rw [release_poolTotal]; dsimp only at hp; omega
    · exact release_shown (by dsimp only at hp; omega) hf
    · rw [hr.voice, State.voice_setVoice_other s _ e.symm]
  · exact .refl v s

/-- The voice whose current frame was freed keeps its state and its notes. -/
theorem freeCurrentFrame_voice (v : VoiceId) (s : State) :
    ((freeCurrentFrame v s).voice v).state = (s.voice v).state ∧
      ((freeCurrentFrame v s).voice v).notes = (s.voice v).notes := by
  unfold freeCurrentFrame
  dsimp only
  split
  · rw [(release_frames ..).voice, State.voice_setVoice_same]; exact ⟨rfl, rfl⟩
  · exact ⟨rfl, rfl⟩

theorem freeCurrentFrame_kept (v : VoiceId) (s : State) : Kept s (freeCurrentFrame v s) :=
  (freeCurrentFrame_voiceOp v s).kept
    (Voice.consistent_of_eq (freeCurrentFrame_voice v s).1 (freeCurrentFrame_voice v s).2)

/-- A voice that is not IDLE enters STARVED. -/
theorem enterStarved_kept {v : VoiceId} {s : State} (h : (s.voice v).state ≠ .idle) : Kept s (enterStarved v s) :=
  setVoice_kept (by rfl) fun hc => Voice.consistent_of_sounding (by simp) fun hn => h (hc.mpr hn)

theorem afterFrame_kept {v : VoiceId} (f : Frame) {s : State} (h : (s.voice v).state ≠ .idle) :
    Kept s (afterFrame v f s) := by
  unfold afterFrame
  dsimp only
  split
  · exact endNote_kept ..
  · split
    · exact enterStarved_kept h
    · exact .refl s

/-- The freeing of the current frame and what follows it. -/
theorem spendFrame_kept {v : VoiceId} (f : Frame) {s : State} (h : (s.voice v).state ≠ .idle) :
    Kept s (afterFrame v f (freeCurrentFrame v s)) :=
  (freeCurrentFrame_kept v s).trans (afterFrame_kept f (by rwa [(freeCurrentFrame_voice v s).1]))

/-- A spent frame behind which the stream goes on leaves its voice in its state. -/
theorem spendFrame_state {v : VoiceId} {f : Frame} {rest : List Frame} {s : State} (hs : (s.voice v).stream = f :: rest)
    (he : (s.voice v).endsWith f = false) (hr : rest ≠ []) :
    ((afterFrame v f (freeCurrentFrame v s)).voice v).state = (s.voice v).state := by
  have hst := (freeCurrentFrame_voice v s).1
  have hends : ((freeCurrentFrame v s).voice v).endsWith f = false := by
    unfold Voice.endsWith at he ⊢; rw [hst]; exact he
  have hstream : ((freeCurrentFrame v s).voice v).stream = rest := by
    simp only [freeCurrentFrame, hs]
    rw [(release_frames ..).voice, State.voice_setVoice_same]
  simp [afterFrame, hends, hstream, hr, hst]

theorem streamSample_kept (fuel : Nat) {v : VoiceId} (n : Note) {s : State} (h : (s.voice v).state ≠ .idle) :
    Kept s (streamSample fuel v n s).2 := by
  induction fuel generalizing s with
  | zero => exact .refl s
  | succ fuel ih =>
    unfold streamSample
    dsimp only
    split
    · dsimp only
      split
      · exact endNote_kept ..
      · exact enterStarved_kept h
    · next f rest hs =>
      split
      · have counted : ∀ r : Voice, r.stream = (s.voice v).stream → r.state = (s.voice v).state →
            r.notes = (s.voice v).notes → r.endsWith f = (s.voice v).endsWith f →
            Kept s (if (s.voice v).endsWith f || rest = [] then
                ((0 : Int), afterFrame v f (freeCurrentFrame v (s.setVoice v r)))
              else streamSample fuel v n (afterFrame v f (freeCurrentFrame v (s.setVoice v r)))).2 := by
          intro r hstream hstate hnotes hends
          have spent : Kept s (afterFrame v f (freeCurrentFrame v (s.setVoice v r))) :=
            (setVoice_kept hstream (Voice.consistent_of_eq hstate hnotes)).trans (spendFrame_kept f (by simpa [hstate]))
          split
          · exact spent
          · next goes =>
            simp only [Bool.or_eq_true, decide_eq_true_eq, not_or, Bool.not_eq_true] at goes
            refine spent.trans (ih ?_)
            rw [spendFrame_state (rest := rest) (by simpa [hstream]) (by simpa [hends] using goes.1) goes.2]
            simpa [hstate]
        refine counted _ ?_ ?_ ?_ ?_ <;> split <;> rfl
      · split
        · exact setVoice_kept (by rfl) (Voice.consistent_of_eq (by rfl) (by rfl))
        · split
          · exact setVoice_kept (by rfl) (Voice.consistent_of_eq (by rfl) (by rfl))
          · exact spendFrame_kept f h

theorem voiceSample_kept (v : VoiceId) (s : State) : Kept s (voiceSample v s).2 := by
  unfold voiceSample
  dsimp only
  split
  · split
    · next sounding =>
      split
      · exact setVoice_kept (by rfl) (Voice.consistent_of_eq (by rfl) (by rfl))
      · exact streamSample_kept _ _ fun h => by simp [h] at sounding
      · exact .refl s
    · exact .refl s
  · exact .refl s

theorem mix_kept (sum : Int) (s : State) : Kept s (mix sum s) := by
  refine Frames.kept ⟨rfl, rfl, rfl, rfl, fun _ => .refl _⟩ (.of_same rfl rfl rfl) id (fun _ => id) id fun _ => ?_
  simp only [State.outputSound, mix]
  split
  · next on => exact ⟨by unfold clampInt; omega, fun h => absurd on h⟩
  · exact ⟨by omega, fun _ => rfl⟩

theorem outputSampleAll_kept (s : State) : Kept s (outputSampleAll s) :=
  ((((voiceSample_kept 0 s).trans (voiceSample_kept 1 _)).trans (voiceSample_kept 2 _)).trans
    (voiceSample_kept 3 _)).trans (mix_kept ..)

/-! ## The effects of LOADs -/

/-- The ceilings that a LOAD of LINK_SETTINGS may bring (R5): each within 8 to 48, at most 96 together, and none below its
link's outstanding credit. -/
structure CeilingsFit (a b : Nat) (s : State) : Prop where
  radio : (s.link .radio).outstanding ≤ a
  controller : (s.link .controller).outstanding ≤ b
  range : 8 ≤ a ∧ a ≤ 48 ∧ 8 ≤ b ∧ b ≤ 48 ∧ a + b ≤ 96

/-- A link with another ceiling that fits. -/
theorem LinkUnit.sound_setCeiling {u : LinkUnit} {n : Nat} (h : u.sound) (ho : u.outstanding ≤ n) (lo : 8 ≤ n) (hi : n ≤ 48) :
    { u with ceiling := n }.sound := ⟨ho, lo, hi, h.2.2.2.1, h.2.2.2.2⟩

theorem setCeilings_kept {a b : Nat} {s : State} (h : CeilingsFit a b s) :
    Kept s (setCeiling .controller b (setCeiling .radio a s)) := by
  obtain ⟨ho, ho', lo, hi, lo', hi', sum⟩ := h
  refine ⟨.of_same rfl rfl rfl, rfl, rfl, rfl, fun l => by cases l <;> rfl, fun l => by cases l <;> rfl,
    fun l => by cases l <;> rfl, fun ⟨radio, controller, _, down⟩ => ⟨?_, ?_, sum, down⟩, id, fun _ => id, id, id⟩
  · exact LinkUnit.sound_setCeiling radio ho lo hi
  · exact LinkUnit.sound_setCeiling controller ho' lo' hi'

theorem reviewOperation_kept (l : Link) (s : State) : Kept s (reviewOperation l s) :=
  PoolOp.kept ⟨reviewOperation_frames l s, reviewOperation_accounts l s⟩

theorem loadCeilings_kept {a b : Nat} {s : State} (h : CeilingsFit a b s) : Kept s (loadCeilings a b s) := by
  have set := setCeilings_kept h
  unfold loadCeilings
  dsimp only
  split
  · exact (set.trans (reviewOperation_kept ..)).trans (reviewOperation_kept ..)
  · exact set.trans (reviewOperation_kept ..)
  · exact set.trans (reviewOperation_kept ..)
  · exact set

theorem loadSound_kept (g : SoundSettings) (s : State) : Kept s (loadSound g s) := by
  have set : Kept s { s with sound := g } :=
    .of_same ⟨⟨rfl, rfl, rfl, rfl, fun _ => .refl _⟩, rfl, rfl, rfl, rfl⟩ rfl rfl rfl
  unfold loadSound
  dsimp only
  split
  · exact set.trans (ampOff_kept _)
  · exact set

/-- The effect of a LOAD whose ceilings fit, where it brings any. -/
theorem Load.effect_kept {x : Load} {s : State} (h : ∀ a b, x = .ceilings a b → CeilingsFit a b s) :
    Kept s (x.effect s) := by
  cases x with
  | route l c r => exact .of_same ⟨⟨rfl, rfl, rfl, rfl, fun _ => .refl _⟩, rfl, rfl, rfl, rfl⟩ rfl rfl rfl
  | motorClass c e => exact .of_same ⟨⟨rfl, rfl, rfl, rfl, fun _ => .refl _⟩, rfl, rfl, rfl, rfl⟩ rfl rfl rfl
  | motorSettings p g =>
    show Kept s (onMotor p (fun m s => s.setMotor p (some { m with loaded := g })) s)
    refine onMotor_kept fun m hm => ?_
    exact setMotor_some_kept (n := { m with loaded := g }) hm (.of_eq rfl rfl rfl rfl rfl)
  | portSettings p g => exact setPort_kept ..
  | calibration i t => exact .of_same ⟨⟨rfl, rfl, rfl, rfl, fun _ => .refl _⟩, rfl, rfl, rfl, rfl⟩ rfl rfl rfl
  | wavetable i w => exact .of_same ⟨⟨rfl, rfl, rfl, rfl, fun _ => .refl _⟩, rfl, rfl, rfl, rfl⟩ rfl rfl rfl
  | envelope i e => exact .of_same ⟨⟨rfl, rfl, rfl, rfl, fun _ => .refl _⟩, rfl, rfl, rfl, rfl⟩ rfl rfl rfl
  | reflex i r => exact setReflex_kept ..
  | subscription i b => exact (setSub_kept ..).trans (emissionAttempt_kept ..)
  | supply g => exact setSupply_kept rfl
  | sound g => exact loadSound_kept ..
  | ceilings a b => exact loadCeilings_kept (h a b rfl)
  | eventRoute r => exact setSupply_kept rfl

/-- The ceilings of an accepted LOAD of LINK_SETTINGS fit (R5). -/
theorem ceilingsFit_of_load {t : Table} {i : Nat} {bs : List Byte} {a b : Nat} {s : State}
    (hx : loadOf t i bs = some (.ceilings a b)) (hc : (Load.ceilings a b).check s = .ok) : CeilingsFit a b s := by
  have range : 8 ≤ a ∧ a ≤ 48 ∧ 8 ≤ b ∧ b ≤ 48 ∧ a + b ≤ 96 := by
    cases t <;> simp [loadOf, Option.bind_eq_some_iff, fixedRecord, ceilingsOf] at hx
    omega
  have out : ¬ (a < (s.link .radio).outstanding ∨ b < (s.link .controller).outstanding) := by
    intro h
    rw [Load.check, if_pos (by simpa using h)] at hc
    cases hc
  exact ⟨by omega, by omega, range⟩

/-! ## The effects of requests -/

theorem clearRead_kept (t : Table) (i : Nat) (s : State) : Kept s (clearRead t i s) := by
  unfold clearRead
  split
  · split
    · exact setVoice_kept (by rfl) (Voice.consistent_of_eq (by rfl) (by rfl))
    · exact .refl s
  · exact .of_same ⟨⟨rfl, rfl, rfl, rfl, fun _ => .refl _⟩, rfl, rfl, rfl, rfl⟩ rfl rfl rfl
  · exact .refl s

theorem portControlEffect_kept (op : PortOperation) (p : Port) (mode : Nat) (band : Band) (raw : RawSample) (s : State) :
    Kept s (portControlEffect op p mode band raw s) := by
  cases op with
  | reset => exact resetPort_kept ..
  | suspend => exact suspendPort_kept ..
  | resume => exact resumePort_kept ..
  | selectMode => exact takeSelectMode_kept ..

/-- The attention record plays no part in any invariant. -/
theorem setAttention_kept (a : Attention) (s : State) : Kept s { s with attention := a } :=
  .of_same ⟨⟨rfl, rfl, rfl, rfl, fun _ => .refl _⟩, rfl, rfl, rfl, rfl⟩ rfl rfl rfl

/-- An accepted LOAD in a hub whose links stand as at its check. -/
theorem load_effect_kept {t i : Byte} {bs : List Byte} {s₀ s : State} (band : Band) (raw : RawSample)
    (hc : (Request.load t i bs).check s₀ = .ok) (hl : s.links = s₀.links) :
    Kept s ((Request.load t i bs).effect band raw s) := by
  simp only [Request.effect]
  split
  · next x hx =>
    obtain ⟨tab, ht, hx⟩ := Option.bind_eq_some_iff.mp hx
    refine Load.effect_kept fun a b e => ?_
    subst e
    have hchk : (Load.ceilings a b).check s₀ = .ok := by
      simp only [Request.check, ht, hx, loadCheck] at hc
      split at hc
      · cases hc
      · split at hc
        · cases hc
        · exact hc
    obtain ⟨h1, h2, h3⟩ := ceilingsFit_of_load hx hchk
    exact ⟨by rwa [State.link, hl], by rwa [State.link, hl], h3⟩
  · exact .refl s

theorem motorUnlock_effect_kept {p : Byte} {s₀ s : State} (band : Band) (raw : RawSample)
    (hc : (Request.motorUnlock p).check s₀ = .ok) (hm : s.motors = s₀.motors) :
    Kept s ((Request.motorUnlock p).effect band raw s) := by
  refine onMotor_kept fun m h => unlockMotor_kept h ?_
  simp only [Request.check] at hc
  split at hc
  · cases hc
  · next q hq =>
    have : s₀.motor q = some m := by
      rw [← h]; simp [State.motor, hm, portIndex, hq]
    rw [this, unlockCheck] at hc
    split at hc
    · assumption
    · cases hc

/-- The effect of a request that passed its checks in a hub with the same links and motors. -/
theorem Request.effect_kept {q : Request} {s₀ s : State} (band : Band) (raw : RawSample) (hc : q.check s₀ = .ok)
    (hl : s.links = s₀.links) (hm : s.motors = s₀.motors) : Kept s (q.effect band raw s) := by
  cases q with
  | identify => exact .refl s
  | hubReset => exact .refl s
  | load t i bs => exact load_effect_kept band raw hc hl
  | read t i =>
    simp only [Request.effect]
    split
    · exact clearRead_kept ..
    · exact .refl s
  | portControl p op mode =>
    simp only [Request.effect]
    split
    · exact portControlEffect_kept ..
    · exact .refl s
  | motorUnlock p => exact motorUnlock_effect_kept band raw hc hm
  | reflexArm i =>
    simp only [Request.effect]
    split
    · exact setReflex_kept ..
    · exact .refl s
  | readFlags p => exact (clearFlags_poolOp ..).kept
  | readAttention => exact setAttention_kept ..
  | setAttention mask mode =>
    simp only [Request.effect]
    split
    · exact setAttention_kept ..
    · exact .refl s
  | readCounters l =>
    simp only [Request.effect]
    split
    · exact PoolOp.kept ⟨modCounters_frames .., modCounters_accounts ..⟩
    · exact .refl s
  | setFlagMask p mask => exact (setFlagRec_poolOp ..).kept

end Sys2Proof.Machine
end

section
/-!
What every step keeps: the commands of the links, of the management unit and of the resets, and the invariants of every step
(statements O3, O6, O7, O9 and O10).
-/
namespace Sys2Proof.Machine

/-- What a command does to the invariants, of a hub that is not held in reset or of one that it takes out of it. -/
structure Good (s t : State) : Prop where
  pending : t.pending = s.pending
  conserved : s.conserved → t.conserved
  shown : s.conserved → s.freeShown → t.freeShown
  sound : s.linksSound → t.linksSound
  motors : s.motorsConsistent → t.motorsConsistent
  duties : s.motorsConsistent → s.dutyCapped → t.dutyCapped
  voices : s.voicesConsistent → t.voicesConsistent
  output : s.outputSound → t.outputSound

theorem Good.refl (s : State) : Good s s := ⟨rfl, id, fun _ => id, id, id, fun _ => id, id, id⟩

theorem Good.trans {s t u : State} (h : Good s t) (k : Good t u) : Good s u where
  pending := k.pending.trans h.pending
  conserved := k.conserved ∘ h.conserved
  shown hc hs := k.shown (h.conserved hc) (h.shown hc hs)
  sound := k.sound ∘ h.sound
  motors := k.motors ∘ h.motors
  duties hm hd := k.duties (h.motors hm) (h.duties hm hd)
  voices := k.voices ∘ h.voices
  output := k.output ∘ h.output

theorem Kept.good {s t : State} (h : Kept s t) : Good s t where
  pending := h.pending
  conserved hs := h.pool.trans hs
  shown hs := h.shown (Nat.le_of_eq hs)
  sound := h.sound
  motors := h.motors
  duties := h.duties
  voices := h.voices
  output := h.output

/-! ## One link unit -/

/-- A link unit that is replaced by one with as many pages, UP or DOWN as before or in a hub that is not held in reset, with its
ceiling, and sound where it was. -/
theorem setLink_good {s : State} {l : Link} {u : LinkUnit} (hp : u.pageTotal = (s.link l).pageTotal)
    (hc : u.ceiling = (s.link l).ceiling) (hu : u.up = (s.link l).up ∨ s.inReset = false)
    (hs : (s.link l).sound → u.sound) : Good s (s.setLink l u) where
  pending := rfl
  conserved h := (State.poolTotal_setLink_of_eq hp).trans h
  shown _ h := h
  sound := by
    rintro ⟨radio, controller, sum, down⟩
    cases l
    · refine ⟨hs radio, controller, ?_, fun hr => ?_⟩
      · show u.ceiling + _ ≤ 96; rw [hc]; exact sum
      · obtain hu | hu := hu
        · exact ⟨hu.trans (down hr).1, (down hr).2⟩
        · simp [hu] at hr
    · refine ⟨radio, hs controller, ?_, fun hr => ?_⟩
      · show _ + u.ceiling ≤ 96; rw [hc]; exact sum
      · obtain hu | hu := hu
        · exact ⟨(down hr).1, hu.trans (down hr).2⟩
        · simp [hu] at hr
  motors := id
  duties _ := id
  voices := id
  output := id

/-- A receiver that changes, of an UP link, between two states that hold no page. -/
theorem setReceiver_good {l : Link} {r : Receiver} {s : State} (hr : r.pages = (s.link l).receiver.pages)
    (hu : (s.link l).sound → (s.link l).up = true ∨ r = .hunting) : Good s (setReceiver l r s) := by
  refine setLink_good (by simp [LinkUnit.pageTotal, LinkUnit.storedPages, hr]) rfl (.inl rfl) fun h => ?_
  have goes := hu h
  obtain ⟨le, lo, hi, pend, down⟩ := h
  refine ⟨le, lo, hi, pend, fun hd => ?_⟩
  obtain ⟨h1, h2, h3, -, rest⟩ := down hd
  obtain e | e := goes
  · simp [e] at hd
  · exact ⟨h1, h2, h3, e, rest⟩

/-- A sound link that is not hunting is UP. -/
theorem LinkUnit.sound.up_of_receiver {u : LinkUnit} (h : u.sound) (hr : u.receiver ≠ .hunting) : u.up = true := by
  by_contra hu
  exact hr (h.2.2.2.2 (by simpa using hu)).2.2.2.1

theorem modCounters_kept (l : Link) (f : LinkCounters → LinkCounters) (s : State) : Kept s (modCounters l f s) :=
  PoolOp.kept ⟨modCounters_frames .., modCounters_accounts ..⟩

theorem syncArrives_good (l : Link) (s : State) : Good s (syncArrives l s) := by
  unfold syncArrives
  split
  · next h =>
    simp only [Bool.and_eq_true, decide_eq_true_eq] at h
    exact setReceiver_good (by rw [h.2]; rfl) fun _ => .inl h.1
  · exact .refl s

theorem skipEnds_good (l : Link) (s : State) : Good s (skipEnds l s) := by
  unfold skipEnds
  split
  · next h => exact setReceiver_good (by rw [h]; rfl) fun _ => .inr rfl
  · exact .refl s

/-- The pages that a header needs pass from the reservation to the receive assembly. -/
theorem acceptHeader_good {l : Link} {h : Header} {s : State} (hu : (s.link l).up = true)
    (hr : (s.link l).receiver = .header) (ho : pagesOf h.length ≤ (s.link l).outstanding) : Good s (acceptHeader l h s) := by
  unfold acceptHeader
  refine (setLink_good ?_ (by rfl) (.inl (by rfl)) ?_).trans (reviewOperation_kept ..).good
  · simp only [LinkUnit.pageTotal, LinkUnit.storedPages, Receiver.pages, hr]; omega
  · rintro ⟨le, lo, hi, pend, -⟩
    exact ⟨(Nat.sub_le ..).trans le, lo, hi, pend, fun hd => by simp [hu] at hd⟩

theorem headerArrives_good (l : Link) (h : Header) (s : State) : Good s (headerArrives l h s) := by
  unfold headerArrives
  split
  · next hh =>
    simp only [Bool.and_eq_true, decide_eq_true_eq] at hh
    obtain ⟨hu, hr⟩ := hh
    split
    · refine (modCounters_kept ..).good.trans (setReceiver_good ?_ fun _ => .inr rfl)
      rw [(modCounters_kept ..).receiver, hr]; rfl
    · split
      · refine ((modCounters_kept ..).good.trans (setReceiver_good ?_ fun _ => .inl ?_)).trans (setLatch_poolOp ..).kept.good
        · rw [(modCounters_kept ..).receiver, hr]; rfl
        · rw [(modCounters_kept ..).up, hu]
      · exact acceptHeader_good hu hr (by omega)
  · exact .refl s

/-! ## The hold list -/

/-- The pages of a link whose head left its hold list. -/
theorem popHold_poolTotal {l : Link} {f : Frame} {rest : List Frame} {s : State} (h : (s.link l).hold = f :: rest) :
    (popHold l s).poolTotal + f.pages = s.poolTotal := by
  have hp := s.poolTotal_setLink l { s.link l with hold := (s.link l).hold.tail, waiting := none }
  simp only [LinkUnit.pageTotal, LinkUnit.storedPages, h, List.tail_cons, pagesOfAll_cons] at hp
  simp only [popHold, h, List.tail_cons]
  omega

/-- The head of a hold list leaves the links in their places. -/
theorem popHold_sound {l : Link} {s : State} (h : s.linksSound) : (popHold l s).linksSound := by
  have unit : ∀ u : LinkUnit, u.sound → { u with hold := u.hold.tail, waiting := none }.sound := by
    rintro u ⟨le, lo, hi, pend, down⟩
    refine ⟨le, lo, hi, pend, fun hd => ?_⟩
    obtain ⟨h1, h2, h3, h4, h5, rest⟩ := down hd
    exact ⟨h1, h2, h3, h4, by simp [h5], rest⟩
  obtain ⟨radio, controller, sum, down⟩ := h
  cases l
  · exact ⟨unit _ radio, controller, sum, down⟩
  · exact ⟨radio, unit _ controller, sum, down⟩

/-- A head that leaves its hold list and is followed by an operation that takes in its pages. -/
theorem leaveHold_good {l : Link} {f : Frame} {rest : List Frame} {s t : State} (h : (s.link l).hold = f :: rest)
    (hp : t.poolTotal = (popHold l s).poolTotal + f.pages)
    (hs : (popHold l s).poolTotal + f.pages ≤ 128 → (popHold l s).freeShown → t.freeShown)
    (pending : t.pending = s.pending) (sound : (popHold l s).linksSound → t.linksSound) (motors : t.motors = s.motors)
    (supply : t.supply = s.supply) (voices : s.voicesConsistent → t.voicesConsistent)
    (output : s.outputSound → t.outputSound) : Good s t where
  pending := pending
  conserved hc := by rw [State.conserved, hp, popHold_poolTotal h]; exact hc
  shown hc hf := hs (by rw [popHold_poolTotal h]; exact Nat.le_of_eq hc) hf
  sound hs := sound (popHold_sound hs)
  motors hm p := by simp only [State.motor, motors]; exact hm p
  duties _ hd p := by simp only [State.motor, motors, supply]; exact hd p
  voices := voices
  output := output

theorem dropHead_good {l : Link} {f : Frame} {rest : List Frame} {s : State} (h : (s.link l).hold = f :: rest) :
    Good s (dropHead l f s) := by
  have hr := release_frames f.pages (popHold l s)
  exact leaveHold_good h (release_poolTotal ..) release_shown hr.pending hr.toFrames.sound hr.motors hr.supply
    (fun hv v => by rw [show (dropHead l f s).voice v = s.voice v from hr.voice v]; exact hv v) (fun ho => hr.outputSound ho)

/-- A head that is dropped after an operation that keeps the hold list. -/
theorem Kept.dropHead_good {l : Link} {f : Frame} {rest : List Frame} {s t : State} (k : Kept s t)
    (h : (s.link l).hold = f :: rest) : Good s (dropHead l f t) :=
  k.good.trans (Machine.dropHead_good (by rw [k.hold, h]))

theorem headWaits_good (l : Link) (w : Waiting) (s : State) : Good s (headWaits l w s) :=
  setLink_good rfl rfl (.inl rfl) id

theorem handManagement_good {l : Link} {f : Frame} {rest : List Frame} {s : State} (h : (s.link l).hold = f :: rest) :
    Good s (handManagement l f s).2 := by
  unfold handManagement
  split
  · refine leaveHold_good h ?_ (fun _ => id) rfl id rfl rfl id id
    simp only [joinManagement, State.poolTotal, State.storedPages, State.link, State.voice, List.map_append,
      List.map_cons, List.map_nil, pagesOfAll_append, pagesOfAll_cons, pagesOfAll_nil]
    omega
  · exact headWaits_good ..

/-- A frame that joins a transmit queue of an UP link brings its pages. -/
theorem pushQueue_poolTotal (l : Link) (q : TxQueue) (f : Frame) (s : State) :
    (pushQueue l q f s).poolTotal = s.poolTotal + f.pages := by
  cases q
  · have hp := s.poolTotal_setLink l { s.link l with urgent := (s.link l).urgent ++ [f] }
    simp only [LinkUnit.pageTotal, LinkUnit.storedPages, pagesOfAll_append, pagesOfAll_cons, pagesOfAll_nil] at hp
    simp only [pushQueue, pushUrgent]
    omega
  · have hp := s.poolTotal_setLink l { s.link l with normal := (s.link l).normal ++ [f] }
    simp only [LinkUnit.pageTotal, LinkUnit.storedPages, pagesOfAll_append, pagesOfAll_cons, pagesOfAll_nil] at hp
    simp only [pushQueue, pushNormal]
    omega

theorem pushQueue_frames {l : Link} {q : TxQueue} {f : Frame} {s : State} (h : (s.link l).up = true) :
    PoolFrames s (pushQueue l q f s) := by
  cases q
  · exact pushUrgent_frames h
  · exact pushNormal_frames h

theorem pushQueue_shown {l : Link} {q : TxQueue} {f : Frame} {s : State} (h : s.freeShown) :
    (pushQueue l q f s).freeShown := by cases q <;> exact h

theorem popHold_up (l k : Link) (s : State) : ((popHold l s).link k).up = (s.link k).up := by
  cases l <;> cases k <;> rfl

theorem handPass_good {l : Link} {q : TxQueue} {out : Channel} {f : Frame} {rest : List Frame} {s : State}
    (h : (s.link l).hold = f :: rest) : Good s (handPass l q out f s).2 := by
  unfold handPass
  dsimp only
  split
  · exact (modCounters_kept ..).dropHead_good h
  · next hu =>
    split
    · have up : ((popHold l s).link l.other).up = true := by rw [popHold_up]; simpa using hu
      have hq := pushQueue_frames (q := q) (f := { f with channel := out }) up
      exact leaveHold_good h (pushQueue_poolTotal ..) (fun _ => pushQueue_shown) hq.pending hq.toFrames.sound hq.motors
        hq.supply (fun hv v => by rw [hq.voice]; exact hv v) (fun ho => hq.outputSound ho)
    · exact headWaits_good ..

theorem handMotor_good {l : Link} {f : Frame} {rest : List Frame} {s : State} (p : Port)
    (h : (s.link l).hold = f :: rest) : Good s (handMotor l p f s) := (linkMotorCommand_kept ..).dropHead_good h

theorem handSound_good {l : Link} {f : Frame} {rest : List Frame} {s : State} (v : VoiceId)
    (h : (s.link l).hold = f :: rest) : Good s (handSound l v f s) := (linkSoundCommand_kept ..).dropHead_good h

theorem handStream_good {l : Link} {f : Frame} {rest : List Frame} {s : State} (v : VoiceId)
    (h : (s.link l).hold = f :: rest) : Good s (handStream l v f s) := by
  unfold handStream
  split
  · refine leaveHold_good h ?_ (fun _ => id) rfl id rfl rfl (fun hv w => ?_) id
    · have hp := (popHold l s).poolTotal_setVoice v
        { (popHold l s).voice v with
          stream := ((popHold l s).voice v).stream ++ [f]
          state := if ((popHold l s).voice v).state = .starved then .playing else ((popHold l s).voice v).state }
      simp only [pagesOfAll_append, pagesOfAll_cons, pagesOfAll_nil] at hp
      simp only [joinStream]
      omega
    · by_cases e : v = w
      · subst e
        rw [joinStream, State.voice_setVoice_same]
        have := hv v
        show ((if (s.voice v).state = .starved then VoiceState.playing else (s.voice v).state) = .idle ↔ (s.voice v).notes = [])
        split
        · next starved => simpa [starved] using this
        · exact this
      · rw [joinStream, State.voice_setVoice_other _ _ e]; exact hv w
  · exact (setVoice_kept (by rfl) (Voice.consistent_of_eq (by rfl) (by rfl))).dropHead_good h

theorem handTo_good {l : Link} {f : Frame} {rest : List Frame} {s : State} (r : Route)
    (h : (s.link l).hold = f :: rest) : Good s (handTo l r f s).2 := by
  have bad : Good s (badKind l f s) := (modCounters_kept ..).dropHead_good h
  cases r with
  | drop => exact (modCounters_kept ..).dropHead_good h
  | management =>
    simp only [handTo]
    split
    · exact handManagement_good h
    · exact bad
  | motor p =>
    simp only [handTo]
    split
    · exact handMotor_good p h
    · exact bad
  | sound v =>
    simp only [handTo]
    split
    · exact handSound_good v h
    · split
      · exact handStream_good v h
      · exact bad
  | pass out => exact handPass_good h

theorem classify_good {l : Link} {f : Frame} {rest : List Frame} {s : State} (h : (s.link l).hold = f :: rest) :
    Good s (classify l f s).2 := by
  unfold classify
  split
  · exact handTo_good _ h
  · exact (modCounters_kept ..).dropHead_good h

theorem classifyHeads_good (fuel : Nat) (l : Link) (s : State) : Good s (classifyHeads fuel l s) := by
  induction fuel generalizing s with
  | zero => exact .refl s
  | succ fuel ih =>
    unfold classifyHeads
    split
    · exact .refl s
    · next h =>
      dsimp only
      split
      · exact (classify_good h).trans (ih _)
      · exact classify_good h

theorem classifyRest_good (l : Link) (s : State) : Good s (classifyRest l s) := classifyHeads_good ..

theorem handWaiting_good {l : Link} {f : Frame} {rest : List Frame} {s : State} (w : Waiting)
    (h : (s.link l).hold = f :: rest) : Good s (handWaiting l w f s).2 := by
  cases w with
  | management => exact handManagement_good h
  | pass q out => exact handPass_good h

theorem handOverWaiting_good (l : Link) (s : State) : Good s (handOverWaiting l s) := by
  unfold handOverWaiting
  split
  · next h =>
    dsimp only
    split
    · exact (handWaiting_good _ h).trans (classifyRest_good ..)
    · exact handWaiting_good _ h
  · exact .refl s

/-! ## A frame that is received -/

/-- The pages of an accepted frame whose receiver goes on hunting leave the receive assembly. -/
theorem hunt_poolTotal {l : Link} {h : Header} {s : State} (hr : (s.link l).receiver = .payload h) :
    (setReceiver l .hunting s).poolTotal + pagesOf h.length = s.poolTotal := by
  have hp := s.poolTotal_setLink l { s.link l with receiver := .hunting }
  simp only [LinkUnit.pageTotal, LinkUnit.storedPages, hr, Receiver.pages] at hp
  simp only [setReceiver]
  omega

/-- A frame whose CRC fails is released. -/
theorem crcFails_good {l : Link} {h : Header} {s : State} (f : LinkCounters → LinkCounters)
    (hr : (s.link l).receiver = .payload h) :
    Good s (release (pagesOf h.length) (modCounters l f (setReceiver l .hunting s))) := by
  have hp := hunt_poolTotal hr
  have hm := modCounters_kept l f (setReceiver l .hunting s)
  have hf := release_frames (pagesOf h.length) (modCounters l f (setReceiver l .hunting s))
  have hunting : s.linksSound → (setReceiver l .hunting s).linksSound := by
    rintro ⟨radio, controller, sum, down⟩
    have unit : ∀ u : LinkUnit, u.sound → { u with receiver := .hunting }.sound := by
      rintro u ⟨le, lo, hi, pend, down⟩
      refine ⟨le, lo, hi, pend, fun hd => ?_⟩
      obtain ⟨h1, h2, h3, -, rest⟩ := down hd
      exact ⟨h1, h2, h3, rfl, rest⟩
    cases l
    · exact ⟨unit _ radio, controller, sum, down⟩
    · exact ⟨radio, unit _ controller, sum, down⟩
  refine ⟨hf.pending, fun hc => ?_, fun hc hs => ?_, fun hs => hf.toFrames.sound (hm.sound (hunting hs)),
    fun hs p => by rw [hf.motor]; exact hs p, fun _ hd p => by rw [hf.motor, hf.supply]; exact hd p,
    fun hs v => by rw [hf.voice]; exact hs v, fun ho => hf.outputSound ho⟩
  · rw [State.conserved, release_poolTotal, hm.pool, hp]; exact hc
  · refine release_shown (by rw [hm.pool, hp]; exact Nat.le_of_eq hc) hs

/-- A good frame leaves the receive assembly for the tail of the hold list. -/
theorem holdFrame_good {l : Link} {h : Header} {s : State} (payload : List Byte) (c : LinkCounters)
    (hr : (s.link l).receiver = .payload h) (hl : payload.length = h.length) :
    Good s (s.setLink l
      { s.link l with receiver := .hunting, counters := c, hold := (s.link l).hold ++ [h.frame payload] }) := by
  refine setLink_good ?_ rfl (.inl rfl) fun hs => ?_
  · simp only [LinkUnit.pageTotal, LinkUnit.storedPages, hr, Receiver.pages, pagesOfAll_append, pagesOfAll_cons,
      pagesOfAll_nil, Frame.pages, Header.frame, hl]
    omega
  · have hu := hs.up_of_receiver (by simp [hr])
    obtain ⟨le, lo, hi, pend, -⟩ := hs
    exact ⟨le, lo, hi, pend, fun hd => by simp [hu] at hd⟩

theorem State.setLink_setLink (s : State) (l : Link) (u v : LinkUnit) : (s.setLink l u).setLink l v = s.setLink l v := by
  cases l <;> rfl

theorem frameArrives_good {l : Link} {h : Header} {payload : List Byte} {s : State} (crcLow crcHigh : Byte)
    (hr : (s.link l).receiver = .payload h) (hl : payload.length = h.length) :
    Good s (frameArrives l h payload crcLow crcHigh s) := by
  unfold frameArrives
  dsimp only
  split
  · have held := holdFrame_good payload
      { (s.link l).counters with framesReceived := bump (s.link l).counters.framesReceived } hr hl
    simp only [joinHold, setReceiver, modCounters, State.link_setLink_same, State.setLink_setLink]
    split
    · exact held.trans (classifyRest_good ..)
    · exact held
  · exact crcFails_good _ hr

theorem frameEnds_good (l : Link) (payload : List Byte) (crcLow crcHigh : Byte) (s : State) :
    Good s (frameEnds l payload crcLow crcHigh s) := by
  unfold frameEnds
  split
  · next h hr =>
    split
    · next hl => exact frameArrives_good _ _ hr hl
    · exact .refl s
  · exact .refl s

/-! ## Transmission -/

theorem LinkUnit.sound_starts {u : LinkUnit} (hu : u.up = true) (h : u.sound) : u.starts.sound := by
  obtain ⟨le, lo, hi, pend, -⟩ := h
  unfold LinkUnit.starts
  split
  · exact ⟨le, lo, hi, Nat.zero_le _, fun hd => by simp [hu] at hd⟩
  · split <;> exact ⟨le, lo, hi, pend, fun hd => by simp [hu] at hd⟩

/-- A start keeps the pages, the ceiling and the state of a link. -/
theorem LinkUnit.starts_keeps (u : LinkUnit) :
    u.starts.pageTotal = u.pageTotal ∧ u.starts.ceiling = u.ceiling ∧ u.starts.up = u.up := by
  unfold LinkUnit.starts
  split
  · exact ⟨rfl, rfl, rfl⟩
  · split <;> exact ⟨rfl, rfl, rfl⟩

theorem transmitStarts_good (l : Link) (cts : Bool) (s : State) : Good s (transmitStarts l cts s) := by
  unfold transmitStarts
  dsimp only
  split
  · next h =>
    simp only [Bool.and_eq_true] at h
    obtain ⟨hp, hc, hu⟩ := LinkUnit.starts_keeps { s.link l with cts := cts }
    exact setLink_good hp hc (.inl hu) fun hs => LinkUnit.sound_starts (u := { s.link l with cts := cts }) h.1.1.1 hs
  · exact setLink_good rfl rfl (.inl rfl) id

/-- A link whose queue lost its head, with its transmitter IDLE. -/
theorem LinkUnit.sound_sent {u : LinkUnit} (q : TxQueue) (h : u.sound) : { u.popQueue q with sending := none }.sound := by
  obtain ⟨le, lo, hi, pend, down⟩ := h
  cases q <;>
  · refine ⟨le, lo, hi, pend, fun hd => ?_⟩
    obtain ⟨h1, h2, h3, h4, h5, h6, h7, -⟩ := down hd
    exact ⟨h1, h2, h3, h4, h5, by simp [LinkUnit.popQueue, h6], by simp [LinkUnit.popQueue, h7], rfl⟩

/-- The pages of a link whose queue lost its head. -/
theorem LinkUnit.pageTotal_sent {u : LinkUnit} {q : TxQueue} {f : Frame} {rest : List Frame} (h : u.queue q = f :: rest) :
    { u.popQueue q with sending := none }.pageTotal + f.pages = u.pageTotal := by
  cases q <;>
  · simp only [LinkUnit.queue] at h
    simp only [LinkUnit.pageTotal, LinkUnit.storedPages, LinkUnit.popQueue, h, List.tail_cons, pagesOfAll_cons]
    omega

theorem LinkUnit.popQueue_keeps (u : LinkUnit) (q : TxQueue) :
    (u.popQueue q).ceiling = u.ceiling ∧ (u.popQueue q).up = u.up := by cases q <;> exact ⟨rfl, rfl⟩

theorem sentFrom_good {l : Link} {q : TxQueue} {f : Frame} {rest : List Frame} {s : State}
    (h : (s.link l).queue q = f :: rest) : Good s (sentFrom l q f s) := by
  have hp := s.poolTotal_setLink l { (s.link l).popQueue q with sending := none }
  have hu := LinkUnit.pageTotal_sent h
  obtain ⟨hc, hup⟩ := LinkUnit.popQueue_keeps (s.link l) q
  unfold sentFrom
  dsimp only
  have hm := modCounters_kept l (fun c => { c with framesTransmitted := bump c.framesTransmitted })
    (s.setLink l { (s.link l).popQueue q with sending := none })
  have hf := release_frames f.pages (modCounters l (fun c => { c with framesTransmitted := bump c.framesTransmitted })
    (s.setLink l { (s.link l).popQueue q with sending := none }))
  have sound : s.linksSound → (s.setLink l { (s.link l).popQueue q with sending := none }).linksSound := by
    rintro ⟨radio, controller, sum, down⟩
    cases l
    · exact ⟨LinkUnit.sound_sent q radio, controller, by rw [← hc] at sum; exact sum,
        fun hr => ⟨hup.trans (down hr).1, (down hr).2⟩⟩
    · exact ⟨radio, LinkUnit.sound_sent q controller, by rw [← hc] at sum; exact sum,
        fun hr => ⟨(down hr).1, hup.trans (down hr).2⟩⟩
  refine ⟨hf.pending, fun hs => ?_, fun hs hsh => release_shown (by rw [hm.pool]; have := Nat.le_of_eq hs; omega) hsh,
    fun hs => hf.toFrames.sound (hm.sound (sound hs)), fun hs p => by rw [hf.motor]; exact hs p,
    fun _ hd p => by rw [hf.motor, hf.supply]; exact hd p, fun hs v => by rw [hf.voice]; exact hs v,
    fun ho => hf.outputSound ho⟩
  rw [State.conserved, release_poolTotal, hm.pool]
  have : s.poolTotal = 128 := hs
  omega

theorem frameSent_good (l : Link) (s : State) : Good s (frameSent l s) := by
  unfold frameSent
  split
  · split
    · next h => exact sentFrom_good h
    · exact .refl s
  · exact .refl s

theorem creditSent_good (l : Link) (s : State) : Good s (creditSent l s) := by
  unfold creditSent
  split
  · refine setLink_good rfl rfl (.inl rfl) ?_
    rintro ⟨le, lo, hi, pend, down⟩
    refine ⟨le, lo, hi, pend, fun hd => ?_⟩
    obtain ⟨h1, h2, h3, h4, h5, h6, h7, -⟩ := down hd
    exact ⟨h1, h2, h3, h4, h5, h6, h7, rfl⟩
  · exact .refl s

/-! ## Links that go DOWN and come UP -/

/-- A link that went DOWN holds no page. -/
theorem LinkUnit.taken_pageTotal (u : LinkUnit) : u.taken.pageTotal = 0 := rfl

theorem LinkUnit.sound_taken {u : LinkUnit} (h : u.sound) : u.taken.sound := by
  obtain ⟨-, lo, hi, -, -⟩ := h
  exact ⟨Nat.zero_le _, lo, hi, Nat.zero_le _, fun _ => ⟨rfl, rfl, rfl, rfl, rfl, rfl, rfl, rfl⟩⟩

theorem withdrawLink_good (l : Link) (s : State) : Good s (withdrawLink l s) := by
  have hp := s.poolTotal_setLink l (s.link l).taken
  rw [LinkUnit.taken_pageTotal] at hp
  have hf := (freePages_frames ((s.link l).outstanding + (s.link l).storedPages) (s.setLink l (s.link l).taken)).trans
    (review_frames l.other _)
  have pool : (review l.other (freePages ((s.link l).outstanding + (s.link l).storedPages)
      (s.setLink l (s.link l).taken))).poolTotal = s.poolTotal := by
    rw [review_poolTotal, freePages_poolTotal]; exact hp
  have sound : s.linksSound → (s.setLink l (s.link l).taken).linksSound := by
    rintro ⟨radio, controller, sum, down⟩
    cases l
    · exact ⟨LinkUnit.sound_taken radio, controller, sum, fun hr => ⟨rfl, (down hr).2⟩⟩
    · exact ⟨radio, LinkUnit.sound_taken controller, sum, fun hr => ⟨(down hr).1, rfl⟩⟩
  exact ⟨hf.pending, fun hs => pool.trans hs, fun hs _ => writeFree_shown (by rw [pool]; exact Nat.le_of_eq hs),
    fun hs => hf.toFrames.sound (sound hs), fun hs p => by rw [show (withdrawLink l s).motor p = s.motor p from hf.motor p]; exact hs p,
    fun _ hd p => by rw [show (withdrawLink l s).motor p = s.motor p from hf.motor p]; rw [show (withdrawLink l s).supply = s.supply from hf.supply]; exact hd p,
    fun hs v => by rw [show (withdrawLink l s).voice v = s.voice v from hf.voice v]; exact hs v, fun ho => hf.outputSound ho⟩

theorem releaseWaiting_good (l : Link) (s : State) : Good s (releaseWaiting l s) := by
  unfold releaseWaiting
  split
  · exact handOverWaiting_good l s
  · exact .refl s

theorem linkFalls_good (l : Link) (s : State) : Good s (linkFalls l s) := by
  unfold linkFalls
  split
  · exact (((withdrawLink_good l s).trans (setLatch_poolOp ..).kept.good).trans (releaseWaiting_good ..)).trans
      (Kept.foldl (fun s p => examineLossAt_kept l p s) ..).good
  · exact .refl s

theorem linkRises_good {l : Link} {s : State} (hr : s.inReset = false) : Good s (linkRises l s) := by
  unfold linkRises
  split
  · exact .refl s
  · refine ((setLink_good (by rfl) (by rfl) (.inr hr) ?_).trans (reviewOperation_kept ..).good).trans
      (setLatch_poolOp ..).kept.good
    rintro ⟨le, lo, hi, pend, -⟩
    exact ⟨le, lo, hi, pend, fun hd => by simp at hd⟩

/-! ## Requests -/

theorem extendChain_poolTotal {q r : Nat} {s : State} (h : r - q ≤ s.free) :
    (extendChain q r s).poolTotal + (r - q) = s.poolTotal := by
  unfold extendChain
  split
  · rw [writeFree_poolTotal]
    simp only [State.poolTotal, State.storedPages, State.link, State.voice]
    omega
  · omega

theorem extendChain_frames (q r : Nat) (s : State) : PoolFrames s (extendChain q r s) := by
  unfold extendChain
  split
  · exact (PoolFrames.withFree ..).trans (writeFree_frames _)
  · exact .refl s

theorem extendChain_shown {q r : Nat} {s : State} (hs : (extendChain q r s).poolTotal ≤ 128) (h : s.freeShown) :
    (extendChain q r s).freeShown := by
  unfold extendChain at hs ⊢
  split
  · next e => rw [if_pos e] at hs; exact writeFree_shown hs
  · exact h

/-- The management record, but for its queue, plays no part in any invariant. -/
theorem setMgmt_kept {m : Mgmt} {s : State} (h : m.queue = s.mgmt.queue) : Kept s { s with mgmt := m } :=
  .of_same ⟨⟨rfl, rfl, h, rfl, fun _ => .refl _⟩, rfl, rfl, rfl, rfl⟩
    (by simp only [State.poolTotal, State.storedPages, State.link, State.voice, h]) rfl rfl

/-- How a request leaves: with the pages of its chain, and with nothing else of the hub's accounts but the waiting head. -/
structure Leaves (pages : Nat) (queue : List MgmtEntry) (leave : State → State) : Prop where
  pool : ∀ s, s.mgmt.queue = queue → (leave s).poolTotal + pages = s.poolTotal
  same : ∀ s, ∃ m, leave s = { s with mgmt := m }

/-- A request that comes as a command holds no chain. -/
theorem leaves_id (queue : List MgmtEntry) : Leaves 0 queue id := ⟨fun _ _ => rfl, fun s => ⟨s.mgmt, rfl⟩⟩

/-- The head of the management queue leaves with its frame. -/
theorem leaves_queue (e : MgmtEntry) (rest : List MgmtEntry) : Leaves e.frame.pages (e :: rest) leaveQueue where
  pool s hs := by
    simp only [leaveQueue, State.poolTotal, State.storedPages, State.link, State.voice, hs, List.tail_cons, List.map_cons,
      pagesOfAll_cons]
    omega
  same _ := ⟨_, rfl⟩

/-- No request is in progress. -/
def endProgress (s : State) : State := { s with mgmt := { s.mgmt with inProgress := none } }

/-- The end of a request, from the hub that its effect left: it leaves, its reply joins the urgent queue of an UP link, and the
pages that its chain does not need are released. -/
def closeRequest (o : Origin) (pages : Nat) (reply : Frame) (leave : State → State) (s : State) : State :=
  release (pages - reply.pages) (pushUrgent o.link reply (leave (endProgress s)))

/-- The pages of a request and of its reply stand in the total as its chain was extended, and S3 goes on to show free. -/
theorem closeRequest_good {o : Origin} {pages : Nat} {reply : Frame} {leave : State → State} {s t : State}
    (hl : Leaves pages s.mgmt.queue leave) (k : Kept (extendChain pages reply.pages s) t)
    (hfree : reply.pages - pages ≤ s.free) (hup : (s.link o.link).up = true) :
    Good s (closeRequest o pages reply leave t) := by
  obtain ⟨m, hm⟩ := hl.same (endProgress t)
  have he := extendChain_frames pages reply.pages s
  have hx := extendChain_poolTotal (q := pages) (r := reply.pages) hfree
  have hq : t.mgmt.queue = s.mgmt.queue := k.queue.trans he.queue
  have hpool : (leave (endProgress t)).poolTotal + pages = t.poolTotal :=
    hl.pool _ hq
  have up : ((leave (endProgress t)).link o.link).up = true := by
    rw [hm]; exact (k.up o.link).trans ((he.link o.link).up.trans hup)
  have pushed := pushUrgent_frames (f := reply) up
  have pushedPool := pushQueue_poolTotal o.link .urgent reply (leave (endProgress t))
  simp only [pushQueue] at pushedPool
  have hr := pushed.trans (release_frames (pages - reply.pages)
    (pushUrgent o.link reply (leave (endProgress t))))
  have kt := k.pool
  refine ⟨?_, fun hs => ?_, fun hs hsh => ?_, fun hs => ?_, fun hs p => ?_, fun hs hd p => ?_, fun hs v => ?_, fun ho => ?_⟩
  · exact hr.pending.trans (by rw [hm]; exact k.pending.trans he.pending)
  · have : s.poolTotal = 128 := hs
    rw [State.conserved, closeRequest, release_poolTotal, pushedPool]
    omega
  · have : s.poolTotal = 128 := hs
    refine release_shown (by rw [pushedPool]; omega) ?_
    show (leave (endProgress t)).freeShown
    rw [hm]
    exact k.shown (by omega) (extendChain_shown (by omega) hsh)
  · refine hr.toFrames.sound ?_
    rw [hm]
    exact k.sound (he.toFrames.sound hs)
  · rw [show (closeRequest o pages reply leave t).motor p = _ from hr.motor p, hm]
    exact k.motors (fun p => by rw [he.motor]; exact hs p) p
  · rw [show (closeRequest o pages reply leave t).motor p = _ from hr.motor p,
      show (closeRequest o pages reply leave t).supply = _ from hr.supply, hm]
    exact k.duties (fun p => by rw [he.motor]; exact hs p) (fun p => by rw [he.motor, he.supply]; exact hd p) p
  · rw [show (closeRequest o pages reply leave t).voice v = _ from hr.voice v, hm]
    exact k.voices (fun v => by rw [he.voice]; exact hs v) v
  · refine hr.outputSound ?_
    rw [hm]
    exact k.output (he.outputSound ho)

theorem carryOut_good {o : Origin} {code : Byte} {q : Option Request} {pages : Nat} {leave : State → State} {s : State}
    (band : Band) (raw : RawSample) (hl : Leaves pages s.mgmt.queue leave) (hup : (s.link o.link).up = true)
    (hw : replyWaits o.link pages (pagesOf (requestReply code q s).length) s = false) :
    Good s (carryOut o code q pages band raw leave s) := by
  have hfree : pagesOf (requestReply code q s).length - pages ≤ s.free := by
    simp only [replyWaits, Bool.or_eq_false_iff, decide_eq_false_iff_not] at hw
    omega
  have hx : (extendChain pages (pagesOf (requestReply code q s).length) s).links = s.links ∧
      (extendChain pages (pagesOf (requestReply code q s).length) s).motors = s.motors := by
    unfold extendChain; split <;> exact ⟨rfl, rfl⟩
  refine closeRequest_good (reply := replyFrame o (requestReply code q s)) hl ?_ hfree hup
  refine Kept.trans ((setMgmt_kept (m := { (extendChain pages (pagesOf (requestReply code q s).length) s).mgmt with
    inProgress := some o.link }) rfl).trans ?_) (drain_kept _)
  cases q with
  | none => exact .refl _
  | some q =>
    dsimp only
    split
    · next hc => exact Request.effect_kept band raw (of_decide_eq_true hc) hx.1 hx.2
    · exact .refl _

theorem consider_good {o : Origin} {code : Byte} {q : Option Request} {pages : Nat} {leave wait : State → State} {s : State}
    (band : Band) (raw : RawSample) (hl : Leaves pages s.mgmt.queue leave) (hw : Kept s (wait s)) :
    Good s (consider o code q pages band raw leave wait s) := by
  unfold consider
  split
  · exact .refl s
  · split
    · obtain ⟨m, hm⟩ := hl.same s
      have hp := hl.pool s rfl
      have hr := release_frames pages (leave s)
      refine ⟨hr.pending.trans (by rw [hm]), fun hs => ?_, fun hs hsh => release_shown (hp ▸ Nat.le_of_eq hs) (by rw [hm]; exact hsh),
        fun hs => hr.toFrames.sound (by rw [hm]; exact hs), fun hs p => by rw [hr.motor, hm]; exact hs p,
        fun _ hd p => by rw [hr.motor, hr.supply, hm]; exact hd p, fun hs v => by rw [hr.voice, hm]; exact hs v,
        fun ho => hr.outputSound (by rw [hm]; exact ho)⟩
      rw [State.conserved, release_poolTotal, hp]; exact hs
    · next hup =>
      split
      · exact (setMgmt_kept (by rfl)).good
      · split
        · exact hw.good
        · next hwaits => exact carryOut_good band raw hl (by simpa using hup) (by simpa using hwaits)

theorem considerHead_good (band : Band) (raw : RawSample) (s : State) : Good s (considerHead band raw s) := by
  unfold considerHead
  split
  · next e rest hq =>
    split
    · exact .refl s
    · exact consider_good band raw (hq ▸ leaves_queue e rest) (setMgmt_kept rfl)
  · exact .refl s

theorem directRequest_good (o : Origin) (q : Request) (band : Band) (raw : RawSample) (s : State) :
    Good s (directRequest o q band raw s) := consider_good band raw (leaves_id _) (.refl s)

/-! ## Resets -/

/-- What a reset establishes, and the commands that wait. -/
structure Fresh (s t : State) : Prop where
  pending : t.pending = s.pending
  conserved : t.conserved
  shown : t.freeShown
  sound : t.linksSound
  motors : t.motorsConsistent
  duties : t.dutyCapped
  voices : t.voicesConsistent
  output : t.outputSound

theorem Fresh.good {s t : State} (h : Fresh s t) : Good s t :=
  ⟨h.pending, fun _ => h.conserved, fun _ _ => h.shown, fun _ => h.sound, fun _ => h.motors, fun _ _ => h.duties,
    fun _ => h.voices, fun _ => h.output⟩

theorem Fresh.then {s t u : State} (h : Fresh s t) (k : Good t u) : Fresh s u :=
  ⟨k.pending.trans h.pending, k.conserved h.conserved, k.shown h.conserved h.shown, k.sound h.sound, k.motors h.motors,
    k.duties h.motors h.duties, k.voices h.voices, k.output h.output⟩

theorem LinkUnit.sound_reset : LinkUnit.reset.sound := by decide

theorem reinitialised_fresh (now : Time) (s : State) : Fresh s (reinitialised now s.pending) where
  pending := rfl
  conserved := rfl
  shown := writeFree_shown (Nat.le_of_eq rfl)
  sound := ⟨LinkUnit.sound_reset, LinkUnit.sound_reset, show 32 + 32 ≤ 96 by decide, fun h => by cases h⟩
  motors p m h := by cases p <;> cases h
  duties p m h := by cases p <;> cases h
  voices v := by match v with | 0 | 1 | 2 | 3 => exact ⟨fun _ => rfl, fun _ => rfl⟩
  output := ⟨⟨show (-32768 : Int) ≤ 0 by decide, show (0 : Int) ≤ 32767 by decide⟩, fun _ => rfl⟩

theorem detectPorts_kept (bands : PerPort Band) (s : State) : Kept s (detectPorts bands s) := by
  refine .foldl (fun s p => ?_) ..
  split
  · exact .refl s
  · exact enterDetecting_kept ..

/-- The detection of the ports and the replacement of the links do not meet. -/
theorem detectPorts_setLinks (bands : PerPort Band) (links : PerLink LinkUnit) (s : State) :
    { detectPorts bands s with links := links } = detectPorts bands { s with links := links } := by
  unfold detectPorts
  induction allPorts generalizing s with
  | nil => rfl
  | cons p ps ih =>
    simp only [List.foldl_cons]
    rw [ih]
    split <;> rfl

/-- Links that are brought up with the pages that they had, out of a reset. -/
theorem bringUp_good {radio controller : LinkUnit} {s : State} (bands : PerPort Band)
    (hradio : radio.pageTotal = (s.link .radio).pageTotal) (hcontroller : controller.pageTotal = (s.link .controller).pageTotal)
    (hc : radio.ceiling = (s.link .radio).ceiling ∧ controller.ceiling = (s.link .controller).ceiling)
    (hs : s.linksSound → radio.sound ∧ controller.sound) :
    Good s (bringUp radio controller (detectPorts bands { s with inReset := false })) := by
  have set : Good s { s with inReset := false, links := { radio := radio, controller := controller } } := by
    have hp : ({ s with inReset := false, links := { radio := radio, controller := controller } } : State).poolTotal
        = s.poolTotal := by
      simp only [LinkUnit.pageTotal] at hradio hcontroller
      simp only [State.poolTotal, State.storedPages, State.link, PerLink.get, State.voice] at hradio hcontroller ⊢
      omega
    refine ⟨rfl, fun h => hp.trans h, fun _ h => h, fun h => ?_, id, fun _ => id, id, id⟩
    refine ⟨(hs h).1, (hs h).2, ?_, fun h => by cases h⟩
    show radio.ceiling + controller.ceiling ≤ 96
    rw [hc.1, hc.2]; exact h.2.2.1
  refine set.trans ?_
  unfold bringUp
  rw [detectPorts_setLinks]
  exact ((detectPorts_kept ..).trans
    (PoolOp.kept ⟨writeFreeIfMoved_frames (reviewBoth_frames _), writeFreeIfMoved_accounts (reviewBoth_poolTotal _) rfl⟩)).good

theorem LinkUnit.sound_afterReset (up cts : Bool) : (LinkUnit.afterReset up cts).sound := by
  cases up <;> cases cts <;> decide

/-- A hub that is re-initialised, with links that are UP or DOWN. -/
theorem afterReset_fresh (now : Time) (s : State) (bands : PerPort Band) (up up' cts cts' : Bool) :
    Fresh s (bringUp (.afterReset up cts) (.afterReset up' cts') (detectPorts bands (reinitialised now s.pending))) :=
  (reinitialised_fresh now s).then
    (bringUp_good bands rfl rfl ⟨rfl, rfl⟩ fun _ => ⟨LinkUnit.sound_afterReset .., LinkUnit.sound_afterReset ..⟩)

theorem poweredOn_good (pins : ResetPins) (s : State) : Good s (poweredOn pins s) := (afterReset_fresh ..).good

theorem resetAsserted_good (s : State) : Good s (resetAsserted s) := by
  have h := reinitialised_fresh 0 s
  exact (Fresh.mk (s := s) (t := resetAsserted s) h.pending h.conserved h.shown
    ⟨h.sound.1, h.sound.2.1, h.sound.2.2.1, fun _ => ⟨rfl, rfl⟩⟩ h.motors h.duties h.voices h.output).good

/-- A DOWN link that RESET_N finds with its PRDY at `up`. -/
theorem LinkUnit.sound_released {u : LinkUnit} (up : Bool) (h : u.sound) (hd : u.up = false) :
    { u with up := up, restart := up }.sound := by
  obtain ⟨le, lo, hi, pend, down⟩ := h
  obtain ⟨h1, h2, -, rest⟩ := down hd
  exact ⟨le, lo, hi, pend, fun hu => ⟨h1, h2, hu, rest⟩⟩

theorem resetReleased_good (pins : ResetPins) (s : State) : Good s (resetReleased pins s) := by
  unfold resetReleased
  split
  · next hr =>
    refine bringUp_good pins.bands rfl rfl ⟨rfl, rfl⟩ ?_
    rintro ⟨radio, controller, -, down⟩
    exact ⟨LinkUnit.sound_released _ radio (down hr).1, LinkUnit.sound_released _ controller (down hr).2⟩
  · exact .refl s

/-- A review takes at most the ceiling of its link from free. -/
theorem le_review_free (l : Link) (s : State) : s.free ≤ (review l s).free + (s.link l).ceiling := by
  have := (s.link l).grant_le_deficit s.free
  show s.free ≤ s.free - (s.link l).grant s.free + (s.link l).ceiling
  omega

/-- The reviews of both links out of a reset leave pages free. -/
theorem le_reviewBoth_free (s : State) :
    s.free ≤ (reviewBoth s).free + ((s.link .radio).ceiling + (s.link .controller).ceiling) := by
  have first := le_review_free (firstReviewed s) s
  have second := le_review_free (firstReviewed s).other (review (firstReviewed s) s)
  rw [((review_frames (firstReviewed s) s).link _).ceiling] at second
  simp only [reviewBoth]
  revert first second
  cases firstReviewed s <;> simp only [Link.other] <;> omega

theorem writeFreeIfMoved_free (s t : State) : (writeFreeIfMoved s t).free = t.free := by
  unfold writeFreeIfMoved; split <;> rfl

theorem detectPorts_keeps (bands : PerPort Band) (s : State) :
    (detectPorts bands s).free = s.free ∧ (detectPorts bands s).links = s.links := by
  unfold detectPorts
  induction allPorts generalizing s with
  | nil => exact ⟨rfl, rfl⟩
  | cons p ps ih =>
    simp only [List.foldl_cons]
    rw [(ih _).1, (ih _).2]
    split <;> exact ⟨rfl, rfl⟩

/-- Links that come out of a reset leave pages free. -/
theorem bringUp_free_pos {radio controller : LinkUnit} {s : State} (hf : s.free = 128)
    (hc : radio.ceiling = 32 ∧ controller.ceiling = 32) : 1 ≤ (bringUp radio controller s).free := by
  have least : s.free ≤ (reviewBoth { s with links := { radio := radio, controller := controller } }).free +
      (radio.ceiling + controller.ceiling) :=
    le_reviewBoth_free { s with links := { radio := radio, controller := controller } }
  rw [bringUp, reviewBothOperation, writeFreeIfMoved_free]
  omega

theorem resetReply_good {o : Origin} {s : State} (h : 1 ≤ s.free) : Good s (resetReply o s) := by
  unfold resetReply
  split
  · next hu => exact (allocateUrgent_poolOp (show resetReplyPayload.length ≤ 28 by decide) hu h).kept.good
  · exact .refl s

theorem hubReinitialised_good (bands : PerPort Band) (s : State) : Good s (hubReinitialised bands s) := by
  unfold hubReinitialised
  split
  · split
    · exact (afterReset_fresh ..).good.trans
        (resetReply_good (bringUp_free_pos (detectPorts_keeps bands _).1 ⟨rfl, rfl⟩))
    · exact .refl s
  · exact .refl s

/-! ## Every command -/

theorem run_good {f : State → State} {s : State} (h : s.inReset = false → Good s (f s)) :
    ∃ t, run f s = .next t ∧ Good s t ∧ (s.settled → t.unobserved = []) := by
  refine ⟨_, rfl, ?_⟩
  split
  · exact ⟨.refl s, And.right⟩
  · next hr => exact ⟨(h (by simpa using hr)).trans (drain_kept _).good, fun _ => drain_unobserved _⟩

/-- Every command answers a next state that keeps what `Good` says, and leaves no write waiting. -/
theorem exec_good (c : Instr) (s : State) : ∃ t, exec c s = .next t ∧ Good s t ∧ (s.settled → t.unobserved = []) := by
  cases c with
  | powerOn pins => exact ⟨_, rfl, (poweredOn_good pins s).trans (drain_kept _).good, fun _ => drain_unobserved _⟩
  | resetNAssert => exact ⟨_, rfl, (resetAsserted_good s).trans (drain_kept _).good, fun _ => drain_unobserved _⟩
  | resetNRelease pins => exact ⟨_, rfl, (resetReleased_good pins s).trans (drain_kept _).good, fun _ => drain_unobserved _⟩
  | linkDown l => exact run_good fun _ => linkFalls_good l s
  | linkUp l => exact run_good fun hr => linkRises_good hr
  | receiveHeader l b1 b2 b3 b4 => exact run_good fun _ => headerArrives_good ..
  | skipCountSpent l => exact run_good fun _ => skipEnds_good ..
  | receiveFrameEnd l payload crcLow crcHigh => exact run_good fun _ => frameEnds_good ..
  | waitingHeadHandover l => exact run_good fun _ => handOverWaiting_good ..
  | transmitStart l cts => exact run_good fun _ => transmitStarts_good ..
  | frameTransmitted l => exact run_good fun _ => frameSent_good ..
  | attnPulseEnd => exact run_good fun _ => (setAttention_kept ..).good
  | attnPulseGapEnd => exact run_good fun _ => (setAttention_kept ..).good
  | mgmtHeadConsideration band raw => exact run_good fun _ => considerHead_good ..
  | portReset o port band => exact run_good fun _ => directRequest_good ..
  | portResume o port raw => exact run_good fun _ => directRequest_good ..
  | identify | loadRoute | loadMotorClass | loadMotorSettings | loadPortSettings | loadCalibration | loadWavetable
  | loadEnvelope | loadReflex | loadSubscription | loadSupplySettings | loadSoundSettings | loadLinkSettings
  | loadEventRoutes | read | readVoice | readMixer | portSuspend | selectMode | motorUnlock | reflexArm | readFlags
  | readAttention | setAttention | readCounters | setFlagMask | hubReset =>
    exact run_good fun _ => directRequest_good ..
  | hubReinitialisation bands => exact run_good fun _ => hubReinitialised_good ..
  | idBandRead p band => exact run_good fun _ => (readingFalls_kept ..).good
  | debounceExpiry p raw => exact run_good fun _ => (debounceExpires_kept ..).good
  | bandWatchExpiry p => exact run_good fun _ => (bandWatchDue_kept ..).good
  | faultRecoveryExpiry p band => exact run_good fun _ => (recoveryDue_kept ..).good
  | lineBreakEnd p => exact run_good fun _ => (lineBreakEnds_kept ..).good
  | queryRetry p => exact run_good fun _ => (queryAgain_kept ..).good
  | identifyTimeout p => exact run_good fun _ => (identifyExpires_kept ..).good
  | descriptionReceived p m => exact run_good fun _ => (onLine_kept (descriptionArrives_kept ..)).good
  | configureAccept p m => exact run_good fun _ => (onLine_kept (configureAccepted_kept ..)).good
  | configureTimeout p => exact run_good fun _ => (configureExpires_kept ..).good
  | selectDeferredSend p => exact run_good fun _ => (deferredSelect_kept ..).good
  | selectAccept p m => exact run_good fun _ => (onLine_kept (selectAccepted_kept ..)).good
  | selectTimeout p => exact run_good fun _ => (selectExpires_kept ..).good
  | analogSample p raw => exact run_good fun _ => (analogDue_kept ..).good
  | pollDue p => exact run_good fun _ => (pollDueNow_kept ..).good
  | sampleReceived p m => exact run_good fun _ => (onLine_kept (sampleArrives_kept ..)).good
  | holdReceived p m => exact run_good fun _ => (onLine_kept (holdArrives_kept ..)).good
  | portLineMessageRejected p kind m => exact run_good fun _ => (onLine_kept (strayArrives_kept ..)).good
  | pollWindowClose p => exact run_good fun _ => (pollWindowCloses_kept ..).good
  | sampleWatchdogExpiry p => exact run_good fun _ => (watchdogExpires_kept ..).good
  | subscriptionPeriodExpiry n => exact run_good fun _ => (periodExpires_kept ..).good
  | subscriptionIntervalEnd n => exact run_good fun _ => (intervalEnds_kept ..).good
  | append | replace | abort | zero => exact run_good fun _ => (linkMotorCommand_kept ..).good
  | encoderStep p forward =>
    exact run_good fun _ => (onMotor_kept fun _ hm => setMotor_some_kept hm (.encoderStep ..)).good
  | motorControlPeriod p current => exact run_good fun _ => (onMotor_kept fun _ hm => periodFalls_kept _ hm).good
  | settleTimeout p => exact run_good fun _ => (onMotor_kept fun _ hm => settleTimedOut_kept hm).good
  | segmentDurationEnd p => exact run_good fun _ => (onMotor_kept fun _ hm => durationEnded_kept hm).good
  | stallDetected p => exact run_good fun _ => (onMotor_kept fun _ hm => stallDetected_kept hm).good
  | supplyMeasurement voltage current => exact run_good fun _ => (measurementDue_kept ..).good
  | supplyFallToLow | supplyFallToCritical | supplyRise => exact run_good fun _ => (supplyChangeDue_kept ..).good
  | queue | play | stopRelease | stopCut | setGain | setLoop => exact run_good fun _ => (linkSoundCommand_kept ..).good
  | ampWarmupComplete => exact run_good fun _ => (warmupEnds_kept s).good
  | ampIdleOff => exact run_good fun _ => (idleEnds_kept s).good
  | envelopeStep v => exact run_good fun _ => (stepFalls_kept ..).good
  | noteDurationEnd v => exact run_good fun _ => (durationDue_kept ..).good
  | outputSample => exact run_good fun _ => (outputSampleAll_kept s).good
  | starvedTimeout v => exact run_good fun _ => (starvedEnds_kept ..).good
  | syncByteReceived l => exact run_good fun _ => syncArrives_good ..
  | creditFrameSent l => exact run_good fun _ => creditSent_good ..

/-- The commands that wait play no part in any invariant. -/
theorem step_good {s t : State} (h : step s = .next t) : ∃ u : State, Good u t ∧ u = { s with pending := u.pending } := by
  unfold step at h
  split at h
  · next c rest _ =>
    obtain ⟨t', ht, hg, -⟩ := exec_good c { s with pending := rest }
    rw [ht] at h
    cases h
    exact ⟨_, hg, rfl⟩
  · cases h
    refine ⟨s, ?_, rfl⟩
    unfold tick
    split
    · exact .refl s
    · exact (Kept.of_same (s := s) (t := { s with hubTime := s.hubTime + 1 })
        ⟨⟨rfl, rfl, rfl, rfl, fun _ => .refl _⟩, rfl, rfl, rfl, rfl⟩ rfl rfl rfl).good

/-- An invariant in which the commands that wait play no part, and which every command keeps, is kept by every step. -/
theorem step_keeps {P : State → Prop} (hp : ∀ (s : State) (cs : List Instr), P s → P { s with pending := cs })
    (hk : ∀ s t, Good s t → P s → P t) {s t : State} (hs : P s) (h : step s = .next t) : P t := by
  obtain ⟨u, hg, hu⟩ := step_good h
  exact hk u t hg (hu ▸ hp s u.pending hs)

/-! ## The statements -/

/-- Settles O6: `Good` carries both, and every command is `Good`. -/
theorem poolStaysConserved : Obligations.PoolStaysConserved :=
  ⟨fun _ _ hs h => step_keeps (fun _ _ h => h) (fun _ _ g => g.conserved) hs h,
    fun _ _ hc hs h => (step_keeps (P := fun s => s.conserved ∧ s.freeShown) (fun _ _ h => h)
      (fun _ _ g h => ⟨g.conserved h.1, g.shown h.1 h.2⟩) ⟨hc, hs⟩ h).2⟩

/-- Settles O7. -/
theorem linksStaySound : Obligations.LinksStaySound :=
  fun _ _ hs h => step_keeps (fun _ _ h => h) (fun _ _ g => g.sound) hs h

/-- Settles O9. -/
theorem motorsStayConsistent : Obligations.MotorsStayConsistent :=
  ⟨fun _ _ hs h => step_keeps (fun _ _ h => h) (fun _ _ g => g.motors) hs h,
    fun _ _ hm hd h => (step_keeps (P := fun s => s.motorsConsistent ∧ s.dutyCapped) (fun _ _ h => h)
      (fun _ _ g h => ⟨g.motors h.1, g.duties h.1 h.2⟩) ⟨hm, hd⟩ h).2⟩

/-- Settles O10. -/
theorem soundStaysConsistent : Obligations.SoundStaysConsistent :=
  ⟨fun _ _ hs h => step_keeps (fun _ _ h => h) (fun _ _ g => g.voices) hs h,
    fun _ _ hs h => step_keeps (fun _ _ h => h) (fun _ _ g => g.output) hs h⟩

/-- Settles O3. -/
theorem everyCommandIsCarriedOut : Obligations.EveryCommandIsCarriedOut := fun c s =>
  have ⟨t, ht, hg, hu⟩ := exec_good c s
  ⟨t, ht, hg.pending, hu⟩

end Sys2Proof.Machine
end

section
/-!
The step, the defaults after a reset, and the shared operations of the attention line, of the pool and of the receivers and
transmitters (statements O1, O2, O4, O5, O8, O13, O17, O22, O23, O24 and O58).
-/
namespace Sys2Proof.Machine

/-- Settles O1. -/
theorem stepRunsFrontCommand : Obligations.StepRunsFrontCommand := fun _ _ => rfl

/-- A hub that is held in reset stands. -/
theorem run_of_inReset {s : State} (f : State → State) (h : s.inReset = true) : run f s = .next s := by
  simp only [run, h, if_true]

/-- Settles O2. -/
theorem idleHubTicksAndHeldHubStands : Obligations.IdleHubTicksAndHeldHubStands := by
  refine ⟨fun s hp => ?_, fun c s hr powers asserts releases => ?_⟩
  · simp only [step, hp, tick]
    split
    · simp [← hp]
    · rfl
  · cases c with
    | powerOn pins => exact absurd rfl (powers pins)
    | resetNAssert => exact absurd rfl asserts
    | resetNRelease pins => exact absurd rfl (releases pins)
    | _ => exact run_of_inReset _ hr

/-- Settles O4. -/
theorem resetLeavesTheDefaults : Obligations.ResetLeavesTheDefaults := by
  unfold Obligations.ResetLeavesTheDefaults
  refine ⟨rfl, rfl, rfl, rfl, rfl, rfl, by decide +kernel, fun p => ?ports, by decide +kernel, by decide +kernel, rfl, rfl, rfl,
    rfl, rfl, rfl, rfl, rfl, rfl, rfl, by decide +kernel, by decide +kernel, by decide +kernel, by decide +kernel,
    by decide +kernel, by decide +kernel, by decide +kernel, rfl, rfl, rfl, rfl, rfl, by decide +kernel, by decide +kernel,
    rfl, rfl, rfl⟩
  case ports => cases p <;> decide +kernel

/-- Settles O5. -/
theorem invariantsHoldAtReset : Obligations.InvariantsHoldAtReset := by
  have noMotor : ∀ (p : Port) (m : Motor), State.reset.motor p ≠ some m := by intro p m h; cases p <;> cases h
  refine ⟨by decide, by decide, by decide, ⟨by decide, by decide, by decide, by decide, fun p m h => absurd h (noMotor p m)⟩,
    fun p => by cases p <;> decide, fun p m h => absurd h (noMotor p m), fun p m h => absurd h (noMotor p m), by decide,
    by decide, by decide⟩

/-- A hub held in reset that still polls port A: none of its lines is unsound, and its release takes port A from ACTIVE. -/
def polledInReset : State :=
  { State.reset with
    inReset := true
    ports := State.reset.ports.set .a { State.reset.port .a with state := .active }
    acq := State.reset.acq.set .a { State.reset.acquisition .a with schedule := .poll }
    pending := [.resetNRelease { prdy := everyLink false, bands := everyPort 0 }] }

/-- Refutes O8: RESET_N is released on a hub in which port A is ACTIVE and polled. Detection takes the port to DETECTING, and the
acquisition unit goes on polling it. -/
theorem not_queuesStayBounded : ¬ Obligations.QueuesStayBounded := by
  rintro ⟨-, lines⟩
  have before : polledInReset.linesSound := fun p => by cases p <;> decide
  obtain ⟨t, ht, hstate, hpolls⟩ : ∃ t, step polledInReset = .next t ∧ (t.port .a).state = .detecting ∧
      (t.acquisition .a).schedule = .poll := ⟨_, rfl, by decide +kernel, by decide +kernel⟩
  have := (lines polledInReset t before ht .a).2.2 hpolls
  rw [hstate] at this
  cases this

/-- Settles O58: both tests by the condition. -/
theorem reflexConditionsCompareTheWrite : Obligations.ReflexConditionsCompareTheWrite := by
  intro r c
  refine ⟨?_, ?_, ?_, ?_, ?_, ?_, ?_, ?_⟩
  case refine_8 => cases h : r.condition <;> simp [Reflex.rearmTest, h]
  all_goals
    intro h
    grind [Reflex.holds]

/-! ## The attention line -/

/-- A latch sets its bit and no other (R193). -/
theorem Attention.withLatch_latches (a : Attention) (k j : Nat) (hj : j < 12) :
    (a.withLatch k).latches.getLsbD j = true ↔ a.latches.getLsbD j = true ∨ j = k := by
  have bit : (1#12 <<< k).getLsbD j = true ↔ j = k := by
    simp only [BitVec.getLsbD_shiftLeft, BitVec.getLsbD_one, Bool.and_eq_true, decide_eq_true_eq, Bool.not_eq_true',
      decide_eq_false_iff_not]
    omega
  simp only [Attention.withLatch, BitVec.getLsbD_or, Bool.or_eq_true, bit]

/-- ATTN_N in LEVEL mode: a latch is set and unmasked (R194). -/
theorem Attention.lineLow_level {a : Attention} (h : a.mode = .level) :
    a.lineLow = true ↔ ∃ k, k < 12 ∧ a.latches.getLsbD k = true ∧ a.mask.getLsbD k = true := by
  have low : a.lineLow = true ↔ a.latches &&& a.mask ≠ 0 := by simp [Attention.lineLow, h]
  rw [low]
  constructor
  · intro hne
    by_contra hnone
    push Not at hnone
    refine hne (BitVec.eq_of_getLsbD_eq fun k hk => ?_)
    have := hnone k hk
    simpa [BitVec.getLsbD_and] using this
  · rintro ⟨k, hk, hl, hm⟩ hz
    have : (a.latches &&& a.mask).getLsbD k = true := by simp [BitVec.getLsbD_and, hl, hm]
    simp [hz] at this

/-- Settles O22. -/
theorem attentionPulsesFollowEachOther : Obligations.AttentionPulsesFollowEachOther := by
  refine ⟨fun a k => ?_, fun a => ⟨Attention.lineLow_level, fun h => by simp [Attention.lineLow, h]⟩, setLatch_eq,
    fun s hs => ⟨fun h => ?_, fun h => ?_⟩⟩
  · rw [Attention.setLatch_eq]
    refine ⟨fun j hj => a.withLatch_latches k j hj, rfl, rfl, fun none => ?_, fun hm hl hk => ⟨fun hq ho => ?_, fun hbusy => ?_⟩⟩
    · have : ¬ (a.latches.getLsbD k = false ∧ a.mode = .pulse ∧ a.mask.getLsbD k = true) := by
        rintro ⟨h1, h2, h3⟩
        simp [h1, h2, h3] at none
      simp only [Attention.withLatch, this, false_and, if_false, and_self]
    · simp [Attention.withLatch, hm, hl, hk, hq, ho]
    · have busy : ¬ (a.pulse = .quiet ∧ a.owed = 0) := by tauto
      simp only [Attention.withLatch, hm, hl, hk, busy, and_false, if_false, not_false_eq_true, if_true, and_self]
  · refine (run_of_nil hs ?_).trans ?_
    · exact hs.2
    · simp only [pulseEnds, Attention.pulseEnds, h, if_true]
  · refine (run_of_nil hs ?_).trans ?_
    · exact hs.2
    · by_cases ho : s.attention.owed = 0
      · simp [gapEnds, Attention.gapEnds, h, ho]
      · simp [gapEnds, Attention.gapEnds, h, ho, Nat.pos_of_ne_zero ho]

/-! ## The pool -/

/-- A review that makes no grant changes nothing. -/
theorem review_of_grant_zero {l : Link} {s : State} (h : (s.link l).grant s.free = 0) (hp : (s.link l).pendingCredit ≤ 255) :
    review l s = s := by
  have pend : satAdd 255 (s.link l).pendingCredit 0 = (s.link l).pendingCredit := by simp only [satAdd]; omega
  simp only [review, h, Nat.add_zero, Nat.sub_zero, pend]
  cases l <;> rfl

/-- Settles O23. -/
theorem creditReviewsGrantInOrder : Obligations.CreditReviewsGrantInOrder := by
  have grants : ∀ (u : LinkUnit) (free : Nat), (u.up && (4 ≤ u.deficit || (u.restart && 1 ≤ u.deficit)) && 9 ≤ free) = true ↔
      u.up = true ∧ (4 ≤ u.ceiling - u.outstanding ∨ u.restart = true ∧ 1 ≤ u.ceiling - u.outstanding) ∧ 9 ≤ free := by
    intro u free
    simp only [Bool.and_eq_true, Bool.or_eq_true, decide_eq_true_eq, and_assoc]
    rfl
  refine ⟨fun l s => ⟨?_, fun hno hp => review_of_grant_zero ?_ hp⟩, fun s => ?_⟩
  · rintro ⟨hu, hd, hf⟩
    have hg : (s.link l).grant s.free = min ((s.link l).ceiling - (s.link l).outstanding) (s.free - 8) := by
      rw [LinkUnit.grant, if_pos ((grants _ _).mpr ⟨hu, hd, hf⟩)]
      rfl
    refine ⟨by omega, ?_⟩
    simp only [review, hg]
    rfl
  · rw [LinkUnit.grant, if_neg fun h => hno ((grants _ _).mp h)]
  · unfold reviewBoth firstReviewed
    split
    · rw [if_neg (by omega)]; rfl
    · rw [if_pos (by omega)]; rfl

/-- A notice or an event of a DOWN link (R12). -/
theorem placeUrgent_down {l : Link} {s : State} (f : Frame) (h : (s.link l).up = false) :
    placeUrgent l f s = s.downLinkDrop l := by
  have place : urgentPlacement l s = .down := by simp [urgentPlacement, h]
  rw [placeUrgent, place]
  rfl

/-- A notice or an event without room (R12). -/
theorem placeUrgent_full {l : Link} {s : State} (f : Frame) (hu : (s.link l).up = true)
    (h : ¬ (1 ≤ s.free ∧ urgentRoom l s = true)) :
    placeUrgent l f s = (s.setLink l { s.link l with counters := { (s.link l).counters with
      lostNotices := min 65535 ((s.link l).counters.lostNotices + 1) } }).latched 10 := by
  have place : urgentPlacement l s = .dropped := by
    rw [urgentPlacement, if_pos hu, if_neg (by simpa using h)]
  rw [placeUrgent, place]
  exact setLatch_eq ..

/-- A notice or an event with room is placed, and its write of S3 waits (R12). -/
theorem placeUrgent_room {l : Link} {s : State} (f : Frame) (hu : (s.link l).up = true) (hf : 1 ≤ s.free)
    (hr : urgentRoom l s = true) (small : s.free ≤ 2147483647) :
    placeUrgent l f s = { (s.withFree (s.free - 1)).withUrgent l f with
      unobserved := s.unobserved ++
        [{ cell := .sys 3, left := ((s.withFree (s.free - 1)).withUrgent l f).cell (.sys 3) }] } := by
  have place : urgentPlacement l s = .placed := by simp [urgentPlacement, hu, hf, hr]
  have small' : (pushUrgent l f { s with free := s.free - 1 }).free ≤ 2147483647 := Nat.le_trans (Nat.sub_le ..) small
  rw [placeUrgent, place]
  dsimp only
  rw [writeFree_eq small']
  rfl

/-- Where no request is in progress, the urgent queue has room for eight frames. -/
theorem urgentRoom_eq {l : Link} {s : State} (h : s.mgmt.inProgress = none) :
    urgentRoom l s = decide ((s.link l).urgent.length < 8) := by simp [urgentRoom, h]

/-- Settles O24. -/
theorem noticesArePlacedOrDropped : Obligations.NoticesArePlacedOrDropped := by
  intro l f s hc hp
  refine ⟨fun hd => placeUrgent_down f hd, fun hu hfull => placeUrgent_full f hu ?_,
    fun hu hf hq => placeUrgent_room f hu hf ?_ ?_⟩
  · rw [urgentRoom_eq hp, decide_eq_true_eq]; omega
  · rw [urgentRoom_eq hp, decide_eq_true_eq]; exact hq
  · exact hc.free_le.trans (by decide)

/-! ## Receivers and transmitters -/

/-- Settles O13. -/
theorem receiverHuntsAndRefusesHeaders : Obligations.ReceiverHuntsAndRefusesHeaders := by
  intro l s hs hu
  refine ⟨fun hr => ?_, fun n hr => ?_, fun b1 b2 b3 b4 hr => ⟨fun hlen => ?_, fun hlen hpages => ?_⟩⟩
  · have : syncArrives l s = s.setLink l { s.link l with receiver := .header } := by
      simp only [syncArrives, hu, hr, decide_true, Bool.and_self, if_true, setReceiver]
    exact (run_of_nil hs (by rw [this]; exact hs.2)).trans (congrArg _ this)
  · have : skipEnds l s = s.setLink l { s.link l with receiver := .hunting } := by simp only [skipEnds, hr, setReceiver]
    exact (run_of_nil hs (by rw [this]; exact hs.2)).trans (congrArg _ this)
  · have : headerArrives l (headerOf b1 b2 b3 b4) s = s.setLink l
        { s.link l with
          receiver := .hunting
          counters := { (s.link l).counters with formatErrors := min 65535 ((s.link l).counters.formatErrors + 1) } } := by
      have long : 248 < (headerOf b1 b2 b3 b4).length := hlen
      simp only [headerArrives, hu, hr, decide_true, Bool.and_self, if_true, long, formatError, setReceiver, modCounters,
        State.link_setLink_same, State.setLink_setLink, bump, satAdd]
    exact (run_of_nil hs (by rw [this]; exact hs.2)).trans (congrArg _ this)
  · have : headerArrives l (headerOf b1 b2 b3 b4) s = (s.setLink l
        { s.link l with
          receiver := .skipping (b3.toNat + 2)
          counters := { (s.link l).counters with overruns := min 65535 ((s.link l).counters.overruns + 1) } }).latched 9 := by
      have short : ¬ 248 < (headerOf b1 b2 b3 b4).length := by simpa [headerOf] using hlen
      have more : (s.link l).outstanding < pagesOf (headerOf b1 b2 b3 b4).length := hpages
      simp only [headerArrives, hu, hr, decide_true, Bool.and_self, if_true, short, if_false, more, overrun, setReceiver,
        modCounters, State.link_setLink_same, State.setLink_setLink, bump, satAdd, setLatch_eq, latchLinkError]
      rfl
    exact (run_of_nil hs (by rw [this]; exact hs.2)).trans (congrArg _ this)

/-- What an IDLE transmitter starts, in the order of R36. -/
theorem LinkUnit.starts_credit {u : LinkUnit} (h : 0 < u.pendingCredit) : u.starts =
    { u with
      sending := some { source := .credit, bytes := wireBytes u.creditFrame }, pendingCredit := 0, restart := false } := by
  rw [LinkUnit.starts, if_pos h]
theorem LinkUnit.starts_urgent {u : LinkUnit} {f : Frame} {rest : List Frame} (h : u.pendingCredit = 0)
    (hq : u.urgent = f :: rest) : u.starts = { u with sending := some { source := .queue .urgent, bytes := wireBytes f } } := by
  rw [LinkUnit.starts, if_neg (by omega), hq]
theorem LinkUnit.starts_normal {u : LinkUnit} {f : Frame} {rest : List Frame} (h : u.pendingCredit = 0)
    (hq : u.urgent = []) (hn : u.normal = f :: rest) :
    u.starts = { u with sending := some { source := .queue .normal, bytes := wireBytes f } } := by
  rw [LinkUnit.starts, if_neg (by omega), hq, hn]
theorem LinkUnit.starts_nothing {u : LinkUnit} (h : u.pendingCredit = 0) (hq : u.urgent = []) (hn : u.normal = []) :
    u.starts = u := by
  rw [LinkUnit.starts, if_neg (by omega), hq, hn]

/-- A transmitter that starts, or only takes the level of CTS. -/
theorem exec_transmitStart {l : Link} {cts : Bool} {s : State} {t : LinkUnit} (hs : s.settled)
    (h : transmitStarts l cts s = s.setLink l t) : exec (.transmitStart l cts) s = .next (s.setLink l t) :=
  (run_of_nil hs (by rw [h]; exact hs.2)).trans (congrArg _ h)

/-- Settles O17. -/
theorem transmitterStartsInOrder : Obligations.TransmitterStartsInOrder := by
  intro l s hs hu hsend hres
  have starts : transmitStarts l true s = s.setLink l { s.link l with cts := true }.starts := by
    simp [transmitStarts, hu, hsend, hres]
  refine ⟨exec_transmitStart hs (by simp [transmitStarts]), fun hp => exec_transmitStart hs (starts.trans ?_),
    fun f rest hp hq => exec_transmitStart hs (starts.trans ?_),
    fun f rest hp hq hn => exec_transmitStart hs (starts.trans ?_), fun hp hq hn => exec_transmitStart hs (starts.trans ?_)⟩
  · exact congrArg _ (LinkUnit.starts_credit hp)
  · exact congrArg _ (LinkUnit.starts_urgent hp hq)
  · exact congrArg _ (LinkUnit.starts_normal hp hq hn)
  · exact congrArg _ (LinkUnit.starts_nothing hp hq hn)

end Sys2Proof.Machine
end

section
/-!
Writes of S3 that wait (log entry 6): an operation whose only writes are of S3 leaves, where nothing watches S3, what it says and
nothing more.
-/
namespace Sys2Proof.Machine

/-! ## A hub with writes of S3 that wait -/

/-- `t` with other writes that wait for their observers. -/
def State.withWrites (t : State) (ws : List Write) : State := { t with unobserved := ws }

theorem State.withWrites_of_nil {t : State} (h : t.unobserved = []) : t.withWrites [] = t := by
  cases t; cases h; rfl

/-- The writes that wait have no part in a review. -/
theorem reviewBoth_withWrites (t : State) (ws : List Write) :
    reviewBoth (t.withWrites ws) = (reviewBoth t).withWrites ws := by
  have first : firstReviewed (t.withWrites ws) = firstReviewed t := rfl
  have each : ∀ l (t : State), review l (t.withWrites ws) = (review l t).withWrites ws := fun _ _ => rfl
  rw [reviewBoth, first, each, each]
  rfl

/-- The writes that wait have no part in a release. -/
theorem State.afterRelease_withWrites (t : State) (ws : List Write) (n : Nat) :
    (t.withWrites ws).afterRelease n = (t.afterRelease n).withWrites ws := by
  have pages : (t.withWrites ws).withPages n = (t.withPages n).withWrites ws := rfl
  simp only [State.afterRelease, pages, reviewBoth_withWrites]
  rfl

/-- `u` is `t` with writes of S3 that wait for their observers. -/
def Awaits (t u : State) : Prop := ∃ ws : List Write, (∀ w ∈ ws, w.cell = .sys 3) ∧ u = t.withWrites ws

theorem Awaits.of_nil {s : State} (h : s.unobserved = []) : Awaits s s :=
  ⟨[], by simp, (State.withWrites_of_nil h).symm⟩

/-- An operation that neither reads nor changes the writes that wait. -/
theorem Awaits.map {t u : State} {f : State → State} (h : Awaits t u)
    (hf : ∀ ws, f (t.withWrites ws) = (f t).withWrites ws) : Awaits (f t) (f u) := by
  obtain ⟨ws, hw, rfl⟩ := h
  exact ⟨ws, hw, hf ws⟩

/-- One more write of S3 waits. -/
theorem Awaits.append {t : State} {ws : List Write} {c : Cell} (hw : ∀ w ∈ ws, w.cell = .sys 3) :
    Awaits t (t.withWrites (ws ++ [{ cell := .sys 3, left := c }])) := by
  refine ⟨_, fun w h => ?_, rfl⟩
  simp only [List.mem_append, List.mem_singleton] at h
  obtain h | rfl := h
  · exact hw w h
  · rfl

theorem Awaits.writeFree {t u : State} (h : Awaits t u) (small : t.free ≤ 2147483647) :
    Awaits (t.s3Written t.free) (writeFree u) := by
  obtain ⟨ws, hw, rfl⟩ := h
  rw [writeFree_eq (s := t.withWrites ws) small]
  exact .append (t := t.s3Written t.free) hw

theorem Awaits.release {t u : State} {n : Nat} (h : Awaits t u) (hn : n ≠ 0) (small : t.free + n ≤ 2147483647) :
    Awaits (t.afterRelease n) (release n u) := by
  obtain ⟨ws, hw, rfl⟩ := h
  rw [release_eq (s := t.withWrites ws) hn small, State.afterRelease_withWrites]
  exact .append hw

theorem Awaits.setLatch {t u : State} (k : Nat) (h : Awaits t u) : Awaits (t.latched k) (setLatch k u) := by
  rw [setLatch_eq]
  exact h.map (f := fun s => s.latched k) fun _ => rfl

/-- A notice or an event, while no request keeps a place of the urgent queue. -/
theorem Awaits.placeUrgent {t u : State} {l : Link} {f : Frame} (h : Awaits t u) (hp : t.mgmt.inProgress = none)
    (small : t.free ≤ 2147483647) : Awaits (t.handed l f) (placeUrgent l f u) := by
  obtain ⟨ws, hw, rfl⟩ := h
  have room : urgentRoom l (t.withWrites ws) = decide ((t.link l).urgent.length < 8) := urgentRoom_eq hp
  cases hu : (t.link l).up
  · rw [State.handed, if_pos hu, placeUrgent_down f (s := t.withWrites ws) hu]
    exact ⟨ws, hw, rfl⟩
  · by_cases hr : t.free = 0 ∨ 8 ≤ (t.link l).urgent.length
    · rw [State.handed, if_neg (by simp [hu]), if_pos hr, placeUrgent_full f (s := t.withWrites ws) hu]
      · exact ⟨ws, hw, rfl⟩
      · rw [room, decide_eq_true_eq]
        show ¬ (1 ≤ t.free ∧ _)
        omega
    · rw [State.handed, if_neg (by simp [hu]), if_neg hr, placeUrgent_room f (s := t.withWrites ws) hu]
      · exact .append (t := (t.withFree (t.free - 1)).withUrgent l f) hw
      · show 1 ≤ t.free; omega
      · rw [room, decide_eq_true_eq]; omega
      · exact small

/-- A notice on a route, where it has one. -/
theorem Awaits.sendNotice {t u : State} {route : Option Endpoint} {tag : Byte} {payload : List Byte} (h : Awaits t u)
    (hp : t.mgmt.inProgress = none) (small : t.free ≤ 2147483647) :
    Awaits (t.notice route tag payload) (sendNotice route tag payload u) := by
  cases route with
  | none => exact h
  | some e => exact h.placeUrgent hp small

/-- An event on a route, where it has one. -/
theorem Awaits.sendEvent {t u : State} {route : Option Endpoint} {payload : List Byte} (h : Awaits t u)
    (hp : t.mgmt.inProgress = none) (small : t.free ≤ 2147483647) :
    Awaits (t.event route payload) (sendEvent route payload u) := by
  cases route with
  | none => exact h
  | some e => exact h.placeUrgent hp small

/-- Where nothing watches S3, the writes of S3 that wait are handed over without effect. -/
theorem Awaits.drain {t u : State} (h : Awaits t u) (hu : t.unobserved = []) (hi : t.ignores (.sys 3)) : drain u = t := by
  obtain ⟨ws, hw, rfl⟩ := h
  rw [drain_ignored (s := t.withWrites ws) (c := .sys 3) hi hw]
  cases t; cases hu; rfl

/-- A command whose only writes are of S3. -/
theorem Awaits.run {s t : State} {f : State → State} (h : Awaits t (f s)) (hs : s.settled) (hu : t.unobserved = [])
    (hi : t.ignores (.sys 3)) : run f s = .next t := by rw [run_of_settled hs, h.drain hu hi]

/-- A command whose operation is known, and whose only writes are of S3. -/
theorem Awaits.run_eq {s t u : State} {f : State → State} (h : Awaits t u) (hf : f s = u) (hs : s.settled)
    (hu : t.unobserved = []) (hi : t.ignores (.sys 3)) : Machine.run f s = .next t :=
  Awaits.run (by rw [hf]; exact h) hs hu hi

/-! ## Operations whose only writes are of S3 -/

/-- From `s` to `t` no write came to wait but those of S3, and neither a reflex nor a subscription changed. -/
structure WritesS3 (s t : State) : Prop where
  waits : ∀ w ∈ t.unobserved, w ∈ s.unobserved ∨ w.cell = .sys 3
  reflexes : t.reflexes = s.reflexes
  subs : t.subs = s.subs

theorem WritesS3.refl (s : State) : WritesS3 s s := ⟨fun _ => .inl, rfl, rfl⟩

theorem WritesS3.trans {s t u : State} (h : WritesS3 s t) (k : WritesS3 t u) : WritesS3 s u :=
  ⟨fun w hw => (k.waits w hw).elim (h.waits w) .inr, k.reflexes.trans h.reflexes, k.subs.trans h.subs⟩

theorem WritesS3.foldl {α : Type} {f : State → α → State} (h : ∀ s a, WritesS3 s (f s a)) (as : List α) (s : State) :
    WritesS3 s (as.foldl f s) := by
  induction as generalizing s with
  | nil => exact .refl s
  | cons a as ih => exact (h s a).trans (ih _)

/-- An operation that changes other parts of the hub alone. -/
theorem WritesS3.of_same {s t : State} (hu : t.unobserved = s.unobserved) (hr : t.reflexes = s.reflexes)
    (hs : t.subs = s.subs) : WritesS3 s t := ⟨fun _ hw => .inl (hu ▸ hw), hr, hs⟩

theorem WritesS3.ignores {s t : State} (h : WritesS3 s t) {c : CellId} (hi : s.ignores c) : t.ignores c := by
  refine ⟨fun i => ?_, fun i => ?_⟩
  · simp only [State.reflex, h.reflexes]; exact hi.1 i
  · simp only [State.sub, h.subs]; exact hi.2 i

theorem WritesS3.drain {s t : State} (h : WritesS3 s t) (hs : s.unobserved = []) (hi : s.ignores (.sys 3)) :
    drain t = { t with unobserved := [] } :=
  drain_ignored (h.ignores hi) fun w hw => (h.waits w hw).elim (fun hm => by simp [hs] at hm) id

theorem WritesS3.run {s : State} {f : State → State} (h : WritesS3 s (f s)) (hs : s.settled) (hi : s.ignores (.sys 3)) :
    run f s = .next { f s with unobserved := [] } := by rw [run_of_settled hs, h.drain hs.2 hi]

theorem writeFree_writesS3 (s : State) : WritesS3 s (writeFree s) := by
  refine ⟨fun w hw => ?_, rfl, rfl⟩
  have hw : w ∈ s.unobserved ++ [_] := hw
  rw [List.mem_append, List.mem_singleton] at hw
  exact hw.imp_right fun e => by rw [e]

theorem reviewBoth_writesS3 (s : State) : WritesS3 s (reviewBoth s) := .of_same rfl rfl rfl

theorem release_writesS3 (n : Nat) (s : State) : WritesS3 s (release n s) := by
  unfold release
  split
  · exact .refl s
  · exact ((WritesS3.of_same rfl rfl rfl : WritesS3 s (freePages n s)).trans (reviewBoth_writesS3 _)).trans
      (writeFree_writesS3 _)

theorem setLatch_writesS3 (k : Nat) (s : State) : WritesS3 s (setLatch k s) := .of_same rfl rfl rfl

theorem setLink_writesS3 (l : Link) (u : LinkUnit) (s : State) : WritesS3 s (s.setLink l u) := .of_same rfl rfl rfl

theorem setVoice_writesS3 (v : VoiceId) (r : Voice) (s : State) : WritesS3 s (s.setVoice v r) := .of_same rfl rfl rfl

theorem placeUrgent_writesS3 (l : Link) (f : Frame) (s : State) : WritesS3 s (placeUrgent l f s) := by
  unfold placeUrgent
  split
  · exact setLink_writesS3 ..
  · exact (setLink_writesS3 ..).trans (setLatch_writesS3 ..)
  · exact (WritesS3.of_same rfl rfl rfl : WritesS3 s (pushUrgent l f { s with free := s.free - 1 })).trans
      (writeFree_writesS3 _)

theorem sendNotice_writesS3 (route : Option Endpoint) (tag : Byte) (payload : List Byte) (s : State) :
    WritesS3 s (sendNotice route tag payload s) := by
  cases route with
  | none => exact .refl s
  | some e => exact placeUrgent_writesS3 ..

theorem sendEvent_writesS3 (route : Option Endpoint) (payload : List Byte) (s : State) :
    WritesS3 s (sendEvent route payload s) := by
  cases route with
  | none => exact .refl s
  | some e => exact placeUrgent_writesS3 ..

/-! ### Motors -/

theorem moveMotor_writesS3 (p : Port) (before after : Motor) (ended : List (Segment × SegOutcome)) (s : State) :
    WritesS3 s (moveMotor p before after ended s) := by
  have ends : WritesS3 s (reportEnded p after.x ended (s.setMotor p (some after))) :=
    (WritesS3.of_same rfl rfl rfl : WritesS3 s (s.setMotor p (some after))).trans
      (.foldl (fun _ _ => sendNotice_writesS3 ..) ..)
  have low : ∀ t, WritesS3 t (reportLowWater p before after ended t) := by
    intro t
    unfold reportLowWater
    split
    · dsimp only
      split
      · exact sendNotice_writesS3 ..
      · exact .refl t
    · exact .refl t
  unfold moveMotor
  dsimp only
  split
  · exact ends.trans (low _)
  · exact (ends.trans (low _)).trans (sendNotice_writesS3 ..)

theorem examineLossAt_writesS3 (l : Link) (p : Port) (s : State) : WritesS3 s (examineLossAt l p s) := by
  unfold examineLossAt
  split
  · split
    · unfold examineLoss
      split
      · split
        · exact moveMotor_writesS3 ..
        · exact .refl s
      · exact .refl s
    · exact .refl s
  · exact .refl s

theorem linkMotorCommand_writesS3 (p : Port) (o : Origin) (code : Byte) (r : Option MotionRequest) (s : State) :
    WritesS3 s (linkMotorCommand p o code r s) := by
  unfold linkMotorCommand
  split
  · exact sendNotice_writesS3 ..
  · split
    · exact sendNotice_writesS3 ..
    · split
      · exact sendNotice_writesS3 ..
      · exact moveMotor_writesS3 ..

/-! ### Voices -/

theorem startIdleTimer_writesS3 (s : State) : WritesS3 s (startIdleTimer s) := by
  unfold startIdleTimer
  split
  · split
    · exact .of_same rfl rfl rfl
    · exact .of_same rfl rfl rfl
  · exact .refl s

theorem askWarmup_writesS3 (s : State) : WritesS3 s (askWarmup s) := by
  unfold askWarmup
  split
  · split
    · exact .refl s
    · exact .of_same rfl rfl rfl
  · exact .refl s

theorem startNote_writesS3 (v : VoiceId) (s : State) : WritesS3 s (startNote v s) := by
  unfold startNote
  dsimp only
  split
  · exact .of_same rfl rfl rfl
  · exact WritesS3.trans (WritesS3.of_same (by rfl) (by rfl) (by rfl)) (askWarmup_writesS3 _)

theorem reportNotes_writesS3 (v : VoiceId) (ended : List (Note × SegOutcome)) (s : State) :
    WritesS3 s (reportNotes v ended s) := .foldl (fun _ _ => sendNotice_writesS3 ..) ..

theorem becomeIdle_writesS3 (v : VoiceId) (s : State) : WritesS3 s (becomeIdle v s) :=
  (setVoice_writesS3 ..).trans (startIdleTimer_writesS3 _)

theorem freeStream_writesS3 (k : Nat) (v : VoiceId) (s : State) : WritesS3 s (freeStream k v s) :=
  (setVoice_writesS3 ..).trans (release_writesS3 ..)

theorem silence_writesS3 (v : VoiceId) (o : SegOutcome) (s : State) : WritesS3 s (silence v o s) :=
  (((setVoice_writesS3 ..).trans (reportNotes_writesS3 ..)).trans (freeStream_writesS3 ..)).trans
    (becomeIdle_writesS3 ..)

theorem flushBehind_writesS3 (v : VoiceId) (s : State) : WritesS3 s (flushBehind v s) :=
  (setVoice_writesS3 ..).trans (reportNotes_writesS3 ..)

theorem stopReleaseVoice_writesS3 (v : VoiceId) (s : State) : WritesS3 s (stopReleaseVoice v s) := by
  unfold stopReleaseVoice
  refine (setVoice_writesS3 v { s.voice v with loopOn := false, stopMarker := true } s).trans ?_
  dsimp only
  split
  · exact freeStream_writesS3 ..
  · exact silence_writesS3 ..
  · exact silence_writesS3 ..
  · split
    · exact silence_writesS3 ..
    · split
      · exact (setVoice_writesS3 ..).trans (silence_writesS3 ..)
      · exact ((flushBehind_writesS3 ..).trans (setVoice_writesS3 ..)).trans (freeStream_writesS3 ..)
    · exact ((flushBehind_writesS3 ..).trans (setVoice_writesS3 ..)).trans (freeStream_writesS3 ..)
  · exact (flushBehind_writesS3 ..).trans (freeStream_writesS3 ..)
  · exact .refl _

theorem takeSound_writesS3 (v : VoiceId) (r : SoundRequest) (s : State) : WritesS3 s (takeSound v r s) := by
  cases r with
  | queue n =>
    simp only [takeSound, queueNote]
    split
    · exact (setVoice_writesS3 ..).trans (startNote_writesS3 ..)
    · exact setVoice_writesS3 ..
  | play n =>
    exact (((setVoice_writesS3 ..).trans (reportNotes_writesS3 ..)).trans (freeStream_writesS3 ..)).trans
      (startNote_writesS3 ..)
  | stopRelease => exact stopReleaseVoice_writesS3 ..
  | stopCut =>
    simp only [takeSound, stopCutVoice]
    split
    · exact freeStream_writesS3 ..
    · exact silence_writesS3 ..
  | setGain g =>
    simp only [takeSound, setGainVoice]
    split
    · exact setVoice_writesS3 ..
    · exact .refl s
  | setLoop on => exact setVoice_writesS3 ..

theorem linkSoundCommand_writesS3 (v : VoiceId) (o : Origin) (code : Byte) (r : Option SoundRequest) (s : State) :
    WritesS3 s (linkSoundCommand v o code r s) := by
  unfold linkSoundCommand
  split
  · exact sendNotice_writesS3 ..
  · split
    · exact sendNotice_writesS3 ..
    · exact takeSound_writesS3 ..

end Sys2Proof.Machine
end

section
/-!
The links (O14, O18, O20): a review, a release and a withdrawal as one pool operation each.
-/
namespace Sys2Proof.Machine

/-- `s` after a review of a link that grants `g` pages. -/
def State.granted (s : State) (l : Link) (g : Nat) : State :=
  if g = 0 then s
  else (s.withFree (s.free - g)).setLink l
    { s.link l with
      outstanding := (s.link l).outstanding + g, pendingCredit := min 255 ((s.link l).pendingCredit + g) }

/-- A review writes S3 where it grants (R4, R7). -/
theorem reviewOperation_awaits {l : Link} {s : State} (hu : s.unobserved = []) (small : s.free ≤ 2147483647)
    (hp : (s.link l).pendingCredit ≤ 255) : Awaits (s.granted l ((s.link l).grant s.free)) (reviewOperation l s) := by
  have bound : (s.link l).grant s.free ≤ s.free := LinkUnit.grant_le ..
  unfold reviewOperation writeFreeIfMoved State.granted
  by_cases hg : (s.link l).grant s.free = 0
  · rw [review_of_grant_zero hg hp, if_pos rfl, if_pos hg]
    exact .of_nil hu
  · have moved : (review l s).free ≠ s.free := by simp only [review]; omega
    rw [if_neg moved, if_neg hg]
    have hu' : (review l s).unobserved = [] := hu
    exact (Awaits.of_nil hu').writeFree (Nat.le_trans (review_free_le ..) small)

/-- Nothing watches S3 whether a review grants or not. -/
theorem State.granted_ignores {s : State} {l : Link} {g : Nat} {c : CellId} (h : s.ignores c) : (s.granted l g).ignores c := by
  unfold State.granted
  split
  · exact h
  · exact h

/-- A grant after the link's own change. -/
theorem State.granted_setLink (s : State) (l : Link) (u : LinkUnit) (g : Nat) :
    (s.setLink l u).granted l g = if g = 0 then s.setLink l u
      else (s.withFree (s.free - g)).setLink l
        { u with outstanding := u.outstanding + g, pendingCredit := min 255 (u.pendingCredit + g) } := by
  simp only [State.granted, State.link_setLink_same]
  exact if_congr Iff.rfl rfl (State.setLink_setLink (s.withFree (s.free - g)) l u _)

theorem State.granted_unobserved {s : State} {l : Link} {g : Nat} (h : s.unobserved = []) :
    (s.granted l g).unobserved = [] := by
  unfold State.granted
  split
  · exact h
  · exact h

/-- Settles O14: the header's pages pass to the assembly, and the review that follows is `reviewOperation_awaits`. -/
theorem acceptedHeaderTakesCredit : Obligations.AcceptedHeaderTakesCredit := by
  intro l b1 b2 b3 b4 s hq hsound hup hr hlen hout
  obtain ⟨hs, hc, hi⟩ := hq
  obtain ⟨-, -, -, hp, -⟩ := hsound
  have accepts : headerArrives l (headerOf b1 b2 b3 b4) s = acceptHeader l (headerOf b1 b2 b3 b4) s := by
    have fits : ¬ 248 < (headerOf b1 b2 b3 b4).length := Nat.not_lt.mpr hlen
    have credit : ¬ (s.link l).outstanding < pagesOf (headerOf b1 b2 b3 b4).length := Nat.not_lt.mpr hout
    simp only [headerArrives, hup, hr, decide_true, Bool.and_self, if_true, if_neg fits, if_neg credit]
  have aw := reviewOperation_awaits (l := l) (s := s.setLink l { s.link l with
      outstanding := (s.link l).outstanding - pagesOf (headerOf b1 b2 b3 b4).length
      receiver := .payload (headerOf b1 b2 b3 b4) }) hs.2 (Nat.le_trans hc.free_le (by omega)) (by simpa using hp)
  refine (aw.run_eq accepts hs (State.granted_unobserved hs.2) (State.granted_ignores hi)).trans (congrArg _ ?_)
  rw [State.link_setLink_same, State.granted_setLink]
  rfl

/-! ## Sent frames -/

/-- The transmit queue with its head `f` sent gives up the pages of `f`. -/
theorem sentFrom_awaits {l : Link} {q : TxQueue} {f : Frame} {s : State} (hu : s.unobserved = [])
    (small : s.free + f.pages ≤ 2147483647) :
    Awaits ((s.setLink l { (s.link l).popQueue q with
      sending := none
      counters := { (s.link l).counters with framesTransmitted := bump (s.link l).counters.framesTransmitted } }).afterRelease
        f.pages) (sentFrom l q f s) := by
  have kept : ((s.link l).popQueue q).counters = (s.link l).counters := by cases q <;> rfl
  have same : modCounters l (fun c => { c with framesTransmitted := bump c.framesTransmitted })
      (s.setLink l { (s.link l).popQueue q with sending := none }) = s.setLink l { (s.link l).popQueue q with
        sending := none
        counters := { (s.link l).counters with framesTransmitted := bump (s.link l).counters.framesTransmitted } } := by
    simp only [modCounters, State.link_setLink_same, State.setLink_setLink, kept]
  have sent : sentFrom l q f s = release f.pages (s.setLink l { (s.link l).popQueue q with
        sending := none
        counters := { (s.link l).counters with framesTransmitted := bump (s.link l).counters.framesTransmitted } }) :=
    congrArg (release f.pages) same
  rw [sent]
  refine Awaits.release (Awaits.of_nil hu) ?_ small
  have := pagesOf_pos f.payload.length
  exact Nat.ne_of_gt this

/-- The pages of a stored frame and free are at most 128. -/
theorem State.conserved.free_add_le {s : State} {l : Link} {n : Nat} (hc : s.conserved) (h : n ≤ (s.link l).pageTotal) :
    s.free + n ≤ 128 := by
  have : s.free + (s.link l).pageTotal ≤ s.poolTotal := by
    cases l <;> simp only [State.poolTotal, State.storedPages, LinkUnit.pageTotal] <;> omega
  omega

/-- A sent frame's command: its pages fit below 128. -/
theorem exec_frameTransmitted {l : Link} {q : TxQueue} {f : Frame} {rest : List Frame} {bytes : List Byte} {s : State}
    (hq : s.quiet) (h : (s.link l).sending = some { source := .queue q, bytes := bytes })
    (hf : (s.link l).queue q = f :: rest) :
    exec (.frameTransmitted l) s = .next ((s.setLink l { (s.link l).popQueue q with
      sending := none
      counters := { (s.link l).counters with framesTransmitted := bump (s.link l).counters.framesTransmitted } }).afterRelease
        f.pages) := by
  obtain ⟨hs, hc, hi⟩ := hq
  have bound : f.pages ≤ (s.link l).pageTotal := by
    have := LinkUnit.pageTotal_sent hf
    omega
  have small := hc.free_add_le bound
  have sends : frameSent l s = sentFrom l q f s := by simp only [frameSent, h, hf]
  exact (sentFrom_awaits (q := q) hs.2 (by omega)).run_eq sends hs hs.2 hi

/-- Settles O18. -/
theorem sentFrameLeavesItsQueue : Obligations.SentFrameLeavesItsQueue := by
  intro l bytes s
  refine ⟨fun hq f rest h hf => ?_, fun hq f rest h hf => ?_, fun hs h => ?_⟩
  · refine (exec_frameTransmitted hq h (q := .urgent) hf).trans ?_
    simp only [LinkUnit.popQueue, hf, List.tail_cons]
    rfl
  · refine (exec_frameTransmitted hq h (q := .normal) hf).trans ?_
    simp only [LinkUnit.popQueue, hf, List.tail_cons]
    rfl
  · have sends : creditSent l s = s.setLink l { s.link l with sending := none } := by simp only [creditSent, h]
    have nil : (creditSent l s).unobserved = [] := by rw [sends]; exact hs.2
    exact (run_of_nil hs nil).trans (congrArg _ sends)

/-! ## Links that come UP and go DOWN -/

theorem linkRises_up {l : Link} {s : State} (h : (s.link l).up = true) : linkRises l s = s := by
  simp only [linkRises, h, if_true]

theorem linkFalls_down {l : Link} {s : State} (h : (s.link l).up = false) : linkFalls l s = s := by
  simp only [linkFalls, h, Bool.false_eq_true, if_false]

/-- The first grant of a link that comes UP (R7, R17): its deficit is its ceiling. -/
theorem LinkUnit.grant_risen {u : LinkUnit} (h : u.sound) (hd : u.up = false) (free : Nat) :
    { u with up := true, restart := true }.grant free = if 9 ≤ free then min u.ceiling (free - 8) else 0 := by
  obtain ⟨-, lo, -, -, down⟩ := h
  obtain ⟨none, -⟩ := down hd
  have deficit : { u with up := true, restart := true }.deficit = u.ceiling := by
    simp only [LinkUnit.deficit, none, Nat.sub_zero]
  have wants : 4 ≤ u.ceiling := by omega
  simp only [LinkUnit.grant, deficit, wants, decide_true, Bool.true_or, Bool.and_self, Bool.true_and, decide_eq_true_eq]

/-- A link of a quiet hub comes UP: the review of its whole ceiling, and LINK_CHANGE. -/
theorem exec_linkUp {l : Link} {s : State} (hq : s.quiet) (hsound : (s.link l).sound) (hd : (s.link l).up = false) :
    let u := s.link l
    let g := if 9 ≤ s.free then min u.ceiling (s.free - 8) else 0
    exec (.linkUp l) s = .next (((if g = 0 then s else s.withFree (s.free - g)).setLink l
        { u with up := true, restart := true, outstanding := g, pendingCredit := g }).latched 8) := by
  intro u g
  obtain ⟨hs, hc, hi⟩ := hq
  have grants := LinkUnit.grant_risen hsound hd s.free
  obtain ⟨-, -, hi48, hp, down⟩ := hsound
  obtain ⟨out, pend, -⟩ := down hd
  have gle : g ≤ 48 := by
    show (if 9 ≤ s.free then min u.ceiling (s.free - 8) else 0) ≤ 48
    have : u.ceiling ≤ 48 := hi48
    split <;> omega
  have aw := (reviewOperation_awaits (l := l) (s := s.setLink l { s.link l with up := true, restart := true }) hs.2
    (Nat.le_trans hc.free_le (by omega)) (by simpa using hp)).setLatch latchLinkChange
  rw [State.link_setLink_same, State.setLink_free, grants] at aw
  have rises : linkRises l s = setLatch latchLinkChange
      (reviewOperation l (s.setLink l { s.link l with up := true, restart := true })) := by
    simp only [linkRises, hd, Bool.false_eq_true, if_false]
  refine (aw.run_eq rises hs (State.granted_unobserved hs.2) (State.granted_ignores hi)).trans (congrArg _ ?_)
  refine congrArg (State.latched · 8) ?_
  show (s.setLink l { u with up := true, restart := true }).granted l g = _
  rw [State.granted_setLink, show u.outstanding = 0 from out, show u.pendingCredit = 0 from pend]
  by_cases hg : g = 0
  · rw [hg]; rfl
  · have total : min 255 (0 + g) = g := by omega
    rw [if_neg hg, if_neg hg, total, Nat.zero_add]

/-- A motor without a link-loss action stands when its link is lost (R111). -/
theorem examineLossAt_noAction {l : Link} {p : Port} {s : State}
    (h : ∀ m, s.motor p = some m → m.settings.lossAction = .noAction) : examineLossAt l p s = s := by
  unfold examineLossAt
  split
  · next m hm =>
    have holds : lossHolds m s = false := by simp only [lossHolds, h m hm, ne_eq, not_true, decide_false, Bool.false_and]
    simp only [examineLoss, hm, holds, Bool.false_and, Bool.false_eq_true, if_false, ite_self]
  · rfl

theorem examineLosses_noAction {l : Link} {s : State} (h : ∀ p m, s.motor p = some m → m.settings.lossAction = .noAction)
    (ps : List Port) : ps.foldl (fun s p => examineLossAt l p s) s = s := by
  induction ps with
  | nil => rfl
  | cons p ps ih => rw [List.foldl_cons, examineLossAt_noAction (h p), ih]

/-- `s` after the withdrawal at a link DOWN (R16). -/
def State.withdrawn (s : State) (l : Link) : State :=
  let t := review l.other ((s.setLink l (s.link l).taken).withPages ((s.link l).outstanding + (s.link l).storedPages))
  t.s3Written t.free

theorem withdrawLink_awaits {l : Link} {s : State} (hu : s.unobserved = []) (hc : s.conserved) :
    Awaits (s.withdrawn l) (withdrawLink l s) := by
  have small : s.free + (s.link l).pageTotal ≤ 128 := hc.free_add_le (Nat.le_refl _)
  have small' : (review l.other ((s.setLink l (s.link l).taken).withPages
      ((s.link l).outstanding + (s.link l).storedPages))).free ≤ 2147483647 :=
    Nat.le_trans (review_free_le ..) (Nat.le_trans small (by omega))
  exact (Awaits.of_nil (s := review l.other ((s.setLink l (s.link l).taken).withPages
      ((s.link l).outstanding + (s.link l).storedPages))) hu).writeFree small'

/-- What a withdrawal leaves of the other link. -/
theorem withdrawLink_waiting (l : Link) (s : State) :
    ((setLatch latchLinkChange (withdrawLink l s)).link l.other).waiting = (s.link l.other).waiting := by
  cases l <;> rfl

theorem releaseWaiting_of_no_pass {l : Link} {s : State} (h : ∀ q out, (s.link l).waiting ≠ some (.pass q out)) :
    releaseWaiting l s = s := by
  unfold releaseWaiting
  split
  · next q out hw => exact absurd hw (h q out)
  · rfl

/-- A link that goes DOWN while no frame of the other one waits for it. -/
theorem linkFalls_of_no_pass {l : Link} {s : State} (hu : (s.link l).up = true)
    (h : ∀ q out, (s.link l.other).waiting ≠ some (.pass q out)) :
    linkFalls l s =
      allPorts.foldl (fun s p => examineLossAt l p s) (setLatch latchLinkChange (withdrawLink l s)) := by
  simp only [linkFalls, hu, if_true]
  rw [releaseWaiting_of_no_pass (by rw [withdrawLink_waiting]; exact h)]

/-- Settles O20. -/
theorem linkChangesMoveThePool : Obligations.LinkChangesMoveThePool := by
  refine ⟨fun l s hq hsound => ?_, fun l s hq hw hm => ?_⟩
  · cases hu : (s.link l).up
    · dsimp only
      rw [if_neg (by simp [hu])]
      exact exec_linkUp hq hsound hu
    · refine (run_of_nil hq.1 (f := linkRises l) (by rw [linkRises_up hu]; exact hq.1.2)).trans (congrArg _ ?_)
      rw [linkRises_up hu, if_pos hu]
  · obtain ⟨hs, hc, hi⟩ := hq
    cases hu : (s.link l).up
    · refine (run_of_nil hs (f := linkFalls l) (by rw [linkFalls_down hu]; exact hs.2)).trans (congrArg _ ?_)
      rw [linkFalls_down hu, if_neg (by simp [hu])]
    · have falls : linkFalls l s = setLatch latchLinkChange (withdrawLink l s) := by
        rw [linkFalls_of_no_pass hu hw, examineLosses_noAction (s := setLatch latchLinkChange (withdrawLink l s)) hm]
      refine (((withdrawLink_awaits hs.2 hc).setLatch _).run_eq falls hs hs.2 hi).trans (congrArg _ ?_)
      rw [if_pos hu]
      rfl

/-! ## A motor whose link is lost -/

theorem examineLoss_motor_other {p q : Port} {s : State} (h : p ≠ q) : (examineLoss p s).motor q = s.motor q := by
  unfold examineLoss
  split
  · split
    · rw [(moveMotor_poolOp ..).motor, State.motor_setMotor_other _ _ h]
    · rfl
  · rfl

theorem examineLossAt_motor_other {l : Link} {p q : Port} {s : State} (h : p ≠ q) :
    (examineLossAt l p s).motor q = s.motor q := by
  unfold examineLossAt
  split
  · split
    · exact examineLoss_motor_other h
    · rfl
  · rfl

theorem examineLosses_motor_other {l : Link} {q : Port} (ps : List Port) {s : State} (h : q ∉ ps) :
    (ps.foldl (fun s p => examineLossAt l p s) s).motor q = s.motor q := by
  induction ps generalizing s with
  | nil => rfl
  | cons p ps ih =>
    simp only [List.mem_cons, not_or] at h
    rw [List.foldl_cons, ih h.2, examineLossAt_motor_other (Ne.symm h.1)]

/-- Every port stands once among the six. -/
theorem allPorts_split (p : Port) : ∃ a b, allPorts = a ++ p :: b ∧ p ∉ a ∧ p ∉ b := by
  cases p
  · exact ⟨[], _, rfl, by decide, by decide⟩
  · exact ⟨[.a], _, rfl, by decide, by decide⟩
  · exact ⟨[.a, .b], _, rfl, by decide, by decide⟩
  · exact ⟨[.a, .b, .c], _, rfl, by decide, by decide⟩
  · exact ⟨[.a, .b, .c, .d], _, rfl, by decide, by decide⟩
  · exact ⟨[.a, .b, .c, .d, .e], _, rfl, by decide, by decide⟩

/-- The motors' examination of a lost link reaches each motor as it stood, with the link DOWN. -/
theorem examineLosses_motor {l : Link} {p : Port} {m : Motor} {s : State} (hm : s.motor p = some m)
    (hw : m.watches l = true) (hl : ∀ t : State, (t.link l).up = false → lossHolds m t = true) (hd : (s.link l).up = false)
    (hk : m.state ≠ .locked) :
    (allPorts.foldl (fun s p => examineLossAt l p s) s).motor p = some (m.halted m.settings.lossAction.output .idle) := by
  obtain ⟨a, b, split, ha, hb⟩ := allPorts_split p
  rw [split, List.foldl_append, List.foldl_cons, examineLosses_motor_other b hb]
  have here : (a.foldl (fun s p => examineLossAt l p s) s).motor p = some m := (examineLosses_motor_other a ha).trans hm
  have down : ((a.foldl (fun s p => examineLossAt l p s) s).link l).up = false :=
    ((Kept.foldl (fun s p => examineLossAt_kept l p s) a s).up l).trans hd
  generalize a.foldl (fun s p => examineLossAt l p s) s = t at here down
  simp only [examineLossAt, examineLoss, here, hw, hl _ down, hk, ne_eq, not_false_eq_true, decide_true, Bool.and_self,
    if_true, moveMotor_motor]

theorem withdrawLink_down (l : Link) (s : State) : ((setLatch latchLinkChange (withdrawLink l s)).link l).up = false := by
  cases l <;> rfl

/-- Settles O21. -/
theorem linkLossStopsTheMotor : Obligations.LinkLossStopsTheMotor := by
  intro l p m s hq hu hw hm hact hwatch hk
  obtain ⟨hs, hc, hi⟩ := hq
  have falls := linkFalls_of_no_pass hu hw
  have writes : WritesS3 s (linkFalls l s) := by
    rw [falls]
    have first : WritesS3 s (withdrawLink l s) :=
      (WritesS3.of_same rfl rfl rfl : WritesS3 s (review l.other (freePages _ (s.setLink l (s.link l).taken)))).trans
        (writeFree_writesS3 _)
    exact (first.trans (setLatch_writesS3 ..)).trans (.foldl (fun s p => examineLossAt_writesS3 l p s) ..)
  refine ⟨_, writes.run hs hi, ?_⟩
  have watches : m.watches l = true := by
    obtain h | ⟨h, rfl⟩ | ⟨h, rfl⟩ := hwatch <;> simp only [Motor.watches, h]
  have holds : ∀ t : State, (t.link l).up = false → lossHolds m t = true := by
    intro t ht
    obtain h | ⟨h, rfl⟩ | ⟨h, rfl⟩ := hwatch
    · cases l <;> simp [lossHolds, hact, h, ht]
    · simp [lossHolds, hact, h, ht]
    · simp [lossHolds, hact, h, ht]
  have output : m.settings.lossAction.output = if m.settings.lossAction = .brake then .brake else .coast := by
    cases m.settings.lossAction <;> rfl
  show (linkFalls l s).motor p = _
  rw [falls, examineLosses_motor (m := m) ?_ watches holds (withdrawLink_down l s) hk, output, Motor.halted_eq]
  exact hm

end Sys2Proof.Machine
end

section
/-!
The resets (O11, O12): the hub that a reset leaves is `freshHub`.
-/
namespace Sys2Proof.Machine

/-- A port record after the detection that a reset starts with a band (R63). -/
def PortRec.detected (r : PortRec) (now : Time) (band : Band) : PortRec :=
  if band = 7 then r
  else { r with state := .detecting, debounce := some { band := band, start := now }, bandWatch := none, recovery := none }

theorem detected_reset (now : Time) (band : Band) : (PortRec.reset now).detected now band = freshPort now band := by
  unfold PortRec.detected freshPort
  split <;> rfl

theorem detectPort_eq (bands : PerPort Band) (s : State) (p : Port) :
    (if bands.get p = 7 then s else enterDetecting p (bands.get p) s) =
      s.setPort p ((s.port p).detected s.hubTime (bands.get p)) := by
  unfold PortRec.detected
  split
  · cases p <;> rfl
  · rfl

/-- The detection that a reset starts, on ports at their reset values. -/
theorem detectPorts_reset (bands : PerPort Band) {s : State} (h : s.ports = everyPort (PortRec.reset s.hubTime)) :
    detectPorts bands s = { s with ports := bands.map (freshPort s.hubTime) } := by
  simp only [detectPorts, detectPort_eq, allPorts, List.foldl_cons, List.foldl_nil]
  have each : ∀ p, s.port p = PortRec.reset s.hubTime := fun p => by rw [State.port, h]; cases p <;> rfl
  simp only [PerPort.map, ← detected_reset, ← each .a]
  simp only [State.setPort, State.port, PerPort.set, PerPort.get, h, everyPort]

theorem resetWavetables_eq :
    ({ q0 := sineTable, q1 := squareTable, q2 := triangleTable, q3 := sawtoothTable } : Quad (Vector Int 64)) =
      freshWavetables := by decide +kernel

theorem resetRoutes_eq :
    everyLink Route.defaults = everyLink (Vector.ofFn fun c : Channel => if c = 0 then Route.management else .pass c) := by
  decide +kernel

/-- A hub out of a reset, with the writes `ws` of its blocks, before its writes are handed over. -/
def outOfReset (now : Time) (radio controller : LinkUnit) (bands : PerPort Band) (waiting : List Instr) (ws : List Write) :
    State :=
  bringUp radio controller (detectPorts bands ((reinitialised now waiting).withWrites ws))

theorem writeFreeIfMoved_writesS3 {s t : State} (h : WritesS3 s t) : WritesS3 s (writeFreeIfMoved s t) := by
  unfold writeFreeIfMoved
  split
  · exact h
  · exact h.trans (writeFree_writesS3 t)

/-- The links come out of a reset with their grants (R18): 32 for each that is UP. -/
theorem outOfReset_eq (now : Time) (up up' cts cts' : Bool) (bands : PerPort Band) (waiting : List Instr) (ws : List Write) :
    outOfReset now (.afterReset up cts) (.afterReset up' cts') bands waiting ws =
      (freshHub now (freshLink up cts) (freshLink up' cts') bands waiting).withWrites
        (outOfReset now (.afterReset up cts) (.afterReset up' cts') bands waiting ws).unobserved := by
  rw [outOfReset, detectPorts_reset bands rfl, freshHub, ← resetWavetables_eq, ← resetRoutes_eq]
  cases up <;> cases up' <;> rfl

/-- The hub out of a reset waits only for its writes of S3. -/
theorem outOfReset_awaits (now : Time) (up up' cts cts' : Bool) (bands : PerPort Band) (waiting : List Instr)
    {ws : List Write} (hw : ∀ w ∈ ws, w.cell = .sys 3) :
    Awaits (freshHub now (freshLink up cts) (freshLink up' cts') bands waiting)
      (outOfReset now (.afterReset up cts) (.afterReset up' cts') bands waiting ws) := by
  refine ⟨_, fun w h => ?_, outOfReset_eq now up up' cts cts' bands waiting ws⟩
  rw [outOfReset, detectPorts_reset bands rfl] at h
  have reviews := writeFreeIfMoved_writesS3 (reviewBoth_writesS3
    { (reinitialised now waiting).withWrites ws with
      ports := bands.map (freshPort now), links := { radio := .afterReset up cts, controller := .afterReset up' cts' } })
  exact (reviews.waits w h).elim (hw w) id

/-- The re-initialisation itself writes S3 alone. -/
theorem reinitialised_writes (now : Time) (waiting : List Instr) :
    ∀ w ∈ (reinitialised now waiting).unobserved, w.cell = .sys 3 := fun w h => by
  cases List.mem_singleton.mp h
  rfl

/-- Nothing watches any cell after a reset but the first of port A. -/
theorem freshHub_ignores (now : Time) (radio controller : LinkUnit) (bands : PerPort Band) (waiting : List Instr) :
    (freshHub now radio controller bands waiting).ignores (.sys 3) := by
  have reflex (i : Fin 16) : (Vector.replicate 16 freshReflex).get i = freshReflex := by simp [Vector.get_eq_getElem]
  have sub (i : Fin 24) : (Vector.replicate 24 freshSubscription).get i = freshSubscription := by
    simp [Vector.get_eq_getElem]
  refine ⟨fun i => ?_, fun i hA => ?_⟩
  · show ((Vector.replicate 16 freshReflex).get i).cell ≠ .sys 3
    rw [reflex]
    decide
  · have hA : ((Vector.replicate 24 freshSubscription).get i).active = true := hA
    rw [sub] at hA
    cases hA

theorem heldInReset_eq (waiting : List Instr) :
    heldInReset waiting = { (reinitialised 0 waiting).withWrites [] with inReset := true } := by
  rw [heldInReset, freshHub, ← resetWavetables_eq, ← resetRoutes_eq]
  rfl

/-- Settles O11. -/
theorem resetsReinitialiseTheHub : Obligations.ResetsReinitialiseTheHub := by
  intro pins s
  intro hub
  have ignores : hub.ignores (.sys 3) := freshHub_ignores ..
  have on : drain (poweredOn pins s) = hub :=
    (outOfReset_awaits 0 pins.prdy.radio pins.prdy.controller false false pins.bands s.pending
      (reinitialised_writes 0 s.pending)).drain rfl ignores
  have held : drain (resetAsserted s) = heldInReset s.pending := by
    have waits : Awaits (heldInReset s.pending) (resetAsserted s) := by
      rw [heldInReset_eq]
      exact ⟨_, reinitialised_writes 0 s.pending, rfl⟩
    exact waits.drain rfl (freshHub_ignores 0 (freshLink false false) (freshLink false false) (everyPort 7) s.pending)
  have released : drain (resetReleased pins (heldInReset s.pending)) = hub := by
    rw [heldInReset_eq]
    exact (outOfReset_awaits 0 pins.prdy.radio pins.prdy.controller false false pins.bands s.pending (ws := [])
      (fun _ h => by cases h)).drain rfl ignores
  exact ⟨congrArg Host.Outcome.next on, congrArg Host.Outcome.next held, congrArg Host.Outcome.next released⟩

/-- Settles O12. -/
theorem hubResetReinitialises : Obligations.HubResetReinitialises := by
  refine ⟨fun o s hs ht hu => ?_, fun bands o s hs ht hr hc => ?_⟩
  · have taken : directRequest o .hubReset 7 0 s = { s with mgmt := { s.mgmt with resetTaken := some o } } := by
      simp only [directRequest, consider, ht, hu, Option.isSome_none, Bool.false_eq_true, if_false, Bool.not_true, if_true]
    exact (run_of_nil hs (by rw [taken]; exact hs.2)).trans (congrArg _ taken)
  · intro hub
    have out : Awaits hub _ := outOfReset_awaits s.hubTime (s.link .radio).up (s.link .controller).up (s.link .radio).cts
      (s.link .controller).cts bands s.pending (reinitialised_writes s.hubTime s.pending)
    have reinit : hubReinitialised bands s = resetReply o (outOfReset s.hubTime
        (.afterReset (s.link .radio).up (s.link .radio).cts) (.afterReset (s.link .controller).up (s.link .controller).cts)
        bands s.pending (reinitialised s.hubTime s.pending).unobserved) := by
      simp only [hubReinitialised, ht, linesIdle, hr, hc, Option.isNone_none, Bool.and_self, if_true]
      rfl
    generalize outOfReset _ _ _ _ _ _ = u at out reinit
    have up : (u.link o.link).up = (s.link o.link).up := by
      obtain ⟨ws, -, rfl⟩ := out
      cases o.link <;> rfl
    have ignores : hub.ignores (.sys 3) := freshHub_ignores ..
    have small : hub.free ≤ 128 := Nat.le_trans (Nat.sub_le ..) (Nat.sub_le ..)
    cases h : (s.link o.link).up
    · rw [h] at up
      have reply : resetReply o u = u := by simp only [resetReply, up, Bool.false_eq_true, if_false]
      exact out.run_eq (f := hubReinitialised bands) (reinit.trans reply) hs rfl ignores
    · rw [h] at up
      have reply : resetReply o u =
          writeFree (pushUrgent o.link (replyTo o [12, 0]) { u with free := u.free - 1 }) := by
        simp only [resetReply, up, if_true]
        rfl
      have placed : Awaits ((hub.withFree (hub.free - 1)).withUrgent o.link (replyTo o [12, 0]))
          (writeFree (pushUrgent o.link (replyTo o [12, 0]) { u with free := u.free - 1 })) :=
        (out.map (f := fun t => pushUrgent o.link (replyTo o [12, 0]) { t with free := t.free - 1 })
          (fun _ => rfl)).writeFree (Nat.le_trans (Nat.sub_le ..) (by omega))
      exact placed.run_eq (f := hubReinitialised bands) (reinit.trans reply) hs rfl ignores

end Sys2Proof.Machine
end

section
/-!
The link frame on the wire (O19): the CRC bit by bit, and the header read back.
-/
namespace Sys2Proof.Machine

/-! ## The CRC (R21) -/

/-- One bit of a byte enters the CRC register. -/
def crcBit (b : Byte) (crc : BitVec 16) (i : Nat) : BitVec 16 :=
  (crc <<< 1) ^^^ (if crc.msb = b.getMsbD i then 0 else 0x1021)

/-- The register moves up by one beside the bits that are still to enter. -/
theorem crcShift_xor (c d : BitVec 16) :
    crcShift (c ^^^ d) = ((c <<< 1) ^^^ (if c.msb = d.msb then 0#16 else 0x1021#16)) ^^^ (d <<< 1) := by
  have msb : (c ^^^ d).msb = (c.msb ^^ d.msb) := BitVec.msb_xor ..
  rw [crcShift, msb, BitVec.shiftLeft_xor_distrib]
  have swap : (c <<< 1 ^^^ 0x1021#16) ^^^ d <<< 1 = (c <<< 1 ^^^ d <<< 1) ^^^ 0x1021#16 := by
    rw [BitVec.xor_assoc, BitVec.xor_comm 0x1021#16, ← BitVec.xor_assoc]
  cases c.msb <;> cases d.msb <;> simp [swap]

/-- The bit of a byte that stands highest after `i` moves. -/
theorem msb_byte_shifted (b : Byte) {i : Nat} (h : i < 8) : ((b.zeroExtend 16 <<< 8) <<< i).msb = b.getMsbD i := by
  simp only [BitVec.msb_eq_getLsbD_last, BitVec.getLsbD_shiftLeft, BitVec.getLsbD_setWidth, BitVec.getMsbD_eq_getLsbD]
  have e : 16 - 1 - i - 8 = 8 - 1 - i := by omega
  simp [e, h, show ¬ 15 < i by omega, show ¬ 15 - i < 8 by omega, show 15 - i < 16 by omega, show 7 - i < 16 by omega]

/-- The byte that is put into the register at once enters it bit by bit (R21). -/
theorem crcByte_eq (r : BitVec 16) (b : Byte) : crcByte r b = (List.range 8).foldl (crcBit b) r := by
  have upTo : ∀ n, n ≤ 8 → Nat.repeat crcShift n (r ^^^ (b.zeroExtend 16 <<< 8)) =
      (List.range n).foldl (crcBit b) r ^^^ ((b.zeroExtend 16 <<< 8) <<< n) := by
    intro n
    induction n with
    | zero => intro _; simp [Nat.repeat]
    | succ n ih =>
      intro h
      rw [Nat.repeat, ih (by omega), crcShift_xor, msb_byte_shifted b h, List.range_succ, List.foldl_append]
      rw [← BitVec.shiftLeft_add _ n 1]
      rfl
  have out : (b.zeroExtend 16 <<< 8) <<< 8 = 0#16 := by
    refine BitVec.eq_of_getLsbD_eq fun i hi => ?_
    simp only [BitVec.getLsbD_shiftLeft, BitVec.getLsbD_zero]
    by_cases h : i < 8 <;> simp [h]
    omega
  rw [crcByte, upTo 8 (Nat.le_refl 8), out, BitVec.xor_zero]

/-! ## Bytes and words -/

/-- A word of two bytes is read back from its bytes, low byte first. -/
theorem u8_append_u8 (n : Nat) : u8 (n / 256) ++ u8 n = BitVec.ofNat 16 n := by
  refine BitVec.eq_of_getLsbD_eq fun i hi => ?_
  simp only [u8, BitVec.getLsbD_append, BitVec.getLsbD_ofNat]
  by_cases h : i < 8
  · simp [h, hi]
  · have shifted : (n / 256).testBit (i - 8) = n.testBit i := by
      rw [show 256 = 2 ^ 8 from rfl, Nat.testBit_div_two_pow]
      congr 1; omega
    simp [h, hi, shifted, show i - 8 < 8 by omega]

theorem FrameKind.code_lt (k : FrameKind) : k.code < 16 := by
  cases k with
  | unassigned n => have := n.isLt; simp only [FrameKind.code]; omega
  | _ => decide

theorem FrameKind.ofCode_code (k : FrameKind) : FrameKind.ofCode ⟨k.code, k.code_lt⟩ = k := by
  cases k with
  | unassigned n => revert n; decide
  | _ => rfl

/-- The number of a channel and a kind in the first header byte. -/
theorem toNat_u8_kindChannel (c : Channel) (k : FrameKind) : (u8 (c.val + 16 * k.code)).toNat = c.val + 16 * k.code := by
  have := c.isLt
  have := k.code_lt
  rw [u8, BitVec.toNat_ofNat, Nat.mod_eq_of_lt (by omega)]

/-- The header of a frame is read back from its four bytes (R196). -/
theorem headerOf_bytes (c : Channel) (k : FrameKind) (flags tag : Byte) {n : Nat} (h : n < 256) :
    headerOf (u8 (c.val + 16 * k.code)) flags (u8 n) tag =
      { channel := c, kind := k, flags := flags, length := n, tag := tag } := by
  have hc := c.isLt
  have number := toNat_u8_kindChannel c k
  have kind : k.code = (c.val + 16 * k.code) / 16 := by omega
  have channel : c.val = (c.val + 16 * k.code) % 16 := by omega
  have length : (u8 n).toNat = n := by rw [u8, BitVec.toNat_ofNat, Nat.mod_eq_of_lt h]
  simp only [headerOf, number, length, ← channel, ← kind, FrameKind.ofCode_code]

/-- Settles O19. -/
theorem sentFrameIsReadBack : Obligations.SentFrameIsReadBack := by
  refine ⟨fun f hf => ?_, rfl, fun bs b => ?_, rfl, rfl, rfl, rfl, rfl, rfl, rfl, rfl, fun _ => rfl⟩
  · intro b1 length
    have header : headerOf b1 f.flags length f.tag =
        { channel := f.channel, kind := f.kind, flags := f.flags, length := f.payload.length, tag := f.tag } :=
      headerOf_bytes f.channel f.kind f.flags f.tag (by omega)
    refine ⟨_, _, rfl, ?_, ?_, ?_, ?_⟩
    · rw [u8_append_u8, BitVec.ofNat_toNat, BitVec.setWidth_eq]
      rfl
    · rw [header]; rfl
    · rw [header]
    · rw [header]; rfl
  · rw [linkCrc, List.foldl_append]
    exact crcByte_eq _ b

end Sys2Proof.Machine
end

section
/-!
Reading bytes back (R197, R198): numbers of two and four bytes, segments and notes, motor and sound commands.
-/
namespace Sys2Proof.Machine

/-! ## Numbers -/

@[simp] theorem byteAt_zero (b : Byte) (bs : List Byte) : byteAt (b :: bs) 0 = b := rfl
@[simp] theorem byteAt_succ (b : Byte) (bs : List Byte) (i : Nat) : byteAt (b :: bs) (i + 1) = byteAt bs i := rfl
@[simp] theorem num8_zero (b : Byte) (bs : List Byte) : num8 (b :: bs) 0 = b.toNat := rfl
@[simp] theorem num8_succ (b : Byte) (bs : List Byte) (i : Nat) : num8 (b :: bs) (i + 1) = num8 bs i := rfl
@[simp] theorem word16_succ (b : Byte) (bs : List Byte) (i : Nat) : word16 (b :: bs) (i + 1) = word16 bs i := rfl
@[simp] theorem word32_succ (b : Byte) (bs : List Byte) (i : Nat) : word32 (b :: bs) (i + 1) = word32 bs i := rfl
@[simp] theorem num16_succ (b : Byte) (bs : List Byte) (i : Nat) : num16 (b :: bs) (i + 1) = num16 bs i := rfl
@[simp] theorem int32_succ (b : Byte) (bs : List Byte) (i : Nat) : int32 (b :: bs) (i + 1) = int32 bs i := rfl

@[simp] theorem toNat_u8 (n : Nat) : (u8 n).toNat = n % 256 := by simp [u8]

/-- A field of two bytes is read back. -/
@[simp] theorem word16_le16 (n : Nat) (bs : List Byte) : word16 (le16 n ++ bs) 0 = BitVec.ofNat 16 n := by
  refine BitVec.eq_of_toNat_eq ?_
  have lo : num8 (le16 n ++ bs) 0 = n % 256 := toNat_u8 n
  have hi : num8 (le16 n ++ bs) 1 = n / 256 % 256 := toNat_u8 (n / 256)
  simp only [word16, lo, hi, BitVec.toNat_ofNat]
  omega

@[simp] theorem num16_le16 {n : Nat} (h : n < 65536) (bs : List Byte) : num16 (le16 n ++ bs) 0 = n := by
  rw [num16, word16_le16, BitVec.toNat_ofNat, Nat.mod_eq_of_lt h]

/-- A field of four bytes is read back. -/
@[simp] theorem word32_le32 (w : BitVec 32) (bs : List Byte) : word32 (le32 w ++ bs) 0 = w := by
  refine BitVec.eq_of_toNat_eq ?_
  have b0 : num8 (le32 w ++ bs) 0 = w.toNat % 256 := toNat_u8 _
  have b1 : num8 (le32 w ++ bs) 1 = w.toNat / 256 % 256 := toNat_u8 _
  have b2 : num8 (le32 w ++ bs) 2 = w.toNat / 65536 % 256 := toNat_u8 _
  have b3 : num8 (le32 w ++ bs) 3 = w.toNat / 16777216 % 256 := toNat_u8 _
  have := w.isLt
  simp only [word32, b0, b1, b2, b3, BitVec.toNat_ofNat]
  omega

/-- A signed field of four bytes is read back. -/
@[simp] theorem int32_leInt {n : Int} (lo : -2147483648 ≤ n) (hi : n ≤ 2147483647) (bs : List Byte) :
    int32 (leInt n ++ bs) 0 = n := by
  rw [int32, leInt, word32_le32, BitVec.toInt_ofInt]
  exact Int.bmod_eq_of_le (by omega) (by omega)

/-- Past a field of two bytes. -/
theorem le16_cons (n : Nat) (bs : List Byte) : le16 n ++ bs = u8 n :: u8 (n / 256) :: bs := rfl

/-- Past a field of four bytes. -/
theorem le32_cons (w : BitVec 32) (bs : List Byte) : le32 w ++ bs =
    u8 w.toNat :: u8 (w.toNat / 256) :: u8 (w.toNat / 65536) :: u8 (w.toNat / 16777216) :: bs := rfl

@[simp] theorem length_le16 (n : Nat) : (le16 n).length = 2 := rfl
@[simp] theorem length_le32 (w : BitVec 32) : (le32 w).length = 4 := rfl
@[simp] theorem length_leInt (n : Int) : (leInt n).length = 4 := rfl

/-- Reading past the bytes in front. -/
theorem byteAt_append (as bs : List Byte) (i : Nat) : byteAt (as ++ bs) (as.length + i) = byteAt bs i := by
  simp [byteAt, List.getElem?_append_right]

theorem num8_append (as bs : List Byte) (i : Nat) : num8 (as ++ bs) (as.length + i) = num8 bs i := by
  simp only [num8, byteAt_append]

theorem word16_append (as bs : List Byte) (i : Nat) : word16 (as ++ bs) (as.length + i) = word16 bs i := by
  simp only [word16, Nat.add_assoc, num8_append]

theorem word32_append (as bs : List Byte) (i : Nat) : word32 (as ++ bs) (as.length + i) = word32 bs i := by
  simp only [word32, Nat.add_assoc, num8_append]

@[simp] theorem byteAt_le16 (n i : Nat) (bs : List Byte) : byteAt (le16 n ++ bs) (i + 2) = byteAt bs i := rfl
@[simp] theorem byteAt_le32 (w : BitVec 32) (i : Nat) (bs : List Byte) : byteAt (le32 w ++ bs) (i + 4) = byteAt bs i := rfl
@[simp] theorem word16_past16 (n i : Nat) (bs : List Byte) : word16 (le16 n ++ bs) (i + 2) = word16 bs i := rfl
@[simp] theorem word16_past32 (w : BitVec 32) (i : Nat) (bs : List Byte) : word16 (le32 w ++ bs) (i + 4) = word16 bs i := rfl
@[simp] theorem word32_past32 (w : BitVec 32) (i : Nat) (bs : List Byte) : word32 (le32 w ++ bs) (i + 4) = word32 bs i := rfl

/-! ## Segments and notes -/

theorem rawSegmentAt_succ (b : Byte) (bs : List Byte) (i : Nat) : rawSegmentAt (b :: bs) (i + 1) = rawSegmentAt bs i := rfl

theorem rawNoteAt_succ (b : Byte) (bs : List Byte) (i : Nat) : rawNoteAt (b :: bs) (i + 1) = rawNoteAt bs i := rfl

/-- A segment record is read back from its bytes (R198). -/
theorem rawSegmentAt_segmentBytes (r : RawSegment) (bs : List Byte) : rawSegmentAt (segmentBytes r ++ bs) 0 = r := by
  have speed : word32 (segmentBytes r ++ bs) 2 = r.speed := by
    simp only [segmentBytes, List.append_assoc]
    exact word32_le32 r.speed []
  have position : word32 (segmentBytes r ++ bs) 6 = r.position := by
    simp only [segmentBytes, List.append_assoc]
    exact word32_le32 r.position []
  have word (n : BitVec 16) (as : List Byte) : word16 (le16 n.toNat ++ as) 0 = n := by
    rw [word16_le16, BitVec.ofNat_toNat, BitVec.setWidth_eq]
  have duty : word16 (segmentBytes r ++ bs) 10 = r.duty := by
    simp only [segmentBytes, List.append_assoc]
    exact word r.duty []
  have accel : word16 (segmentBytes r ++ bs) 12 = r.accel := by
    simp only [segmentBytes, List.append_assoc]
    exact word r.accel []
  have duration : word16 (segmentBytes r ++ bs) 14 = r.duration := by
    simp only [segmentBytes, List.append_assoc]
    exact word r.duration []
  simp only [rawSegmentAt, Nat.zero_add, speed, position, duty, accel, duration]
  rfl

/-- A note record is read back from its bytes (R198). -/
theorem rawNoteAt_noteBytes (r : RawNote) (bs : List Byte) : rawNoteAt (noteBytes r ++ bs) 0 = r := by
  have word (n : BitVec 16) (as : List Byte) : word16 (le16 n.toNat ++ as) 0 = n := by
    rw [word16_le16, BitVec.ofNat_toNat, BitVec.setWidth_eq]
  have frequency : word16 (noteBytes r ++ bs) 3 = r.frequency := by
    simp only [noteBytes, List.append_assoc]
    exact word r.frequency []
  have gain : word16 (noteBytes r ++ bs) 5 = r.gain := by
    simp only [noteBytes, List.append_assoc]
    exact word r.gain []
  have duration : word16 (noteBytes r ++ bs) 7 = r.duration := by
    simp only [noteBytes, List.append_assoc]
    exact word r.duration []
  simp only [rawNoteAt, Nat.zero_add, frequency, gain, duration]
  rfl

/-! ## Motor and sound commands -/

theorem motorCommandOf_append (r : RawSegment) : motorCommandOf (1 :: segmentBytes r) = some (.append r) := by
  have segment : rawSegmentAt (1 :: segmentBytes r) 1 = r := by
    rw [rawSegmentAt_succ, ← List.append_nil (segmentBytes r), rawSegmentAt_segmentBytes]
  exact congrArg (some ∘ MotorCommand.append) segment

theorem motorCommandOf_replace (r : RawSegment) : motorCommandOf (2 :: segmentBytes r) = some (.replace r) := by
  have segment : rawSegmentAt (2 :: segmentBytes r) 1 = r := by
    rw [rawSegmentAt_succ, ← List.append_nil (segmentBytes r), rawSegmentAt_segmentBytes]
  exact congrArg (some ∘ MotorCommand.replace) segment

theorem soundCommandOf_queue (r : RawNote) : soundCommandOf (1 :: noteBytes r) = some (.queue r) := by
  have note : rawNoteAt (1 :: noteBytes r) 1 = r := by
    rw [rawNoteAt_succ, ← List.append_nil (noteBytes r), rawNoteAt_noteBytes]
  exact congrArg (some ∘ SoundCommand.queue) note

theorem soundCommandOf_play (r : RawNote) : soundCommandOf (2 :: noteBytes r) = some (.play r) := by
  have note : rawNoteAt (2 :: noteBytes r) 1 = r := by
    rw [rawNoteAt_succ, ← List.append_nil (noteBytes r), rawNoteAt_noteBytes]
  exact congrArg (some ∘ SoundCommand.play) note

theorem soundCommandOf_setGain (g : BitVec 16) : soundCommandOf (5 :: le16 g.toNat) = some (.setGain g) := by
  have gain : word16 (5 :: le16 g.toNat) 1 = g := by
    rw [word16_succ, ← List.append_nil (le16 g.toNat), word16_le16, BitVec.ofNat_toNat, BitVec.setWidth_eq]
  exact congrArg (some ∘ SoundCommand.setGain) gain

end Sys2Proof.Machine
end

section
/-!
The hold lists (O15, O16): the rules of classification, and the frames that arrive or wait.
-/
namespace Sys2Proof.Machine

/-! ## The head of a hold list -/

theorem popHold_eq {l : Link} {f : Frame} {rest : List Frame} {s : State} (h : (s.link l).hold = f :: rest) :
    popHold l s = s.headLeft l rest := by
  simp only [popHold, h, List.tail_cons]
  rfl

/-- A head that waits where it waits already. -/
theorem headWaits_of_waiting {l : Link} {w : Waiting} {s : State} (h : (s.link l).waiting = some w) : headWaits l w s = s := by
  simp only [headWaits, ← h]
  cases l <;> rfl

/-- The pages of the head and free are at most 128. -/
theorem State.conserved.free_add_head_le {s : State} {l : Link} {f : Frame} {rest : List Frame} (hc : s.conserved)
    (h : (s.link l).hold = f :: rest) : s.free + f.pages ≤ 128 := by
  refine hc.free_add_le (l := l) ?_
  simp only [LinkUnit.pageTotal, LinkUnit.storedPages, h, pagesOfAll_cons]
  omega

/-- A head leaves its hold list and its pages are released. -/
theorem dropHead_awaits {l : Link} {f : Frame} {rest : List Frame} {t u : State} (aw : Awaits t u)
    (h : (t.link l).hold = f :: rest) (hc : t.conserved) :
    Awaits ((t.headLeft l rest).afterRelease f.pages) (dropHead l f u) := by
  have small := hc.free_add_head_le h
  have popped : Awaits (popHold l t) (popHold l u) := aw.map fun _ => rfl
  rw [popHold_eq h] at popped
  exact popped.release (Nat.ne_of_gt (pagesOf_pos _)) (Nat.le_trans small (by omega))

/-- No head is behind the last one. -/
theorem classifyRest_of_nil {l : Link} {s : State} (h : (s.link l).hold = []) : classifyRest l s = s := by
  rw [classifyRest, h]
  rfl

/-- One frame alone on a hold list is classified. -/
theorem classifyRest_of_single {l : Link} {f : Frame} {s : State} (h : (s.link l).hold = [f]) :
    classifyRest l s = (classify l f s).2 := by
  have one : classifyRest l s = if (classify l f s).1 then (classify l f s).2 else (classify l f s).2 := by
    rw [classifyRest, h]
    simp only [List.length_cons, List.length_nil, Nat.zero_add, classifyHeads, h]
  rw [one, ite_self]

/-! ## Destinations (R28 to R32) -/

theorem classify_unscreened {l : Link} {f : Frame} (h : f.kind.screened = false) (s : State) :
    classify l f s = (true, badKind l f s) := by simp only [classify, h, Bool.false_eq_true, if_false]

theorem classify_screened {l : Link} {f : Frame} (h : f.kind.screened = true) (s : State) :
    classify l f s = handTo l (s.route l f.channel) f s := by simp only [classify, h, if_true]

theorem FrameKind.screened_eq_false {k : FrameKind} : k.screened = false ↔ k = .credit ∨ ∃ n, k = .unassigned n := by
  cases k <;> simp [FrameKind.screened]

theorem FrameKind.screened_eq_true {k : FrameKind} : k.screened = true ↔ k ≠ .credit ∧ ∀ n, k ≠ .unassigned n := by
  cases k <;> simp [FrameKind.screened]

theorem handManagement_room {l : Link} {f : Frame} {rest : List Frame} {s : State} (h : (s.link l).hold = f :: rest)
    (hr : s.mgmt.queue.length < 4) : handManagement l f s = (true, { s.headLeft l rest with
      mgmt := { s.mgmt with
        queue := s.mgmt.queue ++ [{ link := l, frame := f }]
        headWaits := if s.mgmt.queue = [] then false else s.mgmt.headWaits } }) := by
  have waits : (s.mgmt.headWaits && !s.mgmt.queue.isEmpty) = if s.mgmt.queue = [] then false else s.mgmt.headWaits := by
    cases s.mgmt.queue <;> simp
  rw [handManagement, if_pos hr, popHold_eq h, ← waits]
  rfl

theorem handManagement_full {l : Link} {f : Frame} {s : State} (h : 4 ≤ s.mgmt.queue.length) :
    handManagement l f s = (false, headWaits l .management s) := by rw [handManagement, if_neg (by omega)]

theorem handPass_down {l : Link} {q : TxQueue} {out : Channel} {f : Frame} {s : State} (h : (s.link l.other).up = false) :
    handPass l q out f s = (true, dropHead l f (s.downLinkDrop l.other)) := by
  simp only [handPass, h, Bool.not_false, if_true]
  rfl

theorem handPass_room {l : Link} {q : TxQueue} {out : Channel} {f : Frame} {rest : List Frame} {s : State}
    (hh : (s.link l).hold = f :: rest) (h : (s.link l.other).up = true) (hr : ((s.link l.other).queue q).length < q.capacity) :
    handPass l q out f s = (true, pushQueue l.other q { f with channel := out } (s.headLeft l rest)) := by
  simp only [handPass, h, Bool.not_true, Bool.false_eq_true, if_false, hr, if_true, popHold_eq hh]

theorem handPass_full {l : Link} {q : TxQueue} {out : Channel} {f : Frame} {s : State} (h : (s.link l.other).up = true)
    (hr : q.capacity ≤ ((s.link l.other).queue q).length) :
    handPass l q out f s = (false, headWaits l (.pass q out) s) := by
  simp only [handPass, h, Bool.not_true, Bool.false_eq_true, if_false, if_neg (Nat.not_lt.mpr hr)]

/-! ## Waiting heads -/

theorem handOverWaiting_left {l : Link} {w : Waiting} {f : Frame} {rest : List Frame} {s t : State}
    (hw : (s.link l).waiting = some w) (h : (s.link l).hold = f :: rest) (ht : handWaiting l w f s = (true, t)) :
    handOverWaiting l s = classifyRest l t := by simp only [handOverWaiting, hw, h, ht, if_true]

theorem handOverWaiting_stays {l : Link} {w : Waiting} {f : Frame} {rest : List Frame} {s t : State}
    (hw : (s.link l).waiting = some w) (h : (s.link l).hold = f :: rest) (ht : handWaiting l w f s = (false, t)) :
    handOverWaiting l s = t := by simp only [handOverWaiting, hw, h, ht, Bool.false_eq_true, if_false]

/-! ## Releases -/

theorem State.afterRelease_unobserved (s : State) (n : Nat) : (s.afterRelease n).unobserved = s.unobserved := rfl

theorem State.ignores.afterRelease {s : State} {c : CellId} (h : s.ignores c) (n : Nat) : (s.afterRelease n).ignores c := h

theorem State.afterRelease_motor (s : State) (n : Nat) (p : Port) : (s.afterRelease n).motor p = s.motor p := rfl

/-- A command that ends in a release. -/
theorem Awaits.run_released {s t u : State} {n : Nat} {f : State → State} (h : Awaits (t.afterRelease n) u) (hf : f s = u)
    (hs : s.settled) (hu : t.unobserved = []) (hi : t.ignores (.sys 3)) : Machine.run f s = .next (t.afterRelease n) :=
  h.run_eq hf hs hu (hi.afterRelease n)

/-- A command that leaves the hub as it is. -/
theorem run_of_same {f : State → State} {s : State} (hs : s.settled) (h : f s = s) : run f s = .next s := by
  rw [run_of_settled hs, h, drain_of_nil hs.2]

/-- A command whose outcome is known, and which makes no write. -/
theorem run_eq_of_nil {f : State → State} {s t : State} (hs : s.settled) (h : f s = t) (ht : t.unobserved = []) :
    run f s = .next t := by rw [run_of_settled hs, h, drain_of_nil ht]

/-- A request that waited joins the management queue, with the frames `rest` behind it on the hold list. -/
def State.requestLeft (s : State) (l : Link) (f : Frame) (rest : List Frame) : State :=
  { s.headLeft l rest with
    mgmt := { s.mgmt with
      queue := s.mgmt.queue ++ [{ link := l, frame := f }]
      headWaits := if s.mgmt.queue = [] then false else s.mgmt.headWaits } }

theorem State.requestLeft_hold (s : State) (l : Link) (f : Frame) (rest : List Frame) :
    ((s.requestLeft l f rest).link l).hold = rest := by cases l <;> rfl

/-- A request joins the management queue with its pages. -/
theorem State.requestLeft_conserved {s : State} {l : Link} {f : Frame} {rest : List Frame} (h : (s.link l).hold = f :: rest)
    (hr : s.mgmt.queue.length < 4) (hc : s.conserved) : (s.requestLeft l f rest).conserved := by
  have good := handManagement_good h
  rw [handManagement_room h hr] at good
  exact good.conserved hc

/-- A waiting request is handed over (R32): what follows is the classification of the frames behind it. -/
theorem handOver_management {l : Link} {f : Frame} {rest : List Frame} {s : State} (hw : (s.link l).waiting = some .management)
    (h : (s.link l).hold = f :: rest) (hr : s.mgmt.queue.length < 4) :
    handOverWaiting l s = classifyRest l (s.requestLeft l f rest) :=
  handOverWaiting_left hw h (handManagement_room h hr)

/-- The frame behind a request that leaves is dropped with a counter. -/
theorem exec_handover_drops {l : Link} {f g : Frame} {s : State} {c : LinkCounters → LinkCounters} (hq : s.quiet)
    (hw : (s.link l).waiting = some .management) (h : (s.link l).hold = [f, g]) (hr : s.mgmt.queue.length < 4)
    (hd : classify l g (s.requestLeft l f [g]) = (true, dropHead l g (modCounters l c (s.requestLeft l f [g])))) :
    exec (.waitingHeadHandover l) s = .next (((s.requestLeft l f [g]).setLink l
      { (s.headLeft l [g]).link l with hold := [], counters := c (s.link l).counters }).afterRelease g.pages) := by
  obtain ⟨hs, hc, hi⟩ := hq
  have drops : handOverWaiting l s = dropHead l g (modCounters l c (s.requestLeft l f [g])) := by
    rw [handOver_management hw h hr, classifyRest_of_single (State.requestLeft_hold ..), hd]
  have conserved : (modCounters l c (s.requestLeft l f [g])).conserved :=
    (modCounters_kept l c _).good.conserved (State.requestLeft_conserved h hr hc)
  have hold : ((modCounters l c (s.requestLeft l f [g])).link l).hold = [g] := by cases l <;> rfl
  have aw := dropHead_awaits (Awaits.of_nil (s := modCounters l c (s.requestLeft l f [g])) hs.2) hold conserved
  have left : (modCounters l c (s.requestLeft l f [g])).headLeft l [] = (s.requestLeft l f [g]).setLink l
      { (s.headLeft l [g]).link l with hold := [], counters := c (s.link l).counters } := by cases l <;> rfl
  rw [left] at aw
  exact aw.run_released drops hs hs.2 hi

/-- A PASS head that waits for a link which is DOWN is released and counted (R32, R38). -/
theorem releasePass_awaits {l : Link} {q : TxQueue} {out : Channel} {f : Frame} {t u : State} (aw : Awaits t u)
    (hw : (t.link l).waiting = some (.pass q out)) (h : (t.link l).hold = [f]) (hd : (t.link l.other).up = false)
    (hc : t.conserved) : Awaits (((t.headLeft l []).downLinkDrop l.other).afterRelease f.pages) (handOverWaiting l u) := by
  have same : (t.downLinkDrop l.other).headLeft l [] = (t.headLeft l []).downLinkDrop l.other := by cases l <;> rfl
  have hold : ((t.downLinkDrop l.other).link l).hold = [f] := by cases l <;> exact h
  have conserved : (t.downLinkDrop l.other).conserved :=
    (modCounters_kept l.other (fun c => { c with downLinkDrops := bump c.downLinkDrops }) t).good.conserved hc
  have dropped : Awaits (t.downLinkDrop l.other) (u.downLinkDrop l.other) :=
    aw.map (f := (State.downLinkDrop · l.other)) fun _ => rfl
  have drops : handOverWaiting l u = dropHead l f (u.downLinkDrop l.other) := by
    obtain ⟨ws, -, rfl⟩ := aw
    rw [handOverWaiting_left (s := t.withWrites ws) hw h (handPass_down hd), classifyRest_of_nil]
    have kept : ∀ (n : Nat) (v : State), (v.link l).hold = [] → ((release n v).link l).hold = [] := fun n v hv => by
      rw [((release_frames n v).link l).hold, hv]
    refine kept _ _ ?_
    have popped : ((t.withWrites ws).downLinkDrop l.other).link l = (t.downLinkDrop l.other).link l := rfl
    rw [popHold, State.link_setLink_same, popped, hold]
    rfl
  rw [drops, ← same]
  exact dropHead_awaits dropped hold conserved

/-- `s` after the withdrawal at a link DOWN, with LINK_CHANGE set. -/
def State.fallen (s : State) (l : Link) : State := (s.withdrawn l).latched 8

theorem State.fallen_other (s : State) (l : Link) : ((s.fallen l).link l.other).waiting = (s.link l.other).waiting ∧
    ((s.fallen l).link l.other).hold = (s.link l.other).hold ∧ ((s.fallen l).link l).up = false := by
  cases l <;> exact ⟨rfl, rfl, rfl⟩

theorem State.fallen_motor (s : State) (l : Link) (p : Port) : (s.fallen l).motor p = s.motor p := rfl

theorem State.fallen_unobserved (s : State) (l : Link) : (s.fallen l).unobserved = s.unobserved := rfl

theorem State.ignores.fallen {s : State} {c : CellId} (h : s.ignores c) (l : Link) : (s.fallen l).ignores c := h

theorem fallen_awaits {l : Link} {s : State} (hu : s.unobserved = []) (hc : s.conserved) :
    Awaits (s.fallen l) (setLatch latchLinkChange (withdrawLink l s)) := (withdrawLink_awaits hu hc).setLatch _

theorem State.fallen_conserved {s : State} (l : Link) (hu : s.unobserved = []) (hc : s.conserved) : (s.fallen l).conserved := by
  have kept := ((withdrawLink_good l s).trans (setLatch_poolOp latchLinkChange _).kept.good).conserved hc
  obtain ⟨ws, -, e⟩ := fallen_awaits (l := l) hu hc
  rw [e] at kept
  exact kept

/-- A link goes DOWN for which the only frame of the other one waits: it is released, and counted as a drop of the link
(R32, R38). -/
theorem exec_linkDown_pass {l : Link} {q : TxQueue} {out : Channel} {f : Frame} {s : State} (hq : s.quiet)
    (hu : (s.link l).up = true) (hw : (s.link l.other).waiting = some (.pass q out)) (h : (s.link l.other).hold = [f])
    (hm : ∀ p m, s.motor p = some m → m.settings.lossAction = .noAction) :
    exec (.linkDown l) s =
      .next ((((s.fallen l).headLeft l.other []).downLinkDrop l.other.other).afterRelease f.pages) := by
  obtain ⟨hs, hc, hi⟩ := hq
  obtain ⟨waiting, hold, down⟩ := s.fallen_other l
  have fell := fallen_awaits (l := l) hs.2 hc
  have conserved := s.fallen_conserved l hs.2 hc
  have swap : l.other.other = l := by cases l <;> rfl
  have motors (p : Port) : (s.fallen l).motor p = s.motor p := s.fallen_motor l p
  have unobserved : (s.fallen l).unobserved = [] := hs.2
  have ignores : (s.fallen l).ignores (.sys 3) := hi.fallen l
  have first : linkFalls l s = allPorts.foldl (fun s p => examineLossAt l p s)
      (releaseWaiting l.other (setLatch latchLinkChange (withdrawLink l s))) := by simp only [linkFalls, hu, if_true]
  generalize s.fallen l = t at *
  generalize setLatch latchLinkChange (withdrawLink l s) = u at *
  have aw := releasePass_awaits fell (waiting.trans hw) (hold.trans h) (by rw [swap]; exact down) conserved
  have waits : (u.link l.other).waiting = some (.pass q out) := by
    obtain ⟨ws, -, rfl⟩ := fell
    exact waiting.trans hw
  have released : releaseWaiting l.other u = handOverWaiting l.other u := by simp only [releaseWaiting, waits]
  rw [released] at first
  have still (p : Port) (m : Motor) (hp : (handOverWaiting l.other u).motor p = some m) :
      m.settings.lossAction = .noAction := by
    obtain ⟨ws, -, e⟩ := aw
    rw [e] at hp
    exact hm p m ((motors p).symm.trans hp)
  rw [examineLosses_noAction still] at first
  exact aw.run_released (f := linkFalls l) first hs unobserved ignores

/-- Settles O16. -/
theorem waitingHeadIsHandedOver : Obligations.WaitingHeadIsHandedOver := by
  intro l f rest s hs h other left queued handover
  have pass {q : TxQueue} {out : Channel} (hw : (s.link l).waiting = some (.pass q out)) (hu : other.up = true) :
      (q.capacity ≤ (other.queue q).length → handover = .next s) ∧
      ((other.queue q).length < q.capacity → rest = [] →
        handover = .next (pushQueue l.other q { f with channel := out } left)) := by
    refine ⟨fun hr => ?_, fun hr e => ?_⟩
    · refine run_of_same hs ?_
      rw [handOverWaiting_stays hw h (handPass_full hu hr), headWaits_of_waiting hw]
    · subst e
      have none : ((pushQueue l.other q { f with channel := out } left).link l).hold = [] := by
        cases l <;> cases q <;> rfl
      refine run_eq_of_nil hs ((handOverWaiting_left hw h (handPass_room h hu hr)).trans (classifyRest_of_nil none)) ?_
      cases q <;> exact hs.2
  refine ⟨fun hw => ⟨fun hr => ?_, fun hr => ⟨fun e => ?_, fun g more e => ⟨fun hm hq hg => ?_, fun hm hq hg hd => ?_,
    fun out hg hurg hd hu hn => ?_⟩⟩⟩, fun out hw hu => ?_, fun out hw hu => ?_, fun q out hw e hq => ⟨fun hd => ?_, fun hu hm => ?_⟩⟩
  · refine run_of_same hs ?_
    rw [handOverWaiting_stays hw h (handManagement_full hr), headWaits_of_waiting hw]
  · subst e
    exact run_eq_of_nil hs ((handOver_management hw h hr).trans (classifyRest_of_nil (State.requestLeft_hold ..))) hs.2
  · subst hm e
    exact exec_handover_drops hq hw h hr (c := fun c => { c with badKindDrops := bump c.badKindDrops })
      (classify_unscreened (by rw [hg]; rfl) _)
  · subst hm e
    refine exec_handover_drops hq hw h hr (c := fun c => { c with routeDrops := bump c.routeDrops }) ?_
    have route : (s.requestLeft l f [g]).route l g.channel = .drop := hd
    rw [classify_screened (by rw [hg]; rfl), route]
    rfl
  · subst e
    have route : (s.requestLeft l f (g :: more)).route l g.channel = .pass out := hd
    have up : ((s.requestLeft l f (g :: more)).link l.other).up = true := by
      rw [← hu]; cases l <;> rfl
    have full : TxQueue.normal.capacity ≤ (((s.requestLeft l f (g :: more)).link l.other).queue .normal).length := by
      refine Nat.le_trans hn (Nat.le_of_eq ?_)
      cases l <;> rfl
    have classified : classify l g (s.requestLeft l f (g :: more)) =
        (false, headWaits l (.pass .normal out) (s.requestLeft l f (g :: more))) := by
      rw [classify_screened (by rw [hg]; rfl), route, ← handPass_full (f := g) up full]
      simp only [handTo, hurg, Bool.false_eq_true, if_false]
    have stays : handOverWaiting l s = headWaits l (.pass .normal out) (s.requestLeft l f (g :: more)) := by
      rw [handOver_management hw h hr, classifyRest, State.requestLeft_hold]
      simp only [List.length_cons, classifyHeads, State.requestLeft_hold, classified, Bool.false_eq_true, if_false]
    refine (run_eq_of_nil hs stays hs.2).trans (congrArg _ ?_)
    cases l <;> rfl
  · exact pass hw hu
  · exact pass hw hu
  · subst e
    exact (releasePass_awaits (Awaits.of_nil hs.2) hw h hd hq.2.1).run_released rfl hs hs.2 hq.2.2
  · subst e
    intro taken t fallen
    have swap : l.other.other = l := by cases l <;> rfl
    have same : s.fallen l.other = fallen := by
      rw [State.fallen, State.withdrawn, swap]
      rfl
    have key := exec_linkDown_pass (l := l.other) (f := f) hq hu (swap.symm ▸ hw) (swap.symm ▸ h) hm
    rw [same, swap] at key
    exact key

end Sys2Proof.Machine
end

section
/-!
The frames that arrive (O15): each outcome of the classification of a good frame that finds its hold list empty.
-/
namespace Sys2Proof.Machine

/-- A hub whose only writes were of S3 waits for those alone. -/
theorem WritesS3.awaits {s t : State} (h : WritesS3 s t) (hs : s.unobserved = []) : Awaits (t.withWrites []) t :=
  ⟨t.unobserved, fun w hw => (h.waits w hw).resolve_left (by simp [hs]), rfl⟩

/-- `s` with the frame `f` alone on the hold list of a link whose receiver hunts again. -/
def State.arrived (s : State) (l : Link) (f : Frame) : State :=
  s.setLink l { s.link l with
    receiver := .hunting, hold := [f]
    counters := { (s.link l).counters with framesReceived := bump (s.link l).counters.framesReceived } }

theorem State.arrived_hold (s : State) (l : Link) (f : Frame) : ((s.arrived l f).link l).hold = [f] := by
  cases l <;> rfl

/-- `s` after a good frame of a link arrived and left its empty hold list again. -/
def State.passedOn (s : State) (l : Link) : State :=
  s.setLink l { s.link l with
    receiver := .hunting, waiting := none
    counters := { (s.link l).counters with framesReceived := bump (s.link l).counters.framesReceived } }

theorem State.arrived_headLeft {s : State} {l : Link} (f : Frame) (h : (s.link l).hold = []) :
    (s.arrived l f).headLeft l [] = s.passedOn l := by
  rw [← h]
  cases l <;> rfl

theorem headWaits_arrived (s : State) (l : Link) (f : Frame) (w : Waiting) :
    headWaits l w (s.arrived l f) = s.setLink l { s.link l with
      receiver := .hunting, hold := [f], waiting := some w
      counters := { (s.link l).counters with framesReceived := bump (s.link l).counters.framesReceived } } := by
  cases l <;> rfl

/-- What the four commands of an accepted frame share: its header, its payload of that length, and the hub. -/
structure Arrives (l : Link) (h : Header) (payload : List Byte) (s : State) : Prop where
  quiet : s.quiet
  receiver : (s.link l).receiver = .payload h
  length : payload.length = h.length

section
variable {l : Link} {h : Header} {payload : List Byte} {lo hi : Byte} {s : State}

theorem Arrives.frameEnds_eq (a : Arrives l h payload s) :
    frameEnds l payload lo hi s = frameArrives l h payload lo hi s := by
  simp only [frameEnds, a.receiver, a.length, if_true]

theorem Arrives.pages_eq (a : Arrives l h payload s) : (h.frame payload).pages = pagesOf h.length :=
  congrArg pagesOf a.length

/-- A frame whose CRC fails is counted and released (R25). -/
theorem Arrives.exec_bad (a : Arrives l h payload s) (hcrc : hi ++ lo ≠ linkCrc (h.bytes ++ payload)) :
    exec (.receiveFrameEnd l payload lo hi) s = .next ((s.setLink l { s.link l with
      receiver := .hunting
      counters := { (s.link l).counters with crcErrors := bump (s.link l).counters.crcErrors } }).afterRelease
        (pagesOf h.length)) := by
  obtain ⟨hs, hc, hi'⟩ := a.quiet
  have free : s.free + pagesOf h.length ≤ 128 := by
    refine hc.free_add_le (l := l) ?_
    simp only [LinkUnit.pageTotal, LinkUnit.storedPages, a.receiver, Receiver.pages]
    omega
  have ends : frameEnds l payload lo hi s = release (pagesOf h.length) (s.setLink l { s.link l with
      receiver := .hunting
      counters := { (s.link l).counters with crcErrors := bump (s.link l).counters.crcErrors } }) := by
    rw [a.frameEnds_eq, frameArrives]
    simp only [if_neg hcrc, setReceiver, modCounters, State.link_setLink_same, State.setLink_setLink]
  have aw := Awaits.release (n := pagesOf h.length) (Awaits.of_nil (s := s.setLink l { s.link l with
      receiver := .hunting
      counters := { (s.link l).counters with crcErrors := bump (s.link l).counters.crcErrors } }) hs.2)
      (Nat.ne_of_gt (pagesOf_pos _)) (Nat.le_trans free (by decide))
  exact aw.run_released ends hs hs.2 hi'

/-- A good frame joins its hold list (R25). -/
theorem Arrives.frameEnds_good (a : Arrives l h payload s) (hcrc : hi ++ lo = linkCrc (h.bytes ++ payload)) :
    frameEnds l payload lo hi s =
      if (s.link l).hold = [] then (classify l (h.frame payload) (s.arrived l (h.frame payload))).2
      else s.setLink l { s.link l with
        receiver := .hunting, hold := (s.link l).hold ++ [h.frame payload]
        counters := { (s.link l).counters with framesReceived := bump (s.link l).counters.framesReceived } } := by
  rw [a.frameEnds_eq, frameArrives]
  simp only [if_pos hcrc, joinHold, setReceiver, modCounters, State.link_setLink_same, State.setLink_setLink]
  split
  · next empty =>
    rw [empty, List.nil_append]
    exact classifyRest_of_single (s.arrived_hold l _)
  · rfl

/-- A frame behind others waits for its turn (R25, R27). -/
theorem Arrives.exec_behind (a : Arrives l h payload s) (hcrc : hi ++ lo = linkCrc (h.bytes ++ payload))
    (hh : (s.link l).hold ≠ []) :
    exec (.receiveFrameEnd l payload lo hi) s = .next (s.setLink l { s.link l with
        receiver := .hunting, hold := (s.link l).hold ++ [h.frame payload]
        counters := { (s.link l).counters with framesReceived := bump (s.link l).counters.framesReceived } }) := by
  refine run_eq_of_nil (f := frameEnds l payload lo hi) a.quiet.1 ?_ a.quiet.1.2
  rw [a.frameEnds_good hcrc, if_neg hh]

theorem Arrives.frameEnds_first (a : Arrives l h payload s) (hcrc : hi ++ lo = linkCrc (h.bytes ++ payload))
    (hh : (s.link l).hold = []) :
    frameEnds l payload lo hi s = (classify l (h.frame payload) (s.arrived l (h.frame payload))).2 := by
  rw [a.frameEnds_good hcrc, if_pos hh]

/-- The pages of a frame that found its hold list empty are still conserved. -/
theorem Arrives.arrived_conserved (a : Arrives l h payload s) (hh : (s.link l).hold = []) :
    (s.arrived l (h.frame payload)).conserved := by
  have held := holdFrame_good payload { (s.link l).counters with framesReceived := bump (s.link l).counters.framesReceived }
    a.receiver a.length
  rw [hh] at held
  exact held.conserved a.quiet.2.1

/-- A classification that makes no write. -/
theorem Arrives.exec_of_nil (a : Arrives l h payload s) (hcrc : hi ++ lo = linkCrc (h.bytes ++ payload))
    (hh : (s.link l).hold = []) {left : Bool} {t : State}
    (hd : classify l (h.frame payload) (s.arrived l (h.frame payload)) = (left, t)) (ht : t.unobserved = []) :
    exec (.receiveFrameEnd l payload lo hi) s = .next t :=
  run_eq_of_nil (f := frameEnds l payload lo hi) a.quiet.1 ((a.frameEnds_first hcrc hh).trans (by rw [hd])) ht

/-- A frame that is dropped when it is classified, after an operation whose only writes are of S3. -/
theorem Arrives.exec_drops (a : Arrives l h payload s) (hcrc : hi ++ lo = linkCrc (h.bytes ++ payload))
    (hh : (s.link l).hold = []) {t u : State}
    (hd : classify l (h.frame payload) (s.arrived l (h.frame payload)) = (true, dropHead l (h.frame payload) u))
    (aw : Awaits t u) (hold : (t.link l).hold = [h.frame payload]) (hc : t.conserved) (hu : t.unobserved = [])
    (hi' : t.ignores (.sys 3)) :
    exec (.receiveFrameEnd l payload lo hi) s = .next ((t.headLeft l []).afterRelease (pagesOf h.length)) := by
  have drops := dropHead_awaits aw hold hc
  rw [a.pages_eq] at drops
  exact drops.run_released (f := frameEnds l payload lo hi) ((a.frameEnds_first hcrc hh).trans (by rw [hd])) a.quiet.1 hu hi'

/-- A frame that is dropped with a counter. -/
theorem Arrives.exec_counted (a : Arrives l h payload s) (hcrc : hi ++ lo = linkCrc (h.bytes ++ payload))
    (hh : (s.link l).hold = []) {c : LinkCounters → LinkCounters}
    (hd : classify l (h.frame payload) (s.arrived l (h.frame payload)) =
      (true, dropHead l (h.frame payload) (modCounters l c (s.arrived l (h.frame payload))))) :
    exec (.receiveFrameEnd l payload lo hi) s = .next ((s.setLink l { s.link l with
      receiver := .hunting, waiting := none
      counters := c { (s.link l).counters with framesReceived := bump (s.link l).counters.framesReceived } }).afterRelease
        (pagesOf h.length)) := by
  have left : (modCounters l c (s.arrived l (h.frame payload))).headLeft l [] = s.setLink l { s.link l with
      receiver := .hunting, waiting := none
      counters := c { (s.link l).counters with framesReceived := bump (s.link l).counters.framesReceived } } := by
    rw [← hh]
    cases l <;> rfl
  rw [← left]
  refine a.exec_drops hcrc hh hd (Awaits.of_nil (s := modCounters l c (s.arrived l (h.frame payload))) a.quiet.1.2)
    (by cases l <;> rfl) ?_ a.quiet.1.2 a.quiet.2.2
  exact (modCounters_kept l c _).good.conserved (a.arrived_conserved hh)

/-- A frame that acts as a command and is then released. -/
theorem Arrives.exec_hands (a : Arrives l h payload s) (hcrc : hi ++ lo = linkCrc (h.bytes ++ payload))
    (hh : (s.link l).hold = []) {g : State → State}
    (hd : classify l (h.frame payload) (s.arrived l (h.frame payload)) =
      (true, dropHead l (h.frame payload) (g (s.arrived l (h.frame payload)))))
    (writes : WritesS3 (s.arrived l (h.frame payload)) (g (s.arrived l (h.frame payload))))
    (kept : Kept (s.arrived l (h.frame payload)) (g (s.arrived l (h.frame payload)))) :
    ∃ t, run g (s.arrived l (h.frame payload)) = .next t ∧
      exec (.receiveFrameEnd l payload lo hi) s = .next ((t.headLeft l []).afterRelease (pagesOf h.length)) := by
  obtain ⟨hs, -, hi'⟩ := a.quiet
  have hs' : (s.arrived l (h.frame payload)).settled := hs
  refine ⟨_, writes.run hs' hi', ?_⟩
  exact a.exec_drops hcrc hh hd (writes.awaits hs.2) ((kept.hold l).trans (s.arrived_hold l _))
    (kept.good.conserved (a.arrived_conserved hh)) rfl (writes.ignores hi')

/-- A command that is malformed is refused with a notice to its origin, and the frame is released. -/
theorem Arrives.exec_refuses (a : Arrives l h payload s) (hcrc : hi ++ lo = linkCrc (h.bytes ++ payload))
    (hh : (s.link l).hold = []) {target : Nat} {code : Byte}
    (hd : classify l (h.frame payload) (s.arrived l (h.frame payload)) = (true, dropHead l (h.frame payload)
      (sendRefused ((h.frame payload).origin l) target code .badFormat (s.arrived l (h.frame payload)))))
    (hu : (s.link l).up = true) (hf : 1 ≤ s.free) (hq : (s.link l).urgent.length < 8) (hp : s.mgmt.inProgress = none) :
    exec (.receiveFrameEnd l payload lo hi) s = .next (((((s.arrived l (h.frame payload)).withFree (s.free - 1)).withUrgent l
      (refusedNotice { link := l, channel := h.channel, tag := h.tag } target code 1 s.hubTime)).headLeft l []).afterRelease
        (pagesOf h.length)) := by
  obtain ⟨hs, hc, hi'⟩ := a.quiet
  have conserved := a.arrived_conserved hh
  have up : ((s.arrived l (h.frame payload)).link l).up = true := by rw [← hu]; cases l <;> rfl
  have room : ((s.arrived l (h.frame payload)).link l).urgent.length < 8 := by
    refine Nat.lt_of_le_of_lt (Nat.le_of_eq ?_) hq
    cases l <;> rfl
  have aw := (Awaits.of_nil (s := s.arrived l (h.frame payload)) hs.2).placeUrgent (l := l)
    (f := refusedNotice { link := l, channel := h.channel, tag := h.tag } target code 1 s.hubTime) hp
    (Nat.le_trans conserved.free_le (by decide))
  have handed : (s.arrived l (h.frame payload)).handed l
      (refusedNotice { link := l, channel := h.channel, tag := h.tag } target code 1 s.hubTime) =
      ((s.arrived l (h.frame payload)).withFree (s.free - 1)).withUrgent l
        (refusedNotice { link := l, channel := h.channel, tag := h.tag } target code 1 s.hubTime) := by
    have hf' : (s.arrived l (h.frame payload)).free = s.free := rfl
    rw [State.handed, if_neg (by simp [up]), if_neg (by rw [hf']; omega)]
    rfl
  rw [handed] at aw
  have pool := sendRefused_poolOp ((h.frame payload).origin l) target code .badFormat (s.arrived l (h.frame payload))
  have sent : sendRefused ((h.frame payload).origin l) target code .badFormat (s.arrived l (h.frame payload)) =
      placeUrgent l (refusedNotice { link := l, channel := h.channel, tag := h.tag } target code 1 s.hubTime)
        (s.arrived l (h.frame payload)) := rfl
  rw [sent] at pool hd
  refine a.exec_drops hcrc hh hd aw ?_ ?_ hs.2 hi'
  · cases l <;> rfl
  · have kept := pool.kept.good.conserved conserved
    obtain ⟨ws, -, e⟩ := aw
    rw [e] at kept
    exact kept

end

/-! ## Where a classified frame goes -/

theorem State.arrived_route (s : State) (l : Link) (f : Frame) : (s.arrived l f).route l f.channel = s.route l f.channel :=
  rfl

theorem State.arrived_other (s : State) (l : Link) (f : Frame) : (s.arrived l f).link l.other = s.link l.other := by
  cases l <;> rfl

theorem classify_motor {l : Link} {p : Port} {f : Frame} {s : State} (hr : s.route l f.channel = .motor p) (hk : f.kind = .data) :
    classify l f (s.arrived l f) = (true, dropHead l f (linkMotorCommand p (f.origin l) (commandCode f.payload)
      ((motorCommandOf f.payload).bind MotorCommand.request) (s.arrived l f))) := by
  rw [classify_screened (by rw [hk]; rfl), State.arrived_route, hr]
  simp only [handTo, hk, if_true]
  rfl

theorem classify_sound {l : Link} {v : VoiceId} {f : Frame} {s : State} (hr : s.route l f.channel = .sound v)
    (hk : f.kind = .data) :
    classify l f (s.arrived l f) = (true, dropHead l f (linkSoundCommand v (f.origin l) (commandCode f.payload)
      ((soundCommandOf f.payload).bind SoundCommand.request) (s.arrived l f))) := by
  rw [classify_screened (by rw [hk]; rfl), State.arrived_route, hr]
  simp only [handTo, hk, if_true]
  rfl

/-- A payload that spells a motor command has the effect of that command, and its frame is released (R30). -/
theorem Arrives.exec_motorCommand {l : Link} {h : Header} {payload : List Byte} {lo hi : Byte} {s : State} {p : Port}
    {c : MotorCommand} (a : Arrives l h payload s) (hcrc : hi ++ lo = linkCrc (h.bytes ++ payload)) (hh : (s.link l).hold = [])
    (hr : s.route l h.channel = .motor p) (hk : h.kind = .data) (hc : motorCommandOf payload = some c)
    (code : commandCode payload = c.code) :
    ∃ t, runMotor p { link := l, channel := h.channel, tag := h.tag } c (s.arrived l (h.frame payload)) = .next t ∧
      exec (.receiveFrameEnd l payload lo hi) s = .next ((t.headLeft l []).afterRelease (pagesOf h.length)) := by
  have hd := classify_motor (f := h.frame payload) hr hk
  rw [show (h.frame payload).payload = payload from rfl, hc, code] at hd
  exact a.exec_hands hcrc hh (g := linkMotorCommand p { link := l, channel := h.channel, tag := h.tag } c.code c.request) hd
    (linkMotorCommand_writesS3 ..) (linkMotorCommand_kept ..)

/-- A payload that spells a sound command has the effect of that command, and its frame is released (R30). -/
theorem Arrives.exec_soundCommand {l : Link} {h : Header} {payload : List Byte} {lo hi : Byte} {s : State} {v : VoiceId}
    {c : SoundCommand} (a : Arrives l h payload s) (hcrc : hi ++ lo = linkCrc (h.bytes ++ payload)) (hh : (s.link l).hold = [])
    (hr : s.route l h.channel = .sound v) (hk : h.kind = .data) (hc : soundCommandOf payload = some c)
    (code : commandCode payload = c.code) :
    ∃ t, runSound v { link := l, channel := h.channel, tag := h.tag } c (s.arrived l (h.frame payload)) = .next t ∧
      exec (.receiveFrameEnd l payload lo hi) s = .next ((t.headLeft l []).afterRelease (pagesOf h.length)) := by
  have hd := classify_sound (f := h.frame payload) hr hk
  rw [show (h.frame payload).payload = payload from rfl, hc, code] at hd
  exact a.exec_hands hcrc hh (g := linkSoundCommand v { link := l, channel := h.channel, tag := h.tag } c.code c.request) hd
    (linkSoundCommand_writesS3 ..) (linkSoundCommand_kept ..)

/-- A request for the management unit (R29, R32). -/
theorem Arrives.exec_request {l : Link} {h : Header} {payload : List Byte} {lo hi : Byte} {s : State}
    (a : Arrives l h payload s) (hcrc : hi ++ lo = linkCrc (h.bytes ++ payload)) (hh : (s.link l).hold = [])
    (hr : s.route l h.channel = .management) (hk : h.kind = .mgmtRequest) :
    exec (.receiveFrameEnd l payload lo hi) s = .next (if s.mgmt.queue.length < 4
      then { s.passedOn l with
             mgmt := { s.mgmt with
               queue := s.mgmt.queue ++ [{ link := l, frame := h.frame payload }]
               headWaits := if s.mgmt.queue = [] then false else s.mgmt.headWaits } }
      else headWaits l .management (s.arrived l (h.frame payload))) := by
  have hd : classify l (h.frame payload) (s.arrived l (h.frame payload)) =
      handManagement l (h.frame payload) (s.arrived l (h.frame payload)) := by
    rw [classify_screened (by rw [show (h.frame payload).kind = .mgmtRequest from hk]; rfl), State.arrived_route,
      show s.route l (h.frame payload).channel = .management from hr]
    simp only [handTo, show (h.frame payload).kind = .mgmtRequest from hk, if_true]
  split
  · next room =>
    refine (a.exec_of_nil hcrc hh (hd.trans (handManagement_room (s.arrived_hold l _) room)) a.quiet.1.2).trans ?_
    rw [State.arrived_headLeft _ hh]
    rfl
  · next full =>
    exact a.exec_of_nil hcrc hh (hd.trans (handManagement_full (s := s.arrived l (h.frame payload)) (Nat.not_lt.mp full)))
      a.quiet.1.2

/-- A PASS frame for an UP link (R31, R32). -/
theorem Arrives.exec_pass {l : Link} {h : Header} {payload : List Byte} {lo hi : Byte} {s : State} {out : Channel} {q : TxQueue}
    (a : Arrives l h payload s) (hcrc : hi ++ lo = linkCrc (h.bytes ++ payload)) (hh : (s.link l).hold = [])
    (hd : classify l (h.frame payload) (s.arrived l (h.frame payload)) =
      handPass l q out (h.frame payload) (s.arrived l (h.frame payload))) (hu : (s.link l.other).up = true) :
    exec (.receiveFrameEnd l payload lo hi) s = .next (if ((s.link l.other).queue q).length < q.capacity
      then pushQueue l.other q { h.frame payload with channel := out } (s.passedOn l)
      else headWaits l (.pass q out) (s.arrived l (h.frame payload))) := by
  have up : ((s.arrived l (h.frame payload)).link l.other).up = true := by rw [State.arrived_other]; exact hu
  split
  · next room =>
    have roomy : (((s.arrived l (h.frame payload)).link l.other).queue q).length < q.capacity := by
      rw [State.arrived_other]; exact room
    have passes := hd.trans (handPass_room (s.arrived_hold l _) up roomy)
    rw [State.arrived_headLeft _ hh] at passes
    refine a.exec_of_nil hcrc hh passes ?_
    cases q <;> exact a.quiet.1.2
  · next full =>
    refine a.exec_of_nil hcrc hh (hd.trans (handPass_full up ?_)) a.quiet.1.2
    rw [State.arrived_other]; exact Nat.not_lt.mp full

/-- A PASS frame for a DOWN link is released and counted as its drop (R31). -/
theorem Arrives.exec_passDown {l : Link} {h : Header} {payload : List Byte} {lo hi : Byte} {s : State} {out : Channel}
    {q : TxQueue} (a : Arrives l h payload s) (hcrc : hi ++ lo = linkCrc (h.bytes ++ payload)) (hh : (s.link l).hold = [])
    (hd : classify l (h.frame payload) (s.arrived l (h.frame payload)) =
      handPass l q out (h.frame payload) (s.arrived l (h.frame payload))) (hu : (s.link l.other).up = false) :
    exec (.receiveFrameEnd l payload lo hi) s =
      .next (((s.passedOn l).downLinkDrop l.other).afterRelease (pagesOf h.length)) := by
  have down : ((s.arrived l (h.frame payload)).link l.other).up = false := by rw [State.arrived_other]; exact hu
  have left : ((s.arrived l (h.frame payload)).downLinkDrop l.other).headLeft l [] = (s.passedOn l).downLinkDrop l.other := by
    rw [← State.arrived_headLeft (h.frame payload) hh]
    cases l <;> rfl
  rw [← left]
  refine a.exec_drops hcrc hh (hd.trans (handPass_down down))
    (Awaits.of_nil (s := (s.arrived l (h.frame payload)).downLinkDrop l.other) a.quiet.1.2) (by cases l <;> rfl) ?_
    a.quiet.1.2 a.quiet.2.2
  exact (modCounters_kept l.other (fun c => { c with downLinkDrops := bump c.downLinkDrops }) _).good.conserved
    (a.arrived_conserved hh)

/-- A STREAM frame for a voice (R30). -/
theorem Arrives.exec_stream {l : Link} {h : Header} {payload : List Byte} {lo hi : Byte} {s : State} {v : VoiceId}
    (a : Arrives l h payload s) (hcrc : hi ++ lo = linkCrc (h.bytes ++ payload)) (hh : (s.link l).hold = [])
    (hr : s.route l h.channel = .sound v) (hk : h.kind = .stream) :
    exec (.receiveFrameEnd l payload lo hi) s = .next (if (s.voice v).stream.length < 12
      then (s.passedOn l).setVoice v { s.voice v with
        stream := (s.voice v).stream ++ [h.frame payload]
        state := if (s.voice v).state = .starved then .playing else (s.voice v).state }
      else ((s.passedOn l).setVoice v { s.voice v with
        overflows := satAdd 65535 (s.voice v).overflows 1 }).afterRelease (pagesOf h.length)) := by
  have hd : classify l (h.frame payload) (s.arrived l (h.frame payload)) =
      (true, handStream l v (h.frame payload) (s.arrived l (h.frame payload))) := by
    rw [classify_screened (by rw [show (h.frame payload).kind = .stream from hk]; rfl), State.arrived_route,
      show s.route l (h.frame payload).channel = .sound v from hr]
    simp only [handTo, show (h.frame payload).kind = .stream from hk, reduceCtorEq, if_true, if_false]
  have same : (s.arrived l (h.frame payload)).voice v = s.voice v := rfl
  split
  · next room =>
    have joins : handStream l v (h.frame payload) (s.arrived l (h.frame payload)) =
        joinStream v (h.frame payload) (s.passedOn l) := by
      rw [handStream, same, if_pos room, popHold_eq (s.arrived_hold l _), State.arrived_headLeft _ hh]
    exact a.exec_of_nil hcrc hh (hd.trans (congrArg (Prod.mk true) joins)) a.quiet.1.2
  · next full =>
    have drops : handStream l v (h.frame payload) (s.arrived l (h.frame payload)) = dropHead l (h.frame payload)
        ((s.arrived l (h.frame payload)).setVoice v { s.voice v with overflows := satAdd 65535 (s.voice v).overflows 1 }) := by
      rw [handStream, same, if_neg full]
    have left : (((s.arrived l (h.frame payload)).setVoice v
        { s.voice v with overflows := satAdd 65535 (s.voice v).overflows 1 }).headLeft l []) =
        (s.passedOn l).setVoice v { s.voice v with overflows := satAdd 65535 (s.voice v).overflows 1 } := by
      rw [← State.arrived_headLeft (h.frame payload) hh]
      rfl
    rw [← left]
    refine a.exec_drops hcrc hh (hd.trans (congrArg (Prod.mk true) drops))
      (Awaits.of_nil (s := (s.arrived l (h.frame payload)).setVoice v _) a.quiet.1.2) (s.arrived_hold l _) ?_ a.quiet.1.2
      a.quiet.2.2
    have kept := setVoice_voiceOp (v := v) (r := { s.voice v with overflows := satAdd 65535 (s.voice v).overflows 1 })
      (s := s.arrived l (h.frame payload)) (by rfl)
    exact kept.pool.trans (a.arrived_conserved hh)

/-- Settles O15. -/
theorem receivedFrameIsClassified : Obligations.ReceivedFrameIsClassified := by
  intro l h payload lo hi s hq hr hl u f pages arrives good u0 badKind held o hands refuses
  have a : Arrives l h payload s := ⟨hq, hr, hl⟩
  refine ⟨fun hg => a.exec_bad hg, fun hg hh => a.exec_behind hg hh, fun hg hh => ⟨fun hk => ?_, fun hk => ?_⟩⟩
  · exact a.exec_counted hg hh (c := fun c => { c with badKindDrops := bump c.badKindDrops })
      (classify_unscreened (FrameKind.screened_eq_false.mpr hk) _)
  have screened : f.kind.screened = true := FrameKind.screened_eq_true.mpr hk
  have goes {r : Route} (hd : s.route l h.channel = r) : classify l f (s.arrived l f) = handTo l r f (s.arrived l f) :=
    (classify_screened screened _).trans (congrArg (handTo l · f (s.arrived l f)) hd)
  have bad (hd : classify l f (s.arrived l f) = (true, Machine.badKind l f (s.arrived l f))) : arrives = .next badKind :=
    a.exec_counted hg hh (c := fun c => { c with badKindDrops := bump c.badKindDrops }) hd
  refine ⟨fun hd => ?drop, fun hd => ?management, fun p hd => ⟨fun hn => ?_, fun hk => ?motor⟩, fun v hd hk => ?sound,
    fun v hd hn => ?stream, fun out hd => ?pass⟩
  case drop =>
    exact a.exec_counted hg hh (c := fun c => { c with routeDrops := bump c.routeDrops }) (goes hd)
  case management =>
    by_cases hm : h.kind = .mgmtRequest
    · rw [if_neg (not_not.mpr hm)]
      have result := a.exec_request hg hh hd hm
      rw [headWaits_arrived] at result
      exact result
    · rw [if_pos hm]
      exact bad ((goes hd).trans (if_neg hm))
  · exact bad ((goes hd).trans (congrArg (Prod.mk true) (if_neg hn)))
  case motor =>
    refine ⟨fun raw e => ?_, fun raw e => ?_, fun x e => ?_, fun e => ?_, fun e code more hp hu hf hroom hprog => ?_⟩
    · exact a.exec_motorCommand hg hh hd hk (by rw [e, motorCommandOf_append]) (by rw [e]; rfl)
    · exact a.exec_motorCommand hg hh hd hk (by rw [e, motorCommandOf_replace]) (by rw [e]; rfl)
    · exact a.exec_motorCommand hg hh hd hk (c := .abort x) (by rw [e]; rfl) (by rw [e]; rfl)
    · exact a.exec_motorCommand hg hh hd hk (c := .zero) (by rw [e]; rfl) (by rw [e]; rfl)
    · refine a.exec_refuses hg hh ?_ hu hf hroom hprog
      have first : commandCode payload = code := by rw [hp]; rfl
      rw [classify_motor (f := f) hd hk, show f.payload = payload from rfl, e, first]
      rfl
  case sound =>
    refine ⟨fun raw e => ?_, fun raw e => ?_, fun e => ?_, fun e => ?_, fun g e => ?_, fun mode e => ?_,
      fun e code more hp hu hf hroom hprog => ?_⟩
    · exact a.exec_soundCommand hg hh hd hk (by rw [e, soundCommandOf_queue]) (by rw [e]; rfl)
    · exact a.exec_soundCommand hg hh hd hk (by rw [e, soundCommandOf_play]) (by rw [e]; rfl)
    · exact a.exec_soundCommand hg hh hd hk (c := .stopRelease) (by rw [e]; rfl) (by rw [e]; rfl)
    · exact a.exec_soundCommand hg hh hd hk (c := .stopCut) (by rw [e]; rfl) (by rw [e]; rfl)
    · exact a.exec_soundCommand hg hh hd hk (by rw [e, soundCommandOf_setGain]) (by rw [e]; rfl)
    · exact a.exec_soundCommand hg hh hd hk (c := .setLoop mode) (by rw [e]; rfl) (by rw [e]; rfl)
    · refine a.exec_refuses hg hh ?_ hu hf hroom hprog
      have first : commandCode payload = code := by rw [hp]; rfl
      rw [classify_sound (f := f) hd hk, show f.payload = payload from rfl, e, first]
      rfl
  case stream =>
    by_cases hm : h.kind = .stream
    · rw [if_neg (not_not.mpr hm)]
      exact a.exec_stream hg hh hd hm
    · rw [if_pos hm]
      exact bad ((goes hd).trans (congrArg (Prod.mk true) ((if_neg hn).trans (if_neg hm))))
  case pass =>
    intro other
    have passes : classify l f (s.arrived l f) =
        handPass l (if f.isUrgent then .urgent else .normal) out f (s.arrived l f) := goes hd
    by_cases hu : other.up = false
    · rw [if_pos hu]
      have result := a.exec_passDown hg hh passes hu
      have there : (s.passedOn l).link l.other = s.link l.other := by cases l <;> rfl
      rw [State.downLinkDrop, there] at result
      exact result
    · rw [if_neg hu]
      have hu : other.up = true := by simpa using hu
      cases hf : f.isUrgent
      · rw [hf] at passes
        have result := a.exec_pass (q := .normal) hg hh passes hu
        rw [headWaits_arrived] at result
        exact result
      · rw [hf] at passes
        have result := a.exec_pass (q := .urgent) hg hh passes hu
        rw [headWaits_arrived] at result
        exact result

end Sys2Proof.Machine
end

section
/-!
The table records of LOAD requests are read as the entries whose bytes they hold (R197, R200).
-/
namespace Sys2Proof.Machine

/-! ## Reading past fields, and the last field of a record -/

@[simp] theorem num8_past16 (n i : Nat) (bs : List Byte) : num8 (le16 n ++ bs) (i + 2) = num8 bs i := rfl
@[simp] theorem num8_pastInt (n : Int) (i : Nat) (bs : List Byte) : num8 (leInt n ++ bs) (i + 4) = num8 bs i := rfl
@[simp] theorem byteAt_pastInt (n : Int) (i : Nat) (bs : List Byte) : byteAt (leInt n ++ bs) (i + 4) = byteAt bs i := rfl
@[simp] theorem num16_past16 (n i : Nat) (bs : List Byte) : num16 (le16 n ++ bs) (i + 2) = num16 bs i := rfl
@[simp] theorem num16_pastInt (n : Int) (i : Nat) (bs : List Byte) : num16 (leInt n ++ bs) (i + 4) = num16 bs i := rfl
@[simp] theorem int32_past16 (n i : Nat) (bs : List Byte) : int32 (le16 n ++ bs) (i + 2) = int32 bs i := rfl
@[simp] theorem int32_pastInt (n : Int) (i : Nat) (bs : List Byte) : int32 (leInt n ++ bs) (i + 4) = int32 bs i := rfl

theorem num16_le16_last {n : Nat} (h : n < 65536) : num16 (le16 n) 0 = n := num16_le16 h []

theorem word16_le16_last (n : Nat) : word16 (le16 n) 0 = BitVec.ofNat 16 n := word16_le16 n []

/-! ## Codes of one byte -/

@[simp] theorem Port.ofCode_u8 (p : Port) : Port.ofCode (u8 p.code).toNat = some p := by cases p <;> rfl
@[simp] theorem Rounding.ofCode_u8 (r : Rounding) : Rounding.ofCode (u8 r.code).toNat = some r := by cases r <;> rfl
@[simp] theorem RangePolicy.ofCode_u8 (r : RangePolicy) : RangePolicy.ofCode (u8 r.code).toNat = some r := by
  cases r <;> rfl
@[simp] theorem EndAction.ofCode_u8 (e : EndAction) : EndAction.ofCode (u8 e.code).toNat = some e := by cases e <;> rfl
@[simp] theorem LossAction.ofCode_u8 (a : LossAction) : LossAction.ofCode (u8 a.code).toNat = some a := by
  cases a <;> rfl
@[simp] theorem WatchedLink.ofCode_u8 (w : WatchedLink) : WatchedLink.ofCode (u8 w.code).toNat = some w := by
  cases w <;> rfl
@[simp] theorem Condition.ofCode_u8 (c : Condition) : Condition.ofCode (u8 c.code).toNat = some c := by cases c <;> rfl
@[simp] theorem ReflexMode.ofCode_u8 (m : ReflexMode) : ReflexMode.ofCode (u8 m.code).toNat = some m := by
  cases m <;> rfl
@[simp] theorem SubMode.ofCode_u8 (m : SubMode) : SubMode.ofCode (u8 m.code).toNat = some m := by cases m <;> rfl
@[simp] theorem boolOf_true_u8 (b : Bool) : boolOf true (u8 (boolCode !b)).toNat = some b := by cases b <;> rfl

@[simp] theorem voiceOfCode_u8 (v : VoiceId) : voiceOfCode (u8 v.val).toNat = some v := by
  have := v.isLt
  have code : (u8 v.val).toNat = v.val := by rw [toNat_u8]; omega
  simp [voiceOfCode, code]

@[simp] theorem CellId.ofCode_u8 (c : CellId) : CellId.ofCode (u8 c.code).toNat = some c := by
  have : ∀ p i, CellId.ofCode (u8 (CellId.port p i).code).toNat = some (.port p i) := by intro p; cases p <;> decide
  have : ∀ i, CellId.ofCode (u8 (CellId.sys i).code).toNat = some (.sys i) := by decide
  cases c <;> simp only [*]

/-- The route of an endpoint's two bytes. -/
@[simp] theorem routeOf_endpoint (e : Endpoint) : routeOf (u8 e.link.code) (u8 e.channel.val) = some (some e) := by
  obtain ⟨l, c⟩ := e
  have channel : (u8 c.val).toNat = c.val := by have := c.isLt; rw [toNat_u8]; omega
  have present : u8 l.code ≠ 255 := by cases l <;> decide
  have link : Link.ofCode (u8 l.code).toNat = some l := by cases l <;> rfl
  simp only [routeOf, if_neg present, link, channel, c.isLt, dite_true]

@[simp] theorem routeOf_routeBytes (r : Option Endpoint) :
    routeOf (byteAt (routeBytes r) 0) (byteAt (routeBytes r) 1) = some r := by
  cases r with
  | none => rfl
  | some e => exact routeOf_endpoint e

@[simp] theorem endpointOf_endpoint (e : Endpoint) : endpointOf (u8 e.link.code) (u8 e.channel.val) = some e := by
  have present : u8 e.link.code ≠ 255 := by cases e.link <;> decide
  simp only [endpointOf, if_neg present, routeOf_endpoint, Option.join_some]

/-- The link byte of an optional route is absent or one of the two links. -/
theorem routeBytes_link (r : Option Endpoint) : byteAt (routeBytes r) 0 = 255 ∨ (byteAt (routeBytes r) 0).toNat < 2 := by
  cases r with
  | none => exact .inl rfl
  | some e => obtain ⟨l, c⟩ := e; exact .inr (show (u8 l.code).toNat < 2 by cases l <;> decide)

/-- An optional one-byte field below its bound is read back. -/
theorem optField_optByte {bound : Nat} (hb : bound ≤ 255) {o : Option Nat} (h : ∀ n, o = some n → n < bound) :
    optField bound (optByte o) = some o := by
  cases o with
  | none => rfl
  | some n =>
    have lt := h n rfl
    have code : (u8 n).toNat = n := by rw [toNat_u8]; omega
    have present : u8 n ≠ 255 := by
      intro e
      have := congrArg BitVec.toNat e
      rw [code] at this
      simp at this
      omega
    simp only [optField, optByte, if_neg present, code, lt, if_true]

/-! ## The records -/

theorem routeEntryOf_bytes (r : Route) : routeEntryOf r.bytes = some r := by
  cases r with
  | drop => rfl
  | management => rfl
  | motor p => cases p <;> rfl
  | sound v =>
    show (voiceOfCode (u8 v.val).toNat).map Route.sound = _
    rw [voiceOfCode_u8]; rfl
  | pass c =>
    have code : (u8 c.val).toNat = c.val := by have := c.isLt; rw [toNat_u8]; omega
    simp [routeEntryOf, Route.bytes, code]

theorem classEntryOf_bytes {e : ClassEntry} (c0 : 1 ≤ e.countsPerRev) (c1 : e.countsPerRev ≤ 65535) (r0 : 1 ≤ e.ratedMax)
    (r1 : e.ratedMax ≤ 20000) (p : e.kp ≤ 4095) (i : e.ki ≤ 4095) (f : e.kf ≤ 65535) : classEntryOf e.bytes = some e := by
  have counts : num16 e.bytes 0 = e.countsPerRev := by simp [ClassEntry.bytes, Nat.lt_succ_of_le c1]
  have rated : num16 e.bytes 2 = e.ratedMax := by
    simp [ClassEntry.bytes, show e.ratedMax < 65536 by omega]
  have kp : num16 e.bytes 4 = e.kp := by simp [ClassEntry.bytes, show e.kp < 65536 by omega]
  have ki : num16 e.bytes 6 = e.ki := by simp [ClassEntry.bytes, show e.ki < 65536 by omega]
  have kf : num16 e.bytes 8 = e.kf := by simp [ClassEntry.bytes, num16_le16_last (show e.kf < 65536 by omega)]
  simp [classEntryOf, counts, rated, kp, ki, kf, c0, r0, r1, p, i]

theorem motorSettingsOf_bytes {g : MotorSettings} (h : g.inRange = true) : motorSettingsOf g.bytes = some (some g) := by
  have range := h
  simp only [MotorSettings.inRange, Bool.and_eq_true, decide_eq_true_eq] at range
  obtain ⟨⟨⟨⟨⟨⟨⟨⟨⟨⟨⟨⟨kp, ki⟩, kf⟩, limit⟩, duty⟩, current⟩, sduty⟩, sspeed⟩, -⟩, stime⟩, tol⟩, settle⟩, low⟩ := range
  have rKp : num16 g.bytes 0 = g.kp := by simp [MotorSettings.bytes, show g.kp < 65536 by omega]
  have rKi : num16 g.bytes 2 = g.ki := by simp [MotorSettings.bytes, show g.ki < 65536 by omega]
  have rKf : num16 g.bytes 4 = g.kf := by simp [MotorSettings.bytes, show g.kf < 65536 by omega]
  have rLimit : int32 g.bytes 6 = g.integralLimit := by
    simp [MotorSettings.bytes, int32_leInt (n := (g.integralLimit : Int)) (by omega) (by omega)]
  have rDuty : num16 g.bytes 10 = g.dutyMax := by simp [MotorSettings.bytes, show g.dutyMax < 65536 by omega]
  have rCurrent : num16 g.bytes 12 = g.currentLimit := by
    simp [MotorSettings.bytes, show g.currentLimit < 65536 by omega]
  have rStallDuty : num16 g.bytes 14 = g.stallDuty := by simp [MotorSettings.bytes, show g.stallDuty < 65536 by omega]
  have rStallSpeed : num16 g.bytes 16 = g.stallSpeed := by
    simp [MotorSettings.bytes, show g.stallSpeed < 65536 by omega]
  have rStallTime : num16 g.bytes 18 = g.stallTime := by simp [MotorSettings.bytes, show g.stallTime < 65536 by omega]
  have rTolerance : num16 g.bytes 20 = g.tolerance := by simp [MotorSettings.bytes, show g.tolerance < 65536 by omega]
  have rSettle : num16 g.bytes 22 = g.settleTimeout := by
    simp [MotorSettings.bytes, show g.settleTimeout < 65536 by omega]
  have rComp : boolOf true (num8 g.bytes 24) = some g.compensation := by simp [MotorSettings.bytes, -toNat_u8]
  have rLoss : LossAction.ofCode (num8 g.bytes 25) = some g.lossAction := by simp [MotorSettings.bytes, -toNat_u8]
  have rWatched : WatchedLink.ofCode (num8 g.bytes 26) = some g.watched := by simp [MotorSettings.bytes, -toNat_u8]
  have rLow : num8 g.bytes 27 = g.lowWater := by simp [MotorSettings.bytes]; omega
  have rLink : byteAt g.bytes 28 = byteAt (routeBytes g.noticeRoute) 0 := by simp [MotorSettings.bytes]
  have rChannel : byteAt g.bytes 29 = byteAt (routeBytes g.noticeRoute) 1 := by simp [MotorSettings.bytes]
  have rRoute : routeOf (byteAt g.bytes 28) (byteAt g.bytes 29) = some g.noticeRoute := by
    rw [rLink, rChannel, routeOf_routeBytes]
  have linkByte : (byteAt g.bytes 28 = 255 || decide ((byteAt g.bytes 28).toNat < 2)) = true := by
    rw [rLink]; simpa using routeBytes_link g.noticeRoute
  simp only [motorSettingsOf, rComp, rLoss, rWatched, rRoute, if_pos linkByte]
  simp [rKp, rKi, rKf, rLimit, rDuty, rCurrent, rStallDuty
    , rStallSpeed, rStallTime, rTolerance, rSettle, rLow, h]

theorem portSettingsOf_bytes {g : PortSettings} (a0 : 1 ≤ g.analogInterval) (a1 : g.analogInterval ≤ 1000)
    (p : g.pollInterval ≤ 1000) (m : ∀ m, g.mode = some m → m < 8) : portSettingsOf g.bytes = some g := by
  have rAnalog : num16 g.bytes 0 = g.analogInterval := by
    simp [PortSettings.bytes, show g.analogInterval < 65536 by omega]
  have rPoll : num16 g.bytes 2 = g.pollInterval := by simp [PortSettings.bytes, show g.pollInterval < 65536 by omega]
  have rMode : optField 8 (byteAt g.bytes 4) = some g.mode := by
    simp [PortSettings.bytes, optField_optByte (by decide) m]
  have rTable : optField 6 (byteAt g.bytes 5) = some (g.calibration.map Fin.val) := by
    have below : ∀ n, g.calibration.map Fin.val = some n → n < 6 := by
      intro n hn
      obtain ⟨i, -, rfl⟩ := Option.map_eq_some_iff.mp hn
      exact i.isLt
    simp [PortSettings.bytes, optField_optByte (by decide) below]
  have rRounding : Rounding.ofCode (num8 g.bytes 6) = some g.rounding := by simp [PortSettings.bytes, -toNat_u8]
  have rPolicy : RangePolicy.ofCode (num8 g.bytes 7) = some g.policy := by simp [PortSettings.bytes, -toNat_u8]
  have rRoute : routeOf (byteAt g.bytes 8) (byteAt g.bytes 9) = some g.eventRoute := by simp [PortSettings.bytes]
  have table : ((g.calibration.map Fin.val).bind fun i => if h : i < 6 then some (⟨i, h⟩ : Fin 6) else none) =
      g.calibration := by
    cases g.calibration <;> simp
  simp [portSettingsOf, rMode, rTable, rRounding, rPolicy, rRoute, rAnalog, rPoll, a0, a1, p]
  cases g; simp_all

/-! ### Calibration tables and wavetables -/

theorem breakpointsRise_raw {t : List Breakpoint} (h : breakpointsRise t = true) : ∀ b ∈ t, b.raw ≤ 4095 := by
  induction t with
  | nil => simp
  | cons a rest ih =>
    cases rest with
    | nil => simpa [breakpointsRise] using h
    | cons b rest =>
      simp only [breakpointsRise, Bool.and_eq_true, decide_eq_true_eq] at h
      have tail := ih h.2
      intro c hc
      rcases List.mem_cons.mp hc with rfl | hc
      · have := tail b (by simp); omega
      · exact tail c hc

/-- The bytes of the breakpoints alone. -/
def breakpointBytes (t : List Breakpoint) : List Byte := t.flatMap fun b => le16 b.raw ++ leInt b.val

/-- The breakpoint at a place of its bytes. -/
theorem breakpoint_at {t : List Breakpoint} (raws : ∀ b ∈ t, b.raw ≤ 4095)
    (vals : ∀ b ∈ t, -2147483648 ≤ b.val ∧ b.val ≤ 2147483647) (i : Nat) (hi : i < t.length) :
    num16 (breakpointBytes t) (6 * i) = t[i].raw ∧ int32 (breakpointBytes t) (2 + 6 * i) = t[i].val := by
  induction t generalizing i with
  | nil => simp at hi
  | cons b rest ih =>
    have raw := raws b (by simp)
    obtain ⟨lo, hi'⟩ := vals b (by simp)
    have bytes : breakpointBytes (b :: rest) = le16 b.raw ++ (leInt b.val ++ breakpointBytes rest) := by
      simp [breakpointBytes]
    rw [bytes]
    cases i with
    | zero => simp [show b.raw < 65536 by omega, int32_leInt lo hi']
    | succ i =>
      have tail := ih (fun c hc => raws c (by simp [hc])) (fun c hc => vals c (by simp [hc])) i (by simpa using hi)
      have o1 : 6 * (i + 1) = 6 * i + 4 + 2 := by omega
      have o2 : 2 + (6 * i + 4 + 2) = 2 + 6 * i + 4 + 2 := by omega
      rw [o1, o2, num16_past16, num16_pastInt, int32_past16, int32_pastInt]
      exact tail

theorem length_breakpointBytes (t : List Breakpoint) : (breakpointBytes t).length = 6 * t.length := by
  induction t with
  | nil => rfl
  | cons b rest ih =>
    have bytes : breakpointBytes (b :: rest) = le16 b.raw ++ (leInt b.val ++ breakpointBytes rest) := by
      simp [breakpointBytes]
    simp [bytes, ih]; omega

theorem calibrationOf_bytes {t : List Breakpoint} (l0 : 2 ≤ t.length) (l1 : t.length ≤ 16)
    (rise : breakpointsRise t = true) (vals : ∀ b ∈ t, -2147483648 ≤ b.val ∧ b.val ≤ 2147483647) :
    calibrationOf (calibrationBytes t) = some t := by
  have bytes : calibrationBytes t = u8 t.length :: breakpointBytes t := rfl
  have count : num8 (calibrationBytes t) 0 = t.length := by rw [bytes]; simp; omega
  have length : (calibrationBytes t).length = 1 + 6 * t.length := by
    rw [bytes, List.length_cons, length_breakpointBytes]; omega
  have table : ((List.range t.length).map fun i =>
      ({ raw := num16 (calibrationBytes t) (1 + 6 * i), val := int32 (calibrationBytes t) (3 + 6 * i) } : Breakpoint)) = t := by
    refine List.ext_getElem (by simp) fun i h1 h2 => ?_
    obtain ⟨raw, val⟩ := breakpoint_at (breakpointsRise_raw rise) vals i h2
    have o1 : 1 + 6 * i = 6 * i + 1 := by omega
    have o2 : 3 + 6 * i = 2 + 6 * i + 1 := by omega
    rw [List.getElem_map, List.getElem_range, o1, o2, bytes, num16_succ, int32_succ, raw, val]
  simp only [calibrationOf, count, length, table]
  simp [l0, l1, rise]

/-- A word of a list of words. -/
theorem word16_flatMap (ns : List Nat) (i : Nat) (hi : i < ns.length) :
    word16 (ns.flatMap le16) (2 * i) = BitVec.ofNat 16 ns[i] := by
  induction ns generalizing i with
  | nil => simp at hi
  | cons n rest ih =>
    rw [List.flatMap_cons]
    cases i with
    | zero => simp
    | succ i => simpa [Nat.mul_succ] using ih i (by simpa using hi)

theorem wavetableOf_bytes {w : Vector Int 64} (range : ∀ i : Fin 64, -32768 ≤ w.get i ∧ w.get i ≤ 32767) :
    wavetableOf (wavetableBytes w) = w := by
  have bytes : wavetableBytes w = (w.toList.map fun v => (BitVec.ofInt 16 v).toNat).flatMap le16 := by
    simp [wavetableBytes, List.flatMap_map]
  refine Vector.ext fun i hi => ?_
  obtain ⟨lo, up⟩ := range ⟨i, hi⟩
  have entry : w.get ⟨i, hi⟩ = w[i] := rfl
  rw [entry] at lo up
  rw [wavetableOf, Vector.getElem_ofFn, bytes, word16_flatMap _ _ (by simpa using hi)]
  simp only [List.getElem_map, Vector.getElem_toList, BitVec.ofNat_toNat, BitVec.setWidth_eq, BitVec.toInt_ofInt]
  exact Int.bmod_eq_of_le (by omega) (by omega)

theorem envelopeOf_bytes {e : Envelope} (a : e.attack ≤ 65535) (d : e.decay ≤ 65535) (s : e.sustain ≤ 255)
    (r : e.release ≤ 65535) : envelopeOf e.bytes = e := by
  have attack : num16 e.bytes 0 = e.attack := by simp [Envelope.bytes, show e.attack < 65536 by omega]
  have decay : num16 e.bytes 2 = e.decay := by simp [Envelope.bytes, show e.decay < 65536 by omega]
  have sustain : num8 e.bytes 4 = e.sustain := by simp [Envelope.bytes]; omega
  have release : num16 e.bytes 5 = e.release := by
    simp [Envelope.bytes, num16_le16_last (show e.release < 65536 by omega)]
  rw [envelopeOf, attack, decay, sustain, release]

theorem supplySettingsOf_bytes {g : SupplySettings} (l0 : 4800 ≤ g.low) (l1 : g.low ≤ 9000) (c0 : 4500 ≤ g.critical)
    (c1 : g.critical < g.low) (h : g.hysteresis ≤ 1000) (n0 : 4800 ≤ g.nominal) (n1 : g.nominal ≤ 9000) :
    supplySettingsOf g.bytes = some g := by
  have low : num16 g.bytes 0 = g.low := by simp [SupplySettings.bytes, show g.low < 65536 by omega]
  have critical : num16 g.bytes 2 = g.critical := by simp [SupplySettings.bytes, show g.critical < 65536 by omega]
  have hysteresis : num16 g.bytes 4 = g.hysteresis := by simp [SupplySettings.bytes, show g.hysteresis < 65536 by omega]
  have nominal : num16 g.bytes 6 = g.nominal := by
    simp [SupplySettings.bytes, num16_le16_last (show g.nominal < 65536 by omega)]
  simp [supplySettingsOf, low, critical, hysteresis, nominal, l0, l1, c0, c1, h, n0, n1, show g.critical ≤ 9000 by omega]

theorem soundSettingsOf_bytes {g : SoundSettings} (m : g.masterGain ≤ 256) (i : g.idleOff ≤ 65535) :
    soundSettingsOf g.bytes = some g := by
  have gain : num16 g.bytes 0 = g.masterGain := by simp [SoundSettings.bytes, show g.masterGain < 65536 by omega]
  have idle : num16 g.bytes 2 = g.idleOff := by
    simp [SoundSettings.bytes, num16_le16_last (show g.idleOff < 65536 by omega)]
  simp [soundSettingsOf, gain, idle, m]

theorem ceilingsOf_bytes {a b : Nat} (a0 : 8 ≤ a) (a1 : a ≤ 48) (b0 : 8 ≤ b) (b1 : b ≤ 48) (sum : a + b ≤ 96) :
    ceilingsOf [BitVec.ofNat 8 a, BitVec.ofNat 8 b] = some (a, b) := by
  have ra : num8 [BitVec.ofNat 8 a, BitVec.ofNat 8 b] 0 = a := by simp; omega
  have rb : num8 [BitVec.ofNat 8 a, BitVec.ofNat 8 b] 1 = b := by simp; omega
  simp [ceilingsOf, ra, rb, a0, a1, b0, b1, sum]

/-! ### Reflexes and subscriptions -/

theorem ReflexAction.record_motorReplace (p : Port) (g : RawSegment) :
    (ReflexAction.motorReplace p g).record = 0 :: u8 p.code :: segmentBytes g := by
  simp [ReflexAction.record, segmentBytes, u8]

theorem ReflexAction.record_voicePlay (v : VoiceId) (n : RawNote) :
    (ReflexAction.voicePlay v n).record = 2 :: u8 v.val :: noteBytes n := by
  simp [ReflexAction.record, noteBytes, u8]

/-- The fields of a reflex record in front of its action. -/
def Reflex.headBytes (r : Reflex) : List Byte :=
  u8 r.cell.code :: u8 r.condition.code :: (leInt r.t ++ (leInt r.t2 ++ (leInt r.hysteresis ++ [u8 r.mode.code])))

theorem Reflex.loadBytes_eq (r : Reflex) :
    r.loadBytes = r.headBytes ++ (r.action.record ++ (routeBytes r.eventOnFire ++ [u8 r.state.code])) := by
  simp [Reflex.loadBytes, Reflex.headBytes, u8]

/-- The action of a reflex record is read back, with the length of its parameters. -/
theorem reflexActionOf_loadBytes (r : Reflex) :
    reflexActionOf r.loadBytes = some (r.action, r.action.record.length - 1) := by
  rw [r.loadBytes_eq]
  generalize routeBytes r.eventOnFire ++ [u8 r.state.code] = rest
  cases r.action with
  | motorReplace p g =>
    rw [ReflexAction.record_motorReplace]
    have segment : rawSegmentAt (r.headBytes ++ (0 :: u8 p.code :: segmentBytes g ++ rest)) 17 = g :=
      rawSegmentAt_segmentBytes g rest
    show (Port.ofCode (u8 p.code).toNat).map _ = _
    rw [Port.ofCode_u8, Option.map_some, segment]
    rfl
  | motorStop p e lock => cases p <;> cases e <;> cases lock <;> rfl
  | voicePlay v n =>
    rw [ReflexAction.record_voicePlay]
    have note : rawNoteAt (r.headBytes ++ (2 :: u8 v.val :: noteBytes n ++ rest)) 17 = n := rawNoteAt_noteBytes n rest
    show (voiceOfCode (u8 v.val).toNat).map _ = _
    rw [voiceOfCode_u8, Option.map_some, note]
    rfl
  | voiceStop v cut =>
    have voice : voiceOfCode (byteAt (r.headBytes ++ ((ReflexAction.voiceStop v cut).record ++ rest)) 16).toNat = some v :=
      voiceOfCode_u8 v
    show (match voiceOfCode (byteAt (r.headBytes ++ ((ReflexAction.voiceStop v cut).record ++ rest)) 16).toNat,
      boolOf false (if cut then (1 : Byte) else 0).toNat with
      | some v, some cut => some (ReflexAction.voiceStop v cut, 2)
      | _, _ => none) = _
    rw [voice]
    cases cut <;> rfl
  | sendEvent e =>
    show (endpointOf (u8 e.link.code) (u8 e.channel.val)).map _ = _
    rw [endpointOf_endpoint]
    rfl

/-- A code of a state that a LOAD may name. -/
theorem loadedReflexState_code {st : ReflexState} (h : st ≠ .fired) : loadedReflexState (u8 st.code).toNat = some st := by
  cases st with
  | disabled => rfl
  | armed => rfl
  | fired => exact absurd rfl h

theorem ReflexAction.record_length_pos (a : ReflexAction) : 1 ≤ a.record.length := by cases a <;> simp [ReflexAction.record]

/-- A reflex record is read back, with nothing seen and nothing fired. -/
theorem reflexOf_loadBytes {r : Reflex} (t0 : -2147483648 ≤ r.t) (t1 : r.t ≤ 2147483647) (u0 : -2147483648 ≤ r.t2)
    (u1 : r.t2 ≤ 2147483647) (h : r.hysteresis ≤ 2147483647)
    (ordered : (r.condition = .inside ∨ r.condition = .outside) → r.t ≤ r.t2) (st : r.state ≠ .fired) :
    reflexOf r.loadBytes =
      some { r with lastValue := 0, lastTag := .empty, fireCount := 0, lastOutcome := .nothing } := by
  have pos := r.action.record_length_pos
  have cell : CellId.ofCode (num8 r.loadBytes 0) = some r.cell := by rw [r.loadBytes_eq]; exact CellId.ofCode_u8 r.cell
  have condition : Condition.ofCode (num8 r.loadBytes 1) = some r.condition := by
    rw [r.loadBytes_eq]; exact Condition.ofCode_u8 r.condition
  have mode : ReflexMode.ofCode (num8 r.loadBytes 14) = some r.mode := by
    rw [r.loadBytes_eq]; exact ReflexMode.ofCode_u8 r.mode
  have low : int32 r.loadBytes 2 = r.t := by rw [r.loadBytes_eq]; exact int32_leInt t0 t1 []
  have high : int32 r.loadBytes 6 = r.t2 := by rw [r.loadBytes_eq]; exact int32_leInt u0 u1 []
  have hyst : int32 r.loadBytes 10 = r.hysteresis := by
    rw [r.loadBytes_eq]; exact int32_leInt (n := (r.hysteresis : Int)) (by omega) (by omega) []
  have behind (i : Nat) : byteAt r.loadBytes (16 + (r.action.record.length - 1) + i) =
      byteAt (routeBytes r.eventOnFire ++ [u8 r.state.code]) i := by
    have offset : 16 + (r.action.record.length - 1) + i = (r.headBytes ++ r.action.record).length + i := by
      rw [List.length_append, show r.headBytes.length = 15 from rfl]; omega
    rw [r.loadBytes_eq, ← List.append_assoc, offset, byteAt_append]
  have route : routeOf (byteAt r.loadBytes (16 + (r.action.record.length - 1)))
      (byteAt r.loadBytes (17 + (r.action.record.length - 1))) = some r.eventOnFire := by
    rw [show 17 + (r.action.record.length - 1) = 16 + (r.action.record.length - 1) + 1 by omega, behind 1
      , ← Nat.add_zero (16 + (r.action.record.length - 1)), behind 0]
    cases r.eventOnFire with
    | none => rfl
    | some e => exact routeOf_endpoint e
  have state : loadedReflexState (num8 r.loadBytes (18 + (r.action.record.length - 1))) = some r.state := by
    rw [num8, show 18 + (r.action.record.length - 1) = 16 + (r.action.record.length - 1) + 2 by omega, behind 2]
    cases r.eventOnFire <;> exact loadedReflexState_code st
  have length : r.loadBytes.length = 19 + (r.action.record.length - 1) := by
    rw [r.loadBytes_eq]
    cases r.eventOnFire <;> simp [routeBytes, show r.headBytes.length = 15 from rfl] <;> omega
  have inOrder : (!(decide (r.condition = .inside) || decide (r.condition = .outside)) || decide (r.t ≤ r.t2)) = true := by
    by_cases c : r.condition = .inside ∨ r.condition = .outside
    · simp [ordered c]
    · obtain ⟨c1, c2⟩ := not_or.mp c
      simp [c1, c2]
  simp only [reflexOf, cell, condition, mode, reflexActionOf_loadBytes, route, state, low, high, hyst, inOrder]
  simp [length]

/-- A subscription record is read back, with nothing reported, owing a report where it is ACTIVE. -/
theorem subscriptionOf_loadBytes {b : Subscription} (p0 : 10 ≤ b.period) (p1 : b.period ≤ 60000)
    (d : b.deadband ≤ 2147483647) (m0 : 10 ≤ b.minInterval) (m1 : b.minInterval ≤ 1000) :
    subscriptionOf b.loadBytes = some
      { b with lastValue := 0, lastTag := .empty, lastReport := none, nextExpiry := none, pending := b.active, skipped := 0
               attemptDue := false } := by
  have bytes : b.loadBytes = u8 b.cell.code :: u8 b.target.link.code :: u8 b.target.channel.val :: u8 b.mode.code ::
      (le16 b.period ++ (leInt b.deadband ++ (le16 b.minInterval ++ [u8 (boolCode !b.active)]))) := by
    cases h : b.active <;> simp [Subscription.loadBytes, u8, boolCode, h]
  have cell : CellId.ofCode (num8 b.loadBytes 0) = some b.cell := by rw [bytes]; exact CellId.ofCode_u8 b.cell
  have target : endpointOf (byteAt b.loadBytes 1) (byteAt b.loadBytes 2) = some b.target := by
    rw [bytes]; exact endpointOf_endpoint b.target
  have mode : SubMode.ofCode (num8 b.loadBytes 3) = some b.mode := by rw [bytes]; exact SubMode.ofCode_u8 b.mode
  have active : boolOf true (num8 b.loadBytes 12) = some b.active := by rw [bytes]; exact boolOf_true_u8 b.active
  have period : num16 b.loadBytes 4 = b.period := by rw [bytes]; exact num16_le16 (by omega) []
  have deadband : int32 b.loadBytes 6 = b.deadband := by
    rw [bytes]; exact int32_leInt (n := (b.deadband : Int)) (by omega) (by omega) []
  have interval : num16 b.loadBytes 10 = b.minInterval := by rw [bytes]; exact num16_le16 (by omega) []
  have clampP : clampNat 10 60000 b.period = b.period := by simp [clampNat, p0, p1]
  have clampM : clampNat 10 1000 b.minInterval = b.minInterval := by simp [clampNat, m0, m1]
  simp [subscriptionOf, cell, target, mode, active, period, deadband, interval, clampP, clampM]

/-- Settles O31: every record is read field by field at the offset where its encoder put the field. -/
theorem tableRecordsAreReadBack : Obligations.TableRecordsAreReadBack := by
  refine ⟨routeEntryOf_bytes, fun e c0 c1 r0 r1 p i f => classEntryOf_bytes c0 c1 r0 r1 p i f
    , fun g h => motorSettingsOf_bytes h, fun g a0 a1 p m => portSettingsOf_bytes a0 a1 p m
    , fun t l0 l1 rise vals => calibrationOf_bytes l0 l1 rise vals, fun w range => wavetableOf_bytes range
    , fun e a d s r => envelopeOf_bytes a d s r, fun g l0 l1 c0 c1 h n0 n1 => supplySettingsOf_bytes l0 l1 c0 c1 h n0 n1
    , fun g m i => soundSettingsOf_bytes m i, routeOf_routeBytes
    , fun r t0 t1 u0 u1 h ordered st => reflexOf_loadBytes t0 t1 u0 u1 h ordered st
    , fun b p0 p1 d m0 m1 => ⟨by cases b; rfl, subscriptionOf_loadBytes p0 p1 d m0 m1⟩
    , fun a b a0 a1 b0 b1 sum => ceilingsOf_bytes a0 a1 b0 b1 sum
    , fun r => ⟨rfl, by rw [← List.append_nil (segmentBytes r), rawSegmentAt_segmentBytes]⟩
    , fun r => ⟨rfl, by rw [← List.append_nil (noteBytes r), rawNoteAt_noteBytes]⟩, fun n => rfl, ?_, fun v => rfl⟩
  intro w
  have byte (k : Nat) : u8 (w.toNat / 2 ^ k) = w.extractLsb' k 8 := by
    refine BitVec.eq_of_toNat_eq ?_
    rw [toNat_u8, BitVec.extractLsb'_toNat, Nat.shiftRight_eq_div_pow]
  have b0 := byte 0
  have b1 := byte 8
  have b2 := byte 16
  have b3 := byte 24
  norm_num at b0 b1 b2 b3
  rw [le32, b0, b1, b2, b3]

end Sys2Proof.Machine
end

section
/-!
The management unit (chapter 12): how a request without a chain of its own is answered, and the requests that read, clear and set
(O26, O28, O29).
-/
namespace Sys2Proof.Machine

/-! ## Requests as they are carried out -/

/-- `s` while the request of `o` is carried out. -/
def State.underway (s : State) (o : Origin) : State := { s with mgmt := { s.mgmt with inProgress := some o.link } }

/-- `s` while the request of `o` is carried out whose reply took `n` pages. -/
def State.begun (s : State) (o : Origin) (n : Nat) : State := (s.withFree (s.free - n)).underway o

/-- `s` after `n` pages for a reply left free, where it needs any. -/
def State.extended (s : State) (n : Nat) : State := if n = 0 then s else s.withFree (s.free - n)

theorem extendChain_awaits {s : State} {q r : Nat} (hu : s.unobserved = []) (small : s.free ≤ 128) :
    Awaits (s.extended (r - q)) (extendChain q r s) := by
  unfold extendChain State.extended
  by_cases h : q < r
  · rw [if_pos h, if_neg (by omega)]
    exact (Awaits.of_nil (s := { s with free := s.free - (r - q) }) hu).writeFree (show s.free - (r - q) ≤ _ by omega)
  · rw [if_neg h, if_pos (by omega)]
    exact .of_nil hu

/-- What a request whose status in `s` is OK does to `b`, and any other does not. -/
def madeEffect (q : Option Request) (band : Band) (raw : RawSample) (s b : State) : State :=
  match q with
  | some q => if q.check s = .ok then q.effect band raw b else b
  | none => b

/-- A request is carried out whose effect, with the writes that follow it, leaves `t`. -/
theorem carryOut_eq {o : Origin} {code : Byte} {q : Option Request} {pages : Nat} {band : Band} {raw : RawSample}
    {leave : State → State} {s t : State} {payload : List Byte} (hu : s.unobserved = []) (small : s.free ≤ 128)
    (hp : requestReply code q s = payload)
    (effect : ∀ b, Awaits ((s.extended (pagesOf payload.length - pages)).underway o) b →
      drain (madeEffect q band raw s b) = t) :
    carryOut o code q pages band raw leave s =
      release (pages - pagesOf payload.length) (pushUrgent o.link (replyTo o payload) (leave (endProgress t))) := by
  have begun := (extendChain_awaits (q := pages) (r := pagesOf payload.length) hu small).map (f := (State.underway · o))
    fun _ => rfl
  have made := effect _ begun
  have same : carryOut o code q pages band raw leave s = release (pages - pagesOf payload.length)
      (pushUrgent o.link (replyTo o payload) (leave (endProgress (drain (madeEffect q band raw s
        ((extendChain pages (pagesOf payload.length) s).underway o)))))) := by
    subst hp
    cases q with
    | none => rfl
    | some q =>
      by_cases ok : q.check s = .ok
      · simp only [carryOut, requestStatus, madeEffect, ok, decide_true, if_true]
        rfl
      · simp only [carryOut, requestStatus, madeEffect, ok, decide_false, Bool.false_eq_true, if_false]
        rfl
  rw [same, made]

/-- A request without a chain of its own that is answered (R14, R186): what its effect leaves, and the reply behind it. -/
theorem directRequest_leaves {o : Origin} {q : Request} {band : Band} {raw : RawSample} {s v : State} {payload : List Byte}
    (hq : s.quiet) (hne : q ≠ .hubReset) (hp : requestReply q.code (some q) s = payload)
    (ha : s.canAnswer o payload.length)
    (effect : ∀ b, Awaits (s.begun o (pagesOf payload.length)) b → drain (madeEffect (some q) band raw s b) = v)
    (hv : v.unobserved = []) :
    run (directRequest o q band raw) s = .next (pushUrgent o.link (replyTo o payload) (endProgress v)) := by
  obtain ⟨hs, hc, -⟩ := hq
  obtain ⟨taken, up, pages, room⟩ := ha
  have pos := pagesOf_pos payload.length
  have waits : replyWaits o.link 0 (pagesOf (requestReply q.code (some q) s).length) s = false := by
    rw [hp]
    simp only [replyWaits, Bool.or_eq_false_iff, decide_eq_false_iff_not]
    omega
  have notReset : (some q = some Request.hubReset) ↔ False := by simpa using hne
  have carried : directRequest o q band raw s = carryOut o q.code (some q) 0 band raw id s := by
    simp only [directRequest, consider, taken, Option.isSome_none, Bool.false_eq_true, if_false, up, Bool.not_true, notReset
      , waits]
  have extended : s.extended (pagesOf payload.length - 0) = s.withFree (s.free - pagesOf payload.length) := by
    rw [State.extended, if_neg (by omega), Nat.sub_zero]
  have out : directRequest o q band raw s = pushUrgent o.link (replyTo o payload) (endProgress v) := by
    rw [carried, carryOut_eq hs.2 hc.free_le hp (by rw [extended]; exact effect), Nat.zero_sub]
    rfl
  exact run_eq_of_nil hs out hv

/-- A request whose effect is as if it came ahead of the request: then the reply's pages leave free, and it joins its queue. -/
theorem directRequest_run {o : Origin} {q : Request} {band : Band} {raw : RawSample} {s t : State} {payload : List Byte}
    (hq : s.quiet) (hne : q ≠ .hubReset) (hp : requestReply q.code (some q) s = payload)
    (ha : s.canAnswer o payload.length)
    (effect : ∀ b, Awaits (s.begun o (pagesOf payload.length)) b →
      drain (madeEffect (some q) band raw s b) = t.begun o (pagesOf payload.length)) (ht : t.unobserved = []) :
    run (directRequest o q band raw) s = .next (t.answered o payload) :=
  directRequest_leaves (v := t.begun o (pagesOf payload.length)) hq hne hp ha effect ht

/-- A request that fails a check is answered with its status and changes nothing (R187). -/
theorem directRequest_refused {o : Origin} {q : Request} {band : Band} {raw : RawSample} {s : State} {st : Status}
    (hq : s.quiet) (hne : q ≠ .hubReset) (hst : q.check s = st) (bad : st ≠ .ok) (ha : s.canAnswer o 2) :
    run (directRequest o q band raw) s = .next (s.answered o [q.code, BitVec.ofNat 8 st.code]) := by
  have reply : requestReply q.code (some q) s = [q.code, BitVec.ofNat 8 st.code] := by
    simp only [requestReply, requestStatus, hst, replyPayload, bad, if_false]
    rfl
  refine directRequest_run hq hne reply ha (fun b hb => ?_) hq.1.2
  simp only [madeEffect, hst, bad, if_false]
  exact hb.drain hq.1.2 hq.2.2

/-- The payload of the reply to a request whose checks hold. -/
theorem requestReply_ok {q : Request} {s : State} (ok : q.check s = .ok) :
    requestReply q.code (some q) s = q.code :: 0 :: q.result s := by
  simp only [requestReply, requestStatus, ok, replyPayload, if_true]
  rfl

/-- A request whose effect makes no write is answered OK: the effect, and then the reply. -/
theorem directRequest_ok {o : Origin} {q : Request} {band : Band} {raw : RawSample} {s t : State} {result : List Byte}
    (hq : s.quiet) (hne : q ≠ .hubReset) (ok : q.check s = .ok) (hr : q.result s = result)
    (ha : s.canAnswer o (result.length + 2))
    (effect : ∀ n ws, q.effect band raw ((s.begun o n).withWrites ws) = (t.begun o n).withWrites ws)
    (ht : t.unobserved = []) (hi : t.ignores (.sys 3)) :
    run (directRequest o q band raw) s = .next (t.answered o (q.code :: 0 :: result)) := by
  refine directRequest_run hq hne (by rw [requestReply_ok ok, hr]) ha (fun b hb => ?_) ht
  have made : Awaits (t.begun o (pagesOf (result.length + 2))) (madeEffect (some q) band raw s b) := by
    obtain ⟨ws, hw, rfl⟩ := hb
    simp only [madeEffect, ok, if_true]
    exact ⟨ws, hw, effect _ ws⟩
  exact made.drain ht hi

/-! ## IDENTIFY, and the reads that clear -/

/-- Settles O26. -/
theorem identifyAnswersWithTheHubsCodes : Obligations.IdentifyAnswersWithTheHubsCodes := fun _ s hq ha =>
  directRequest_ok (q := .identify) (band := 7) (raw := 0) (t := s) hq (by decide) rfl
    (show identifyBytes = _ by decide) ha (fun _ _ => rfl) hq.1.2 hq.2.2

theorem finOf_ofNat {n : Nat} (i : Fin n) (h : n ≤ 256) : finOf n (BitVec.ofNat 8 i.val).toNat = some i := by
  have lt := i.isLt
  have code : (BitVec.ofNat 8 i.val).toNat = i.val := by rw [BitVec.toNat_ofNat]; omega
  simp only [code, finOf, lt, dite_true]

theorem portCode_lt (p : Port) : p.code < 6 := by cases p <;> decide

theorem toNat_portCode (p : Port) : (BitVec.ofNat 8 p.code).toNat = p.code := by cases p <;> rfl

theorem portOfCode_code (p : Port) : Port.ofCode p.code = some p := by cases p <;> rfl

theorem portIndex_code (p : Port) : portIndex p.code = p := by cases p <;> rfl

theorem toNat_linkCode (l : Link) : (BitVec.ofNat 8 l.code).toNat = l.code := by cases l <;> rfl

theorem linkOfCode_code (l : Link) : Link.ofCode l.code = some l := by cases l <;> rfl

/-- The mixer's gain as the supply's state caps it (R133). -/
theorem effectiveGain_eq (s : State) : effectiveGain s = min s.sound.masterGain (gainCapOf s.supply.state) := by
  unfold effectiveGain
  cases s.supply.state <;> rfl

theorem le16_length (n : Nat) : (le16 n).length = 2 := rfl

theorem Request.check_read {t i : Byte} {tab : Table} {bs : List Byte} {s : State} (ht : Table.ofCode t.toNat = some tab)
    (hi : i.toNat < tab.entries) (hr : readTable tab i.toNat s = some bs) : (Request.read t i).check s = .ok := by
  simp only [Request.check, ht, if_neg (Nat.not_le.mpr hi), hr, Option.isSome_some, if_true]

theorem Request.result_read {t i : Byte} {tab : Table} {bs : List Byte} {s : State} (ht : Table.ofCode t.toNat = some tab)
    (hr : readTable tab i.toNat s = some bs) : (Request.read t i).result s = bs := by
  show ((Table.ofCode t.toNat).bind fun t => readTable t i.toNat s).getD [] = bs
  simp only [ht, Option.bind_some, hr, Option.getD_some]

theorem Request.effect_read {t i : Byte} {tab : Table} (ht : Table.ofCode t.toNat = some tab) (band : Band) (raw : RawSample)
    (s : State) : (Request.read t i).effect band raw s = clearRead tab i.toNat s := by
  simp only [Request.effect, ht]

/-- The bytes of a voice's summary (R163). -/
theorem Voice.bytes_eq (r : Voice) : r.bytes =
    [(match r.state with
        | .idle => 0
        | .waitingAmp => 1
        | .playing => 2
        | .releasing => 3
        | .starved => 4), if r.loopOn then 1 else 0, BitVec.ofNat 8 r.notes.length, BitVec.ofNat 8 r.stream.length] ++
      (match r.notes with
        | n :: _ => [match n.kind with
            | .tone => 0
            | .stream => 1
            | .rest => 2, n.tag]
        | [] => [255, 0]) ++ le16 r.overflows ++ le16 r.underruns ++ le16 r.formatErrors := by
  have state : u8 r.state.code = (match r.state with
      | .idle => 0
      | .waitingAmp => 1
      | .playing => 2
      | .releasing => 3
      | .starved => 4) := by cases r.state <;> rfl
  have loop : u8 (boolCode r.loopOn) = if r.loopOn then 1 else 0 := by cases r.loopOn <;> rfl
  rw [Voice.bytes, state, loop]
  cases r.notes with
  | nil => rfl
  | cons n rest =>
    have kind : u8 n.kind.code = (match n.kind with
        | .tone => 0
        | .stream => 1
        | .rest => 2) := by cases n.kind <;> rfl
    simp only [kind]
    rfl

theorem Voice.bytes_length (r : Voice) : r.bytes.length = 12 := by
  unfold Voice.bytes
  cases r.notes <;> rfl

/-- Settles O28. -/
theorem clearingReadsClearWhatTheyRead : Obligations.ClearingReadsClearWhatTheyRead := by
  intro o s hq
  refine ⟨fun v ha => ?voice, fun i hi ha => ?badVoice, fun ha => ?mixer, fun p ha => ?flags, fun ha => ?attention
    , fun l ha => ?counters⟩
  case voice =>
    have fin := finOf_ofNat v (by decide)
    have reads : readTable .voice (BitVec.ofNat 8 v.val).toNat s = some (s.voice v).bytes := by
      simp only [readTable, fin, Option.map_some]
    have index : (BitVec.ofNat 8 v.val).toNat < 4 := by have := v.isLt; rw [BitVec.toNat_ofNat]; omega
    have key := directRequest_ok (q := .read 15 (BitVec.ofNat 8 v.val)) (band := 7) (raw := 0)
      (t := s.setVoice v { s.voice v with overflows := 0, underruns := 0, formatErrors := 0 }) hq (by simp)
      (Request.check_read (tab := .voice) rfl index reads) (Request.result_read (tab := .voice) rfl reads)
      (by rw [Voice.bytes_length]; exact ha)
      (fun n ws => by
        rw [Request.effect_read (tab := .voice) rfl, clearRead, fin]
        rfl) hq.1.2 hq.2.2
    rw [Voice.bytes_eq] at key
    exact key
  case badVoice =>
    refine directRequest_refused (q := .read 15 i) hq (by simp) (st := .badIndex) ?_ (by decide) ha
    exact if_pos hi
  case mixer =>
    have reads : readTable .mixer 0 s = some ([u8 s.amp.code] ++ le16 (effectiveGain s) ++ le16 s.clips) := rfl
    have amp : u8 s.amp.code = (match s.amp with
        | .off => 0
        | .warming _ => 1
        | .on => 2) := by cases s.amp <;> rfl
    have key := directRequest_ok (q := .read 16 0) (band := 7) (raw := 0) (t := { s with clips := 0 }) hq (by simp)
      (Request.check_read (tab := .mixer) rfl (by decide) reads) (Request.result_read (tab := .mixer) rfl reads) ha
      (fun n ws => rfl) hq.1.2 hq.2.2
    rw [effectiveGain_eq, amp] at key
    exact key
  case flags =>
    have check : (Request.readFlags (BitVec.ofNat 8 p.code)).check s = .ok := by
      simp only [Request.check, toNat_portCode, portCode_lt, if_true]
    have result : (Request.readFlags (BitVec.ofNat 8 p.code)).result s =
        [(s.flag p).flags.zeroExtend 8, (s.flag p).mask.zeroExtend 8] := by
      show [(s.flag (portIndex (BitVec.ofNat 8 p.code).toNat)).flags.zeroExtend 8, _] = _
      rw [toNat_portCode, portIndex_code]
    refine directRequest_ok (q := .readFlags (BitVec.ofNat 8 p.code)) (band := 7) (raw := 0)
      (t := s.setFlagRec p { s.flag p with flags := 0, due := 0 }) hq (by simp) check result ha (fun n ws => ?_) hq.1.2 hq.2.2
    simp only [Request.effect, toNat_portCode, portIndex_code]
    rfl
  case attention =>
    exact directRequest_ok (q := .readAttention) (band := 7) (raw := 0) (t := { s with attention := { s.attention with latches := 0 } }) hq (by simp)
      rfl rfl ha (fun n ws => rfl) hq.1.2 hq.2.2
  case counters =>
    have check : (Request.readCounters (BitVec.ofNat 8 l.code)).check s = .ok := by cases l <;> rfl
    have result : (Request.readCounters (BitVec.ofNat 8 l.code)).result s = (s.link l).counters.bytes := by
      show (match Link.ofCode (BitVec.ofNat 8 l.code).toNat with
        | some l => (s.link l).counters.bytes
        | none => []) = _
      rw [toNat_linkCode, linkOfCode_code]
    refine directRequest_ok (q := .readCounters (BitVec.ofNat 8 l.code)) (band := 7) (raw := 0)
      (t := s.setLink l { s.link l with counters := LinkCounters.zero }) hq (by simp) check result ha (fun n ws => ?_)
      hq.1.2 hq.2.2
    simp only [Request.effect, toNat_linkCode, linkOfCode_code]
    rfl

end Sys2Proof.Machine
end

section
/-!
Notices and events (R12, R26, R48, R90, R108, R109): a unit's operation as what it says, beside the writes of S3 that wait, the
reflexes that note a write of a cell, and a request that may be carried out.
-/
namespace Sys2Proof.Machine

/-! ## A hub as its units see it -/

/-- What a unit acts within: a command of its own, a request that came as a command, with one page for its reply, or a request of
the management queue, whose chain becomes its reply's. -/
inductive Phase where
  | alone
  | direct (o : Origin)
  | queued (o : Origin)

/-- `t` as a unit sees it in a phase. -/
def State.seen (t : State) (o : Phase) : State :=
  match o with
  | .alone => t
  | .direct o => t.begun o 1
  | .queued o => t.underway o

/-- `t` with other reflexes. -/
def State.withReflexes (t : State) (r : Vector Reflex 16) : State := { t with reflexes := r }

/-- Nothing watches a cell, for reflexes and subscriptions. -/
def Unwatched (r : Vector Reflex 16) (b : Vector Subscription 24) (c : CellId) : Prop :=
  (∀ i : Fin 16, (r.get i).cell ≠ c) ∧ ∀ i : Fin 24, (b.get i).active = true → (b.get i).cell ≠ c

/-- `u` is `t` as a unit sees it, with reflexes `r` that may have noted a write, and with writes of S3 that wait. Where `c` holds
the unit may hand over `k` notices and events more, each of which is placed as `State.handed` says. -/
structure Reporting (c : Prop) (o : Phase) (r : Vector Reflex 16) (k : Nat) (t u : State) : Prop where
  awaits : Awaits ((t.seen o).withReflexes r) u
  still : ¬ c → o = .alone → u.unobserved = []
  unwatched : c ∨ o ≠ .alone → Unwatched r t.subs (.sys 3)
  ready : c → t.mgmt.inProgress = none ∧ t.free ≤ 128 ∧
    (∀ x, o = .direct x → k + 1 ≤ t.free ∧ (t.link x.link).urgent.length + k < 8) ∧ ∀ x, o ≠ .queued x
  settled : t.unobserved = []

variable {c : Prop} {o : Phase} {r : Vector Reflex 16} {k : Nat} {s t u : State}

/-- A command of a hub that runs begins. -/
theorem Reporting.of_settled (hs : s.settled) (hc : c → s.reports) : Reporting c .alone s.reflexes k s s where
  awaits := .of_nil hs.2
  still _ _ := hs.2
  unwatched h := (hc (h.resolve_right (by simp))).1.2.2
  ready h := ⟨(hc h).2, (hc h).1.2.1.free_le, by simp, by simp⟩
  settled := hs.2

/-- The effect of a request begins. -/
theorem Reporting.of_begun {x : Origin} (hq : s.quiet) (h : Awaits (s.begun x 1) u)
    (hc : c → s.mgmt.inProgress = none ∧ k + 1 ≤ s.free ∧ (s.link x.link).urgent.length + k < 8) :
    Reporting c (.direct x) s.reflexes k s u where
  awaits := h
  still _ hn := by simp at hn
  unwatched _ := hq.2.2
  ready h := ⟨(hc h).1, hq.2.1.free_le, fun y hy => by obtain rfl := Phase.direct.inj hy; exact (hc h).2, by simp⟩
  settled := hq.1.2

/-- The effect of a request of the management queue begins, which hands nothing over. -/
theorem Reporting.of_underway {x : Origin} (hq : s.quiet) (h : Awaits (s.underway x) u) :
    Reporting False (.queued x) s.reflexes k s u where
  awaits := h
  still _ hn := by simp at hn
  unwatched _ := hq.2.2
  ready := False.elim
  settled := hq.1.2

theorem Reporting.less (h : Reporting c o r (k + 1) t u) : Reporting c o r k t u where
  awaits := h.awaits
  still := h.still
  unwatched := h.unwatched
  ready hc := by
    obtain ⟨idle, small, room, own⟩ := h.ready hc
    exact ⟨idle, small, fun x hx => by have := room x hx; omega, own⟩
  settled := h.settled

/-- An operation on parts of the hub that neither the pool nor the reply of a request has a part in. -/
theorem Reporting.map {f : State → State} (h : Reporting c o r k t u)
    (hf : ∀ ws, f (((t.seen o).withReflexes r).withWrites ws) = (((f t).seen o).withReflexes r).withWrites ws)
    (hfree : (f t).free = t.free) (hm : (f t).mgmt = t.mgmt) (hl : (f t).links = t.links) (hs : (f t).subs = t.subs)
    (hu : (f t).unobserved = t.unobserved) : Reporting c o r k (f t) (f u) where
  awaits := by
    obtain ⟨ws, hw, e⟩ := h.awaits
    exact ⟨ws, hw, by rw [e, hf]⟩
  still hc ho := by
    obtain ⟨ws, hw, e⟩ := h.awaits
    have := h.still hc ho
    rw [e, hf]
    rw [e] at this
    exact this
  unwatched hc := by rw [hs]; exact h.unwatched hc
  ready hc := by simpa only [hm, hfree, State.link, hl] using h.ready hc
  settled := hu.trans h.settled

/-- What a unit reads that is no part of the pool, of a reflex or of a request. -/
theorem Reporting.reads {α : Type} {g : State → α} (h : Reporting c o r k t u)
    (hg : ∀ ws, g (((t.seen o).withReflexes r).withWrites ws) = g t) : g u = g t := by
  obtain ⟨ws, -, rfl⟩ := h.awaits
  exact hg ws

theorem Reporting.hubTime (h : Reporting c o r k t u) : u.hubTime = t.hubTime :=
  h.reads (g := State.hubTime) fun _ => by cases o <;> rfl

theorem Reporting.port (h : Reporting c o r k t u) (p : Port) : u.port p = t.port p :=
  h.reads (g := (State.port · p)) fun _ => by cases o <;> rfl

theorem Reporting.acquisition (h : Reporting c o r k t u) (p : Port) : u.acquisition p = t.acquisition p :=
  h.reads (g := (State.acquisition · p)) fun _ => by cases o <;> rfl

theorem Reporting.flag (h : Reporting c o r k t u) (p : Port) : u.flag p = t.flag p :=
  h.reads (g := (State.flag · p)) fun _ => by cases o <;> rfl

theorem Reporting.motor (h : Reporting c o r k t u) (p : Port) : u.motor p = t.motor p :=
  h.reads (g := (State.motor · p)) fun _ => by cases o <;> rfl

theorem Reporting.portCell (h : Reporting c o r k t u) (p : Port) (i : Fin 4) : u.cell (.port p i) = t.cell (.port p i) :=
  h.reads (g := (State.cell · (.port p i))) fun _ => by cases o <;> rfl

theorem Reporting.classes (h : Reporting c o r k t u) : u.classes = t.classes :=
  h.reads (g := State.classes) fun _ => by cases o <;> rfl

theorem Reporting.setPort (h : Reporting c o r k t u) (p : Port) (x : PortRec) :
    Reporting c o r k (t.setPort p x) (u.setPort p x) :=
  h.map (f := (State.setPort · p x)) (fun _ => by cases o <;> rfl) rfl rfl rfl rfl rfl

theorem Reporting.setAcq (h : Reporting c o r k t u) (p : Port) (x : Acquisition) :
    Reporting c o r k (t.setAcq p x) (u.setAcq p x) :=
  h.map (f := (State.setAcq · p x)) (fun _ => by cases o <;> rfl) rfl rfl rfl rfl rfl

theorem Reporting.setFlagRec (h : Reporting c o r k t u) (p : Port) (x : FlagRec) :
    Reporting c o r k (t.setFlagRec p x) (u.setFlagRec p x) :=
  h.map (f := (State.setFlagRec · p x)) (fun _ => by cases o <;> rfl) rfl rfl rfl rfl rfl

theorem Reporting.setMotor (h : Reporting c o r k t u) (p : Port) (x : Option Motor) :
    Reporting c o r k (t.setMotor p x) (u.setMotor p x) :=
  h.map (f := (State.setMotor · p x)) (fun _ => by cases o <;> rfl) rfl rfl rfl rfl rfl

theorem Reporting.setPortCell (h : Reporting c o r k t u) (p : Port) (i : Fin 4) (x : Cell) :
    Reporting c o r k (t.setCell (.port p i) x) (u.setCell (.port p i) x) :=
  h.map (f := (State.setCell · (.port p i) x)) (fun _ => by cases o <;> rfl) rfl rfl rfl rfl rfl

theorem Reporting.setLatch (h : Reporting c o r k t u) (n : Nat) : Reporting c o r k (t.latched n) (setLatch n u) := by
  rw [setLatch_eq]
  exact h.map (f := (State.latched · n)) (fun _ => by cases o <;> rfl) rfl rfl rfl rfl rfl

/-! ## Handing over -/

/-- What a notice or an event leaves as it was. -/
theorem State.handed_keeps (t : State) (l : Link) (f : Frame) : (t.handed l f).mgmt = t.mgmt ∧ (t.handed l f).subs = t.subs ∧
    (t.handed l f).unobserved = t.unobserved ∧ (t.handed l f).free ≤ t.free ∧ t.free ≤ (t.handed l f).free + 1 ∧
    ∀ x, ((t.handed l f).link x).urgent.length ≤ (t.link x).urgent.length + 1 := by
  unfold State.handed
  dsimp only
  split
  · exact ⟨rfl, rfl, rfl, Nat.le_refl _, Nat.le_succ _, fun x => by cases x <;> cases l <;> exact Nat.le_succ _⟩
  · split
    · exact ⟨rfl, rfl, rfl, Nat.le_refl _, Nat.le_succ _, fun x => by cases x <;> cases l <;> exact Nat.le_succ _⟩
    · refine ⟨rfl, rfl, rfl, Nat.sub_le .., ?_, fun x => ?_⟩
      · show t.free ≤ t.free - 1 + 1; omega
      · cases x <;> cases l
        · exact Nat.le_of_eq (List.length_append ..)
        · exact Nat.le_succ _
        · exact Nat.le_succ _
        · exact Nat.le_of_eq (List.length_append ..)

/-- A notice or an event that a request causes, where its place beside the reply is free, comes as if ahead of the request. -/
theorem placeUrgent_begun {x : Origin} {l : Link} {f : Frame} {ws : List Write} (hw : ∀ w ∈ ws, w.cell = .sys 3)
    (small : t.free ≤ 128) (pages : 2 ≤ t.free) (room : (t.link x.link).urgent.length < 7) :
    Awaits (((t.handed l f).begun x 1).withReflexes r)
      (placeUrgent l f (((t.begun x 1).withReflexes r).withWrites ws)) := by
  have rooms : urgentRoom l (((t.begun x 1).withReflexes r).withWrites ws) = decide ((t.link l).urgent.length < 8) := by
    have reads : urgentRoom l (((t.begun x 1).withReflexes r).withWrites ws) =
        decide ((t.link l).urgent.length + (if some x.link = some l then 1 else 0) < 8) := rfl
    rw [reads]
    by_cases e : x.link = l
    · subst e
      simp only [if_true, decide_eq_decide]
      omega
    · simp [e]
  have free : (((t.begun x 1).withReflexes r).withWrites ws).free = t.free - 1 := rfl
  by_cases hu : (t.link l).up = false
  · rw [State.handed, if_pos hu, placeUrgent_down f (s := ((t.begun x 1).withReflexes r).withWrites ws) hu]
    exact ⟨ws, hw, rfl⟩
  · have up : (t.link l).up = true := by simpa using hu
    by_cases hr : 8 ≤ (t.link l).urgent.length
    · rw [State.handed, if_neg hu, if_pos (.inr hr)
        , placeUrgent_full f (s := ((t.begun x 1).withReflexes r).withWrites ws) up]
      · exact ⟨ws, hw, rfl⟩
      · rw [rooms, decide_eq_true_eq]; omega
    · rw [State.handed, if_neg hu, if_neg (by omega)
        , placeUrgent_room f (s := ((t.begun x 1).withReflexes r).withWrites ws) up]
      · exact .append (t := (((t.withFree (t.free - 1)).withUrgent l f).begun x 1).withReflexes r) hw
      · rw [free]; omega
      · rw [rooms, decide_eq_true_eq]; omega
      · rw [free]; omega

theorem Reporting.placeUrgent {l : Link} {f : Frame} (h : Reporting c o r (k + 1) t u) (hc : c) :
    Reporting c o r k (t.handed l f) (placeUrgent l f u) := by
  obtain ⟨mgmt, subs, unobserved, le, ge, urgent⟩ := t.handed_keeps l f
  obtain ⟨idle, small, room, own⟩ := h.ready hc
  refine ⟨?_, fun hn => absurd hc hn, by rw [subs]; exact h.unwatched, fun _ => ⟨by rw [mgmt]; exact idle, by omega, ?_, own⟩
    , unobserved.trans h.settled⟩
  · obtain ⟨ws, hw, rfl⟩ := h.awaits
    cases o with
    | alone =>
      have aw : Awaits (t.withReflexes r) ((t.withReflexes r).withWrites ws) := ⟨ws, hw, rfl⟩
      have same : (t.withReflexes r).handed l f = (t.handed l f).withReflexes r := by
        unfold State.handed
        dsimp only
        simp only [show (t.withReflexes r).link l = t.link l from rfl, show (t.withReflexes r).free = t.free from rfl]
        split
        · rfl
        · split <;> rfl
      exact same ▸ aw.placeUrgent idle (show t.free ≤ 2147483647 by omega)
    | direct x =>
      obtain ⟨pages, places⟩ := room x rfl
      exact placeUrgent_begun hw small (by omega) (by omega)
    | queued x => exact absurd rfl (own x)
  · intro x hx
    obtain ⟨pages, places⟩ := room x hx
    have := urgent x.link
    omega

theorem Reporting.sendNotice {route : Option Endpoint} {tag : Byte} {payload : List Byte} (h : Reporting c o r (k + 1) t u)
    (hc : route = none ∨ c) : Reporting c o r k (t.notice route tag payload) (sendNotice route tag payload u) := by
  cases route with
  | none => exact h.less
  | some e => exact h.placeUrgent (hc.resolve_left (by simp))

theorem Reporting.sendEvent {route : Option Endpoint} {payload : List Byte} (h : Reporting c o r (k + 1) t u)
    (hc : route = none ∨ c) : Reporting c o r k (t.event route payload) (sendEvent route payload u) := by
  cases route with
  | none => exact h.less
  | some e => exact h.placeUrgent (hc.resolve_left (by simp))

/-! ## Motors -/

/-- Ended segments with the codes of their outcomes (R108, R199). -/
def coded (ended : List (Segment × SegOutcome)) : List (Segment × Byte) := ended.map fun e => (e.1, u8 e.2.code)

/-- A motor sends no notice as it goes to `after` with the segments `ended`. -/
abbrev Motor.SilentEnd (after : Motor) (ended : List (Segment × SegOutcome)) : Prop :=
  after.settings.noticeRoute = none ∧ ∀ e ∈ ended, e.1.route = none

theorem Reporting.reportEnded {p : Port} {x : Int} {ended : List (Segment × SegOutcome)} (hc : (∀ e ∈ ended, e.1.route = none) ∨ c)
    (h : Reporting c o r (ended.length + k) t u) :
    Reporting c o r k (t.segmentsReported p x (coded ended)) (Machine.reportEnded p x ended u) := by
  induction ended generalizing t u with
  | nil => simpa [State.segmentsReported, coded, Machine.reportEnded] using h
  | cons e rest ih =>
    have first : Reporting c o r (rest.length + k + 1) t u := by
      have : (e :: rest).length + k = rest.length + k + 1 := by simp only [List.length_cons]; omega
      rwa [this] at h
    have told := first.sendNotice (route := e.1.route) (tag := e.1.tag) (payload := segmentEndPayload p e.1.tag e.2 x t.hubTime)
      (hc.imp_left fun hs => hs e (by simp))
    have behind := ih (hc.imp_left fun hs e he => hs e (by simp [he])) told
    rw [show Machine.reportEnded p x (e :: rest) u = Machine.reportEnded p x rest
      (Machine.sendNotice e.1.route e.1.tag (segmentEndPayload p e.1.tag e.2 x u.hubTime) u) from rfl, first.hubTime]
    exact behind

/-- The LOW_WATER notice of a motor that goes from `m` to `after` with the ended segments (R109). -/
def State.lowWaterReported (t : State) (p : Port) (m after : Motor) (ended : List (Segment × Byte)) : State :=
  match ended with
  | (head, _) :: _ =>
    if after.queue.length < m.queue.length ∧ after.queue.length = after.settings.lowWater ∧ after.settings.lowWater ≠ 0 then
      t.notice after.settings.noticeRoute head.tag
        ([2, BitVec.ofNat 8 p.code, BitVec.ofNat 8 after.queue.length, BitVec.ofNat 8 after.settings.lowWater] ++ le32 t.hubTime)
    else t
  | [] => t

theorem Reporting.reportLowWater {p : Port} {m after : Motor} {ended : List (Segment × SegOutcome)}
    (hc : after.settings.noticeRoute = none ∨ c) (h : Reporting c o r (k + 1) t u) :
    Reporting c o r k (t.lowWaterReported p m after (coded ended)) (Machine.reportLowWater p m after ended u) := by
  cases ended with
  | nil => exact h.less
  | cons e rest =>
    simp only [Machine.reportLowWater, State.lowWaterReported, coded, List.map_cons, Bool.and_eq_true, decide_eq_true_eq
      , and_assoc, h.hubTime]
    split
    · exact h.sendNotice hc
    · exact h.less

/-- A motor whose queue the event has emptied reaches no low-water mark. -/
theorem reportLowWater_empty {p : Port} {m after : Motor} {ended : List (Segment × SegOutcome)} (h : after.queue = []) :
    Machine.reportLowWater p m after ended u = u ∧ t.lowWaterReported p m after (coded ended) = t := by
  have mark : ¬ (0 = after.settings.lowWater ∧ after.settings.lowWater ≠ 0) := by omega
  cases ended with
  | nil => exact ⟨rfl, rfl⟩
  | cons e rest =>
    constructor
    · simp only [Machine.reportLowWater, h, List.length_nil, Bool.and_eq_true, decide_eq_true_eq, and_assoc, mark, and_false
        , if_false]
    · simp only [State.lowWaterReported, coded, List.map_cons, h, List.length_nil, mark, and_false, if_false]

/-- From `s` to `t` nothing changed but the links, free, the system cells and the attention record. -/
def PoolOnly (s t : State) : Prop :=
  ∃ links free sys attention, t = { s with links := links, free := free, sys := sys, attention := attention }

theorem PoolOnly.refl (s : State) : PoolOnly s s := ⟨_, _, _, _, rfl⟩

theorem PoolOnly.trans {s t u : State} (h : PoolOnly s t) (h' : PoolOnly t u) : PoolOnly s u := by
  obtain ⟨_, _, _, _, rfl⟩ := h
  obtain ⟨_, _, _, _, rfl⟩ := h'
  exact ⟨_, _, _, _, rfl⟩

theorem PoolOnly.hubTime {s t : State} (h : PoolOnly s t) : t.hubTime = s.hubTime := by
  obtain ⟨_, _, _, _, rfl⟩ := h
  rfl

theorem PoolOnly.reflexes {s t : State} (h : PoolOnly s t) : t.reflexes = s.reflexes := by
  obtain ⟨_, _, _, _, rfl⟩ := h
  rfl

theorem State.withReflexes_of_eq {s : State} {r : Vector Reflex 16} (h : s.reflexes = r) : s.withReflexes r = s := by
  subst h
  rfl

theorem State.latched_poolOnly (t : State) (n : Nat) : PoolOnly t (t.latched n) := ⟨_, _, _, _, rfl⟩

theorem State.handed_poolOnly (t : State) (l : Link) (f : Frame) : PoolOnly t (t.handed l f) := by
  unfold State.handed
  dsimp only
  split
  · exact ⟨_, _, _, _, rfl⟩
  · split <;> exact ⟨_, _, _, _, rfl⟩

theorem State.notice_poolOnly (t : State) (route : Option Endpoint) (tag : Byte) (payload : List Byte) :
    PoolOnly t (t.notice route tag payload) := by
  cases route with
  | none => exact .refl t
  | some e => exact t.handed_poolOnly ..

theorem State.event_poolOnly (t : State) (route : Option Endpoint) (payload : List Byte) :
    PoolOnly t (t.event route payload) := by
  cases route with
  | none => exact .refl t
  | some e => exact t.handed_poolOnly ..

theorem State.segmentsReported_poolOnly (t : State) (p : Port) (x : Int) (ended : List (Segment × Byte)) :
    PoolOnly t (t.segmentsReported p x ended) := by
  induction ended generalizing t with
  | nil => exact .refl t
  | cons e rest ih => exact (t.notice_poolOnly ..).trans (ih _)

theorem State.lowWaterReported_poolOnly (t : State) (p : Port) (m after : Motor) (ended : List (Segment × Byte)) :
    PoolOnly t (t.lowWaterReported p m after ended) := by
  cases ended with
  | nil => exact .refl t
  | cons e rest =>
    simp only [State.lowWaterReported]
    split
    · exact t.notice_poolOnly ..
    · exact .refl t

theorem State.motorMoved_eq (t : State) (p : Port) (m after : Motor) (ended : List (Segment × Byte)) :
    t.motorMoved p m after ended =
      let v := ((t.setMotor p (some after)).segmentsReported p after.x ended).lowWaterReported p m after ended
      if m.state = after.state then v else v.motorReported p after.state.code m.state.code after := by
  have time : ((t.setMotor p (some after)).segmentsReported p after.x ended).hubTime = t.hubTime :=
    (State.segmentsReported_poolOnly ..).hubTime
  cases ended with
  | nil => rfl
  | cons e rest =>
    simp only [State.motorMoved, State.lowWaterReported, time]

/-- Beside the motor, a change of a motor changes the pool, the links and the attention record. -/
theorem State.motorMoved_poolOnly (t : State) (p : Port) (m after : Motor) (ended : List (Segment × Byte)) :
    PoolOnly (t.setMotor p (some after)) (t.motorMoved p m after ended) := by
  rw [State.motorMoved_eq]
  have low := (State.segmentsReported_poolOnly (t.setMotor p (some after)) p after.x ended).trans
    (State.lowWaterReported_poolOnly _ p m after ended)
  dsimp only
  split
  · exact low
  · exact low.trans (State.notice_poolOnly ..)

theorem Reporting.reportState {p : Port} {new prev : Nat} {m : Motor} (hc : m.settings.noticeRoute = none ∨ c)
    (h : Reporting c o r (k + 1) t u) :
    Reporting c o r k (t.motorReported p new prev m) (Machine.reportState p new prev m u) := by
  have told := h.sendNotice (route := m.settings.noticeRoute) (tag := 0)
    (payload := motorStatePayload p new prev m (u.classes.get m.cls).countsPerRev u.hubTime) hc
  have payload : motorStatePayload p new prev m (t.classes.get m.cls).countsPerRev t.hubTime =
      [3, BitVec.ofNat 8 p.code, BitVec.ofNat 8 new, BitVec.ofNat 8 prev, BitVec.ofNat 8 m.output.code
      , BitVec.ofNat 8 m.queue.length, if m.limitSet then 1 else 0] ++ le16 (t.classes.get m.cls).countsPerRev ++ leInt m.x ++
      le32 t.hubTime := by
    cases h : m.limitSet <;> simp [motorStatePayload, u8, boolCode, h]
  rw [h.hubTime, h.classes, payload] at told
  rw [Machine.reportState, h.hubTime, h.classes, payload]
  exact told

/-- A motor goes to another state of its queue with its notices: those of the ended segments, LOW_WATER where the queue is not
emptied and a segment ended, and MOTOR_STATE (R108, R109). -/
theorem Reporting.moveMotor {p : Port} {m after : Motor} {ended : List (Segment × SegOutcome)} {n : Nat}
    (hc : after.SilentEnd ended ∨ c) (hn : ended.length + (if after.queue = [] ∨ ended = [] then 0 else 1) + 1 + k = n)
    (h : Reporting c o r n t u) :
    Reporting c o r k (t.motorMoved p m after (coded ended)) (Machine.moveMotor p m after ended u) := by
  subst hn
  have put := h.setMotor p (some after)
  have low : Reporting c o r (1 + k)
      (((t.setMotor p (some after)).segmentsReported p after.x (coded ended)).lowWaterReported p m after (coded ended))
      (Machine.reportLowWater p m after ended (Machine.reportEnded p after.x ended (u.setMotor p (some after)))) := by
    by_cases e : after.queue = [] ∨ ended = []
    · rw [if_pos e] at put
      have silent : ∀ v w : State, Machine.reportLowWater p m after ended v = v ∧
          w.lowWaterReported p m after (coded ended) = w := by
        intro v w
        obtain e | rfl := e
        · exact reportLowWater_empty e
        · exact ⟨rfl, rfl⟩
      rw [(silent _ t).1, (silent u _).2]
      exact Reporting.reportEnded (hc.imp_left fun hs => hs.2) (by convert put using 1; omega)
    · rw [if_neg e] at put
      refine Reporting.reportLowWater (hc.imp_left fun hs => hs.1) ?_
      exact Reporting.reportEnded (hc.imp_left fun hs => hs.2) (by convert put using 1; omega)
  rw [State.motorMoved_eq, Machine.moveMotor]
  dsimp only
  rw [show 1 + k = k + 1 by omega] at low
  split
  · exact low.less
  · exact Reporting.reportState (hc.imp_left fun hs => hs.1) low

/-- Every segment of a queue ends, in the terms of the statements. -/
theorem coded_endedAll (q : List Segment) (a : SegOutcome) : coded (endedAll q a) = segmentsEnd (u8 a.code) q := by
  cases q with
  | nil => rfl
  | cons g rest =>
    simp only [coded, endedAll, segmentsEnd, List.map_cons, List.map_map]
    rfl

/-! ## The end of a command -/

theorem Reporting.drain (h : Reporting c o r k t u) : drain u = (t.seen o).withReflexes r := by
  have settled : ((t.seen o).withReflexes r).unobserved = [] := by cases o <;> exact h.settled
  by_cases hc : c ∨ o ≠ .alone
  · refine h.awaits.drain settled ?_
    have := h.unwatched hc
    cases o <;> exact this
  · obtain ⟨hn, ho⟩ := not_or.mp hc
    have ho : o = .alone := by simpa using ho
    have nil := h.still hn ho
    obtain ⟨ws, hw, rfl⟩ := h.awaits
    have : ws = [] := nil
    subst this
    rw [drain_of_nil rfl, State.withWrites_of_nil settled]

/-- A command whose operation is known. -/
theorem Reporting.run {f : State → State} (h : Reporting c .alone r k t (f s)) (hs : s.settled) :
    run f s = .next (t.withReflexes r) := by rw [run_of_settled hs, h.drain]; rfl

/-- A request whose effect hands over notices or writes port cells is answered (R190): the reply stands behind them. -/
theorem directRequest_reports {x : Origin} {q : Request} {band : Band} {raw : RawSample}
    (hq : s.quiet) (hne : q ≠ .hubReset) (ok : q.check s = .ok) (hr : q.result s = []) (ha : s.canAnswer x 2)
    (effect : ∀ b, Awaits (s.begun x 1) b → ∃ c k, Reporting c (.direct x) r k t (q.effect band raw b)) :
    Machine.run (directRequest x q band raw) s = .next ((t.withReflexes r).answered x [q.code, 0]) := by
  have settled : (t.withReflexes r).unobserved = [] := by
    obtain ⟨c, k, h⟩ := effect _ ((Awaits.of_nil (s := s.begun x 1) hq.1.2))
    exact h.settled
  refine directRequest_run (payload := [q.code, 0]) hq hne (by rw [requestReply_ok ok, hr]) ha (fun b hb => ?_) settled
  have one : pagesOf [q.code, 0].length = 1 := by simp [pagesOf]
  rw [one] at hb ⊢
  obtain ⟨c, k, h⟩ := effect b hb
  simp only [madeEffect, ok, if_true]
  exact h.drain

/-- Settles O29. -/
theorem settingRequestsTakeEffect : Obligations.SettingRequestsTakeEffect := by
  intro o s hq ha
  refine ⟨fun mask mode hm => ?attention, fun p mask hm => ?mask, fun i => ?arm, fun p m hm hk hroute => ?unlock⟩
  case attention =>
    have code : LineMode.ofCode (BitVec.ofNat 8 mode.code).toNat = some mode := by cases mode <;> rfl
    refine directRequest_ok (q := .setAttention mask (BitVec.ofNat 8 mode.code)) (band := 7) (raw := 0) hq (by simp) ?_ rfl ha (fun n ws => ?_)
      hq.1.2 hq.2.2
    · simp only [Request.check, code, hm, decide_true, Option.isSome_some, Bool.and_self, if_true]
    · simp only [Request.effect, code, Attention.configured, Bool.and_eq_true, decide_eq_true_eq]
      rfl
  case mask =>
    refine directRequest_ok (q := .setFlagMask (BitVec.ofNat 8 p.code) mask) (band := 7) (raw := 0) (t := s.setFlagRec p { s.flag p with
        mask := mask.truncate 5
        due := ((s.flag p).due &&& mask.truncate 5) ||| ((s.flag p).flags &&& mask.truncate 5 &&& ~~~(s.flag p).mask) })
      hq (by simp) ?_ rfl ha (fun n ws => ?_) hq.1.2 hq.2.2
    · simp only [Request.check, toNat_portCode, if_neg (Nat.not_le.mpr (portCode_lt p)), hm, if_true]
    · simp only [Request.effect, toNat_portCode, portIndex_code]
      rfl
  case arm =>
    have fin := finOf_ofNat i (by decide)
    have index : (BitVec.ofNat 8 i.val).toNat < 16 := by have := i.isLt; rw [BitVec.toNat_ofNat]; omega
    refine directRequest_ok (q := .reflexArm (BitVec.ofNat 8 i.val)) (band := 7) (raw := 0) (t := s.setReflex i { s.reflex i with state := .armed })
      hq (by simp) ?_ rfl ha (fun n ws => ?_) hq.1.2 ?_
    · simp only [Request.check, index, if_true]
    · simp only [Request.effect, fin]
      rfl
    · have watched := hq.2.2
      refine ⟨fun j => ?_, watched.2⟩
      show ((s.reflexes.set i { s.reflex i with state := .armed }).get j).cell ≠ _
      rw [Vector.get_eq_getElem, Vector.getElem_set]
      split
      · exact watched.1 i
      · exact watched.1 j
  case unlock =>
    have key := directRequest_reports (q := .motorUnlock (BitVec.ofNat 8 p.code)) (band := 7) (raw := 0)
      (t := s.motorMoved p m { m with state := .idle } []) (r := s.reflexes) hq (by simp)
      (by simp only [Request.check, toNat_portCode, portOfCode_code, unlockCheck, hm, hk, if_true]) rfl ha fun b hb => by
        have begun := Reporting.of_begun (k := 1) hq hb (c := s.reports ∧ 2 ≤ s.free ∧ (s.link o.link).urgent.length < 7)
          fun h => ⟨h.1.2, h.2.1, Nat.succ_lt_succ h.2.2⟩
        have moved := begun.moveMotor (k := 0) (p := p) (m := m) (after := { m with state := .idle }) (ended := [])
          (hroute.imp_left fun h => ⟨h.1, by simp⟩) (by simp)
        refine ⟨s.reports ∧ 2 ≤ s.free ∧ (s.link o.link).urgent.length < 7, 0, ?_⟩
        have acts : (Request.motorUnlock (BitVec.ofNat 8 p.code)).effect 7 0 b =
            moveMotor p m { m with state := .idle } [] b := by
          simp only [Request.effect, toNat_portCode, portIndex_code]
          exact onMotor_some ((begun.motor p).trans hm)
        rw [acts]
        exact moved
    have kept : (s.motorMoved p m { m with state := .idle } []).reflexes = s.reflexes :=
      (State.motorMoved_poolOnly ..).reflexes
    rwa [State.withReflexes_of_eq kept] at key

end Sys2Proof.Machine
end

section
/-!
Tables (O27, O32, O33, O34): what a READ answers, and what an accepted LOAD leaves.
-/
namespace Sys2Proof.Machine

/-! ## READ -/

/-- A READ of a table that it does not clear is answered with the entry. -/
theorem read_run {o : Origin} {t i : Byte} {tab : Table} {bs : List Byte} {s : State} (hq : s.quiet)
    (ht : Table.ofCode t.toNat = some tab) (hv : tab ≠ .voice) (hm : tab ≠ .mixer) (hi : i.toNat < tab.entries)
    (hr : readTable tab i.toNat s = some bs) (ha : s.canAnswer o (bs.length + 2)) :
    exec (.read o t i) s = .next (s.answered o (3 :: 0 :: bs)) := by
  have clears (b : State) : clearRead tab i.toNat b = b := by
    cases tab with
    | voice => exact absurd rfl hv
    | mixer => exact absurd rfl hm
    | _ => rfl
  exact directRequest_ok (q := .read t i) (band := 7) (raw := 0) hq (by simp) (Request.check_read ht hi hr)
    (Request.result_read ht hr) ha (fun n ws => (Request.effect_read ht ..).trans (clears _)) hq.1.2 hq.2.2

/-- A READ of an entry that is not there. -/
theorem read_noDevice {o : Origin} {t i : Byte} {tab : Table} {s : State} (hq : s.quiet)
    (ht : Table.ofCode t.toNat = some tab) (hi : i.toNat < tab.entries) (hr : readTable tab i.toNat s = none)
    (ha : s.canAnswer o 2) : exec (.read o t i) s = .next (s.answered o [3, 6]) := by
  refine directRequest_refused (q := .read t i) (st := .noDevice) (band := 7) (raw := 0) hq (by simp) ?_ (by decide) ha
  simp only [Request.check, ht, if_neg (Nat.not_le.mpr hi), hr, Option.isSome_none, Bool.false_eq_true, if_false]

/-- A byte that holds an index. -/
theorem toNat_index {n i : Nat} (h : i < n) (hn : n ≤ 256) : (BitVec.ofNat 8 i).toNat = i := by
  rw [BitVec.toNat_ofNat]; omega

theorem finOf_of_lt {n i : Nat} (h : i < n) : finOf n i = some ⟨i, h⟩ := by simp only [finOf, h, dite_true]

/-- The number of an entry of ROUTE (R189). -/
theorem routeIndex_code (l : Link) (c : Channel) : routeIndex (16 * l.code + c.val) = (l, c) := by
  have := c.isLt
  cases l with
  | radio =>
    have lt : 16 * Link.radio.code + c.val < 16 := by simp only [Link.code]; omega
    simp only [routeIndex, if_pos lt, Prod.mk.injEq, true_and]
    exact Fin.ext (by simp only [Link.code]; omega)
  | controller =>
    have ge : ¬ 16 * Link.controller.code + c.val < 16 := by simp only [Link.code]; omega
    simp only [routeIndex, if_neg ge, Prod.mk.injEq, true_and]
    exact Fin.ext (by simp only [Link.code]; omega)

theorem routeCode_lt (l : Link) (c : Channel) : 16 * l.code + c.val < 32 := by
  have := c.isLt
  cases l <;> simp only [Link.code] <;> omega

theorem cellCode_lt (c : CellId) : c.code < 28 := by
  cases c with
  | port p i => have := portCode_lt p; have := i.isLt; simp only [CellId.code]; omega
  | sys i => have := i.isLt; simp only [CellId.code]; omega

/-- The bytes of a reflex with its running fields are its record and those fields (R176, R200). -/
theorem Reflex.bytes_eq (r : Reflex) : r.bytes =
    r.loadBytes ++ leInt r.lastValue ++ [BitVec.ofNat 8 r.lastTag.code, BitVec.ofNat 8 r.fireCount] ++
      match r.lastOutcome with
      | .nothing => [0, 0]
      | .done => [1, 0]
      | .noTarget => [2, 0]
      | .refused code => [3, BitVec.ofNat 8 code.code] := by
  have action : r.action.bytes = r.action.record := by
    cases r.action with
    | motorReplace p g => exact (ReflexAction.record_motorReplace p g).symm
    | motorStop p e lock => cases lock <;> rfl
    | voicePlay v n => exact (ReflexAction.record_voicePlay v n).symm
    | voiceStop v cut => cases cut <;> rfl
    | sendEvent e => rfl
  have outcome : [u8 r.lastOutcome.code, u8 r.lastOutcome.refusal] = (match r.lastOutcome with
      | .nothing => [0, 0]
      | .done => [1, 0]
      | .noTarget => [2, 0]
      | .refused code => [3, BitVec.ofNat 8 code.code]) := by cases r.lastOutcome <;> rfl
  rw [← outcome, Reflex.bytes, action]
  simp [Reflex.loadBytes, u8]

/-- The bytes of a subscription with its running fields are its record and those fields (R177, R200). -/
theorem Subscription.bytes_eq (b : Subscription) : b.bytes =
    b.loadBytes ++ leInt b.lastValue ++ [BitVec.ofNat 8 b.lastTag.code] ++ optTime b.lastReport ++ optTime b.nextExpiry ++
      [if b.pending then 1 else 0] ++ le16 b.skipped := by
  have active : u8 (boolCode !b.active) = if b.active then 0 else 1 := by cases b.active <;> rfl
  have pending : u8 (boolCode b.pending) = if b.pending then 1 else 0 := by cases b.pending <;> rfl
  rw [Subscription.bytes, active, pending]
  simp [Subscription.loadBytes, u8]

/-- Settles O27: each table's entry as the request's code and index name it. -/
theorem readAnswersWithTheEntry : Obligations.ReadAnswersWithTheEntry := by
  intro o s hq
  refine ⟨fun t i tab bs ht hv hm hi hr ha => read_run hq ht hv hm hi hr ha, ?_⟩
  intro gives
  have given (t : Byte) (tab : Table) (ht : Table.ofCode t.toNat = some tab) (hv : tab ≠ .voice) (hm : tab ≠ .mixer)
      (n : Nat) (hn : n < tab.entries) (bs : List Byte) (hr : readTable tab n s = some bs) : gives t n bs := by
    intro ha
    have small : tab.entries ≤ 256 := by cases tab <;> decide
    have index := toNat_index hn small
    exact read_run hq ht hv hm (by rw [index]; exact hn) (by rw [index]; exact hr) ha
  have missing (t : Byte) (tab : Table) (ht : Table.ofCode t.toNat = some tab) (p : Port) (hn : tab.entries = 6)
      (hr : readTable tab p.code s = none) (ha : s.canAnswer o 2) :
      exec (.read o t (BitVec.ofNat 8 p.code)) s = .next (s.answered o [3, 6]) :=
    read_noDevice hq ht (by rw [toNat_portCode, hn]; exact portCode_lt p) (by rw [toNat_portCode]; exact hr) ha
  refine ⟨fun l c => ?routes, fun i k hk => ?cls, fun p m hm => ?motor, fun p hm => ?noMotor, fun p => ?port, fun i => ?tables
    , fun i => ?wave, fun i => ?envelopes, fun i => ?reflexes, fun i => ?sub, ?supply, ?sound, ?ceilings, ?events
    , fun p d hd => ?descriptions, fun p hd => ?noDescription, fun c => ?cells⟩
  case routes =>
    refine given 0 .route rfl (by decide) (by decide) _ (routeCode_lt l c) _ ?_
    simp only [readTable, routeIndex_code]
    cases s.route l c <;> rfl
  case cls =>
    refine given 1 .motorClass rfl (by decide) (by decide) _ i.isLt _ ?_
    have ofIndex : MotorClass.ofIndex i.val = some k := by
      subst hk
      revert i
      decide
    simp only [readTable, ofIndex, Option.map_some]
    rfl
  case motor =>
    refine given 2 .motorSettings rfl (by decide) (by decide) _ (portCode_lt p) _ ?_
    have comp (b : Bool) : u8 (boolCode !b) = if b then 0 else 1 := by cases b <;> rfl
    simp only [readTable, portIndex_code, hm, Option.map_some, MotorSettings.bytes, comp]
    rfl
  case noMotor => exact missing 2 .motorSettings rfl p rfl (by simp only [readTable, portIndex_code, hm, Option.map_none])
  case port =>
    refine given 3 .portSettings rfl (by decide) (by decide) _ (portCode_lt p) _ ?_
    simp only [readTable, portIndex_code, PortSettings.bytes]
    cases (s.port p).settings.mode <;> cases (s.port p).settings.calibration <;> rfl
  case tables =>
    refine given 4 .calibration rfl (by decide) (by decide) _ i.isLt _ ?_
    simp only [readTable, finOf_of_lt i.isLt, Option.map_some]
    rfl
  case wave =>
    refine given 5 .wavetable rfl (by decide) (by decide) _ i.isLt _ ?_
    simp only [readTable, finOf_of_lt i.isLt, Option.map_some]
    rfl
  case envelopes =>
    refine given 6 .envelope rfl (by decide) (by decide) _ i.isLt _ ?_
    simp only [readTable, finOf_of_lt i.isLt, Option.map_some]
    rfl
  case reflexes =>
    refine given 7 .reflex rfl (by decide) (by decide) _ i.isLt _ ?_
    simp only [readTable, finOf_of_lt i.isLt, Option.map_some]
    exact congrArg some ((Reflex.bytes_eq _).trans rfl)
  case sub =>
    refine given 8 .subscription rfl (by decide) (by decide) _ i.isLt _ ?_
    simp only [readTable, finOf_of_lt i.isLt, Option.map_some]
    rw [Subscription.bytes_eq]
    cases (s.sub i).lastReport <;> cases (s.sub i).nextExpiry <;> rfl
  case supply => exact given 9 .supplySettings rfl (by decide) (by decide) 0 (by decide) _ rfl
  case sound => exact given 10 .soundSettings rfl (by decide) (by decide) 0 (by decide) _ rfl
  case ceilings => exact given 11 .linkSettings rfl (by decide) (by decide) 0 (by decide) _ rfl
  case events =>
    refine given 12 .eventRoutes rfl (by decide) (by decide) 0 (by decide) _ ?_
    simp only [readTable]
    cases s.supply.eventRoute <;> rfl
  case descriptions =>
    refine given 13 .description rfl (by decide) (by decide) _ (portCode_lt p) _ ?_
    simp only [readTable, portIndex_code, hd, Option.map_some]
    rfl
  case noDescription =>
    exact missing 13 .description rfl p rfl (by simp only [readTable, portIndex_code, hd, Option.map_none])
  case cells =>
    refine given 14 .cell rfl (by decide) (by decide) _ (cellCode_lt c) _ ?_
    have code : CellId.ofCode c.code = some c := by
      have := CellId.ofCode_u8 c
      rwa [u8, toNat_index (cellCode_lt c) (by decide)] at this
    simp only [readTable, code, Option.map_some]
    rfl

/-! ## LOAD -/

/-- A LOAD whose record is read as `x` and whose checks hold in `s` (R189). -/
structure Loads (s : State) (t i : Byte) (bs : List Byte) (x : Load) : Prop where
  reads : (Table.ofCode t.toNat).bind (fun t => loadOf t i.toNat bs) = some x
  ok : (Request.load t i bs).check s = .ok

theorem Loads.of_table {t i : Byte} {tab : Table} {bs : List Byte} {x : Load} {s : State}
    (ht : Table.ofCode t.toNat = some tab) (hl : tab.loads = true) (hi : i.toNat < tab.entries)
    (hx : loadOf tab i.toNat bs = some x) (ok : x.check s = .ok) : Loads s t i bs x where
  reads := by rw [ht, Option.bind_some, hx]
  ok := by
    simp only [Request.check, ht, hl, Bool.not_true, Bool.false_eq_true, if_false, if_neg (Nat.not_le.mpr hi), hx, loadCheck, ok]

theorem Loads.effect {t i : Byte} {bs : List Byte} {x : Load} {s : State} (h : Loads s t i bs x) (band : Band) (raw : RawSample)
    (b : State) : (Request.load t i bs).effect band raw b = x.effect b := by
  simp only [Request.effect, h.reads]

/-- A LOAD whose checks hold is answered OK with its table and index (R189). -/
theorem Loads.leaves {o : Origin} {t i : Byte} {bs : List Byte} {x : Load} {s v : State} (h : Loads s t i bs x) (hq : s.quiet)
    (ha : s.canAnswer o 4) (effect : ∀ b, Awaits (s.begun o 1) b → drain (x.effect b) = v) (hv : v.unobserved = []) :
    run (directRequest o (.load t i bs) 7 0) s = .next (pushUrgent o.link (replyTo o [2, 0, t, i]) (endProgress v)) := by
  refine directRequest_leaves (payload := [2, 0, t, i]) hq (by simp) (requestReply_ok h.ok) ha (fun b hb => ?_) hv
  have one : pagesOf ([2, 0, t, i] : List Byte).length = 1 := by simp [pagesOf]
  rw [one] at hb
  simp only [madeEffect, h.ok, if_true, h.effect, effect b hb]

/-- A LOAD whose effect is as if it came ahead of the request. -/
theorem Loads.run {o : Origin} {t i : Byte} {bs : List Byte} {x : Load} {s u : State} (h : Loads s t i bs x) (hq : s.quiet)
    (ha : s.canAnswer o 4) (effect : ∀ b, Awaits (s.begun o 1) b → Awaits (u.begun o 1) (x.effect b)) (hu : u.unobserved = [])
    (hig : u.ignores (.sys 3)) :
    Machine.run (directRequest o (.load t i bs) 7 0) s = .next (u.answered o [2, 0, t, i]) := by
  have one : pagesOf ([2, 0, t, i] : List Byte).length = 1 := by simp [pagesOf]
  have same : u.answered o [2, 0, t, i] = pushUrgent o.link (replyTo o [2, 0, t, i]) (endProgress (u.begun o 1)) := by
    rw [State.answered, one]
    rfl
  rw [same]
  exact h.leaves hq ha (fun b hb => (effect b hb).drain hu hig) hu

/-- An effect on parts of the hub that the writes that wait and the request have no part in. -/
theorem effect_of_same {o : Origin} {f : State → State} {s u : State}
    (hf : ∀ ws, f ((s.begun o 1).withWrites ws) = (u.begun o 1).withWrites ws) (b : State) (hb : Awaits (s.begun o 1) b) :
    Awaits (u.begun o 1) (f b) := by
  obtain ⟨ws, hw, rfl⟩ := hb
  exact ⟨ws, hw, hf ws⟩

theorem fixedRecord_of_length {α : Type} {n : Nat} {bs : List Byte} (f : List Byte → Option α) (h : bs.length = n) :
    fixedRecord n bs f = f bs := by rw [fixedRecord, if_pos h]

theorem routeBytes_length (r : Option Endpoint) : (routeBytes r).length = 2 := by cases r <;> rfl

theorem PortSettings.bytes_length (g : PortSettings) : g.bytes.length = 10 := by
  simp [PortSettings.bytes, routeBytes_length]

theorem MotorSettings.bytes_length (g : MotorSettings) : g.bytes.length = 30 := by
  simp [MotorSettings.bytes, routeBytes_length]

theorem wavetableBytes_length (w : Vector Int 64) : (wavetableBytes w).length = 128 := by
  simp [wavetableBytes, List.length_flatMap]

theorem Route.bytes_length (r : Route) : r.bytes.length = 4 := by cases r <;> rfl

/-- No port holds a motor of a class. -/
theorem classInUse_eq_false {c : MotorClass} {s : State} (h : ∀ p, s.motor p = none ∨ (s.port p).cls ≠ .motor c) :
    classInUse c s = false := by
  simp only [classInUse, List.any_eq_false, Bool.and_eq_true, decide_eq_true_eq, not_and, Bool.not_eq_true,
    Option.isSome_eq_false_iff, Option.isNone_iff_eq_none]
  exact fun p _ hc => (h p).resolve_right fun hn => hn hc

/-- No ACTIVE port names a calibration table. -/
theorem tableInUse_eq_false {i : Fin 6} {s : State}
    (h : ∀ p, (s.port p).state = .active → (s.port p).settings.calibration ≠ some i) : tableInUse i s = false := by
  simp only [tableInUse, List.any_eq_false, Bool.and_eq_true, decide_eq_true_eq, not_and]
  exact fun p _ hs => h p hs

/-! ### The LOAD of each table -/

theorem loads_route (s : State) (l : Link) (c : Channel) (r : Route) :
    Loads s 0 (BitVec.ofNat 8 (16 * l.code + c.val)) r.bytes (.route l c r) := by
  have index := toNat_index (routeCode_lt l c) (by decide)
  refine .of_table (tab := .route) rfl rfl (by rw [index]; exact routeCode_lt l c) ?_ rfl
  simp only [loadOf, index, routeIndex_code, fixedRecord_of_length _ r.bytes_length, routeEntryOf_bytes, Option.map_some]

theorem loads_motorClass {s : State} {i : Fin 3} {c : MotorClass} {e : ClassEntry} (hc : MotorClass.ofIndex i.val = some c)
    (c0 : 1 ≤ e.countsPerRev) (c1 : e.countsPerRev ≤ 65535) (r0 : 1 ≤ e.ratedMax) (r1 : e.ratedMax ≤ 20000) (p : e.kp ≤ 4095)
    (k : e.ki ≤ 4095) (f : e.kf ≤ 65535) (free : ∀ p, s.motor p = none ∨ (s.port p).cls ≠ .motor c) :
    Loads s 1 (BitVec.ofNat 8 i.val) e.bytes (.motorClass c e) := by
  have index := toNat_index i.isLt (by decide)
  refine .of_table (tab := .motorClass) rfl rfl (by rw [index]; exact i.isLt) ?_ ?_
  · simp only [loadOf, index, hc, Option.bind_some, fixedRecord_of_length _ (show e.bytes.length = 10 from rfl)
      , classEntryOf_bytes c0 c1 r0 r1 p k f, Option.map_some]
  · simp only [Load.check, classInUse_eq_false free, Bool.false_eq_true, if_false]

theorem loads_motorSettings {s : State} {p : Port} {m : Motor} {g : MotorSettings} (hm : s.motor p = some m)
    (hg : g.inRange = true) : Loads s 2 (BitVec.ofNat 8 p.code) g.bytes (.motorSettings p (some g)) := by
  refine .of_table (tab := .motorSettings) rfl rfl (by rw [toNat_portCode]; exact portCode_lt p) ?_ ?_
  · simp only [loadOf, toNat_portCode, portIndex_code, fixedRecord_of_length _ g.bytes_length, motorSettingsOf_bytes hg
      , Option.map_some]
  · simp only [Load.check, hm, Option.isNone_some, Bool.false_eq_true, if_false]

theorem loads_portSettings {s : State} {p : Port} {g : PortSettings} (a0 : 1 ≤ g.analogInterval) (a1 : g.analogInterval ≤ 1000)
    (poll : g.pollInterval ≤ 1000) (mode : ∀ m, g.mode = some m → m < 8)
    (keep : (s.port p).state = .active → g.calibration = (s.port p).settings.calibration) :
    Loads s 3 (BitVec.ofNat 8 p.code) g.bytes (.portSettings p g) := by
  refine .of_table (tab := .portSettings) rfl rfl (by rw [toNat_portCode]; exact portCode_lt p) ?_ ?_
  · simp only [loadOf, toNat_portCode, portIndex_code, fixedRecord_of_length _ g.bytes_length
      , portSettingsOf_bytes a0 a1 poll mode, Option.map_some]
  · simp only [Load.check, Bool.and_eq_true, decide_eq_true_eq, ne_eq]
    exact if_neg fun h => h.2 (keep h.1)

theorem loads_calibration {s : State} {i : Fin 6} {t : List Breakpoint} (l0 : 2 ≤ t.length) (l1 : t.length ≤ 16)
    (rise : breakpointsRise t = true) (vals : ∀ b ∈ t, -2147483648 ≤ b.val ∧ b.val ≤ 2147483647)
    (free : ∀ p, (s.port p).state = .active → (s.port p).settings.calibration ≠ some i) :
    Loads s 4 (BitVec.ofNat 8 i.val) (calibrationBytes t) (.calibration i t) := by
  have index := toNat_index i.isLt (by decide)
  refine .of_table (tab := .calibration) rfl rfl (by rw [index]; exact i.isLt) ?_ ?_
  · simp only [loadOf, index, finOf_of_lt i.isLt, Option.bind_some, calibrationOf_bytes l0 l1 rise vals, Option.map_some]
  · simp only [Load.check, tableInUse_eq_false free, Bool.false_eq_true, if_false]

theorem loads_wavetable {s : State} {i : Fin 4} {w : Vector Int 64} (range : ∀ k : Fin 64, -32768 ≤ w.get k ∧ w.get k ≤ 32767) :
    Loads s 5 (BitVec.ofNat 8 i.val) (wavetableBytes w) (.wavetable i w) := by
  have index := toNat_index i.isLt (by decide)
  refine .of_table (tab := .wavetable) rfl rfl (by rw [index]; exact i.isLt) ?_ rfl
  simp only [loadOf, index, finOf_of_lt i.isLt, Option.bind_some, fixedRecord_of_length _ (wavetableBytes_length w)
    , wavetableOf_bytes range]

theorem loads_envelope {s : State} {i : Fin 8} {e : Envelope} (a : e.attack ≤ 65535) (d : e.decay ≤ 65535) (su : e.sustain ≤ 255)
    (r : e.release ≤ 65535) : Loads s 6 (BitVec.ofNat 8 i.val) e.bytes (.envelope i e) := by
  have index := toNat_index i.isLt (by decide)
  refine .of_table (tab := .envelope) rfl rfl (by rw [index]; exact i.isLt) ?_ rfl
  simp only [loadOf, index, finOf_of_lt i.isLt, Option.bind_some, fixedRecord_of_length _ (show e.bytes.length = 7 from rfl)
    , envelopeOf_bytes a d su r]

theorem loads_reflex {s : State} {i : Fin 16} {bs : List Byte} {r : Reflex} (hr : reflexOf bs = some r) :
    Loads s 7 (BitVec.ofNat 8 i.val) bs (.reflex i r) := by
  have index := toNat_index i.isLt (by decide)
  refine .of_table (tab := .reflex) rfl rfl (by rw [index]; exact i.isLt) ?_ rfl
  simp only [loadOf, index, finOf_of_lt i.isLt, Option.bind_some, hr, Option.map_some]

theorem loads_subscription {s : State} {i : Fin 24} {bs : List Byte} {b : Subscription} (hlen : bs.length = 13)
    (hb : subscriptionOf bs = some b) : Loads s 8 (BitVec.ofNat 8 i.val) bs (.subscription i b) := by
  have index := toNat_index i.isLt (by decide)
  refine .of_table (tab := .subscription) rfl rfl (by rw [index]; exact i.isLt) ?_ rfl
  simp only [loadOf, index, finOf_of_lt i.isLt, Option.bind_some, fixedRecord_of_length _ hlen, hb, Option.map_some]

theorem loads_supply {s : State} {g : SupplySettings} (l0 : 4800 ≤ g.low) (l1 : g.low ≤ 9000) (c0 : 4500 ≤ g.critical)
    (c1 : g.critical < g.low) (h : g.hysteresis ≤ 1000) (n0 : 4800 ≤ g.nominal) (n1 : g.nominal ≤ 9000) :
    Loads s 9 0 g.bytes (.supply g) := by
  refine .of_table (tab := .supplySettings) rfl rfl (by decide) ?_ rfl
  simp only [loadOf, fixedRecord_of_length _ (show g.bytes.length = 8 from rfl), supplySettingsOf_bytes l0 l1 c0 c1 h n0 n1
    , Option.map_some]

theorem loads_sound {s : State} {g : SoundSettings} (hg : g.masterGain ≤ 256) (hi : g.idleOff ≤ 65535) :
    Loads s 10 0 g.bytes (.sound g) := by
  refine .of_table (tab := .soundSettings) rfl rfl (by decide) ?_ rfl
  simp only [loadOf, fixedRecord_of_length _ (show g.bytes.length = 4 from rfl), soundSettingsOf_bytes hg hi, Option.map_some]

theorem loads_ceilings {s : State} {a b : Nat} (a0 : 8 ≤ a) (a1 : a ≤ 48) (b0 : 8 ≤ b) (b1 : b ≤ 48)
    (lowA : (s.link .radio).outstanding ≤ a) (lowB : (s.link .controller).outstanding ≤ b) :
    Loads s 11 0 [BitVec.ofNat 8 a, BitVec.ofNat 8 b] (.ceilings a b) := by
  refine .of_table (tab := .linkSettings) rfl rfl (by decide) ?_ ?_
  · simp only [loadOf, fixedRecord_of_length _ (show ([BitVec.ofNat 8 a, BitVec.ofNat 8 b] : List Byte).length = 2 from rfl)
      , ceilingsOf_bytes a0 a1 b0 b1 (by omega), Option.map_some]
  · simp only [Load.check, Bool.or_eq_true, decide_eq_true_eq]
    exact if_neg fun h => h.elim (Nat.not_lt.mpr lowA) (Nat.not_lt.mpr lowB)

theorem loads_eventRoute {s : State} (r : Option Endpoint) : Loads s 12 0 (routeBytes r) (.eventRoute r) := by
  refine .of_table (tab := .eventRoutes) rfl rfl (by decide) ?_ rfl
  simp only [loadOf, fixedRecord_of_length _ (routeBytes_length r), routeOf_routeBytes, Option.map_some]

/-! ### What a LOAD leaves -/

/-- A request in progress changes no cell but S3. -/
theorem cell_seen {o : Phase} {s : State} {c : CellId} {ws : List Write} (h : c ≠ .sys 3) :
    ((s.seen o).withWrites ws).cell c = s.cell c := by
  cases c with
  | port p i => cases o <;> rfl
  | sys j =>
    match j with
    | 0 => cases o <;> rfl
    | 1 => cases o <;> rfl
    | 2 => cases o <;> rfl
    | 3 => exact absurd rfl h

/-- A LOAD of REFLEX stores the record with the cell as it stands as last seen (R175). -/
theorem loadReflex_effect {o : Phase} {i : Fin 16} {r : Reflex} {s b : State} (h : r.cell ≠ .sys 3)
    (hb : Awaits (s.seen o) b) : Awaits
      ((s.setReflex i { r with lastValue := (s.cell r.cell).value, lastTag := (s.cell r.cell).tag }).seen o)
      ((Load.reflex i r).effect b) := by
  obtain ⟨ws, hw, rfl⟩ := hb
  exact ⟨ws, hw, by simp only [Load.effect, cell_seen h]; cases o <;> rfl⟩

theorem State.ignores.setReflex {s : State} {c : CellId} (h : s.ignores c) (i : Fin 16) {r : Reflex} (hr : r.cell ≠ c) :
    (s.setReflex i r).ignores c := by
  refine ⟨fun j => ?_, h.2⟩
  show ((s.reflexes.set i r).get j).cell ≠ _
  rw [Vector.get_eq_getElem, Vector.getElem_set]
  split
  · exact hr
  · exact h.1 j

theorem State.ignores.setSub {s : State} {c : CellId} (h : s.ignores c) (i : Fin 24) {b : Subscription} (hb : b.cell ≠ c) :
    (s.setSub i b).ignores c := by
  refine ⟨h.1, fun j => ?_⟩
  show ((s.subs.set i b).get j).active = true → ((s.subs.set i b).get j).cell ≠ _
  rw [Vector.get_eq_getElem, Vector.getElem_set]
  split
  · exact fun _ => hb
  · exact h.2 j

/-- An accepted LOAD of SOUND_SETTINGS (R138, R160). -/
theorem loadSound_eq (g : SoundSettings) (s : State) :
    loadSound g s = if s.amp = .on ∧ timerReached s.hubTime s.idleTimer g.idleOff = true
      then { s with sound := g, amp := .off, idleTimer := none, speaker := 0 } else { s with sound := g } := by
  simp only [loadSound, Bool.and_eq_true, decide_eq_true_eq]
  rfl

/-- The hub after a LOAD of SOUND_SETTINGS (R138, R160). -/
theorem loadSound_effect {o : Phase} {g : SoundSettings} {s b : State} (hb : Awaits (s.seen o) b) :
    Awaits (State.seen (if s.amp = .on ∧ timerReached s.hubTime s.idleTimer g.idleOff = true
      then { s with sound := g, amp := .off, idleTimer := none, speaker := 0 } else { s with sound := g }) o)
      ((Load.sound g).effect b) := by
  obtain ⟨ws, hw, rfl⟩ := hb
  refine ⟨ws, hw, (loadSound_eq g _).trans ?_⟩
  by_cases h : s.amp = .on ∧ timerReached s.hubTime s.idleTimer g.idleOff = true
  · rw [if_pos h]
    refine (if_pos ?_).trans ?_
    · cases o <;> exact h
    · cases o <;> rfl
  · rw [if_neg h]
    refine (if_neg ?_).trans ?_
    · cases o <;> exact h
    · cases o <;> rfl

/-- Settles O32: for each table, the record read back and the entry set. -/
theorem loadsReplaceTableEntries : Obligations.LoadsReplaceTableEntries := by
  intro o s hq ha
  refine ⟨fun l c r => ?routes, fun i c e hc c0 c1 r0 r1 p k f free => ?classes, fun p g a0 a1 poll mode keep => ?ports
    , fun i t l0 l1 rise vals free => ?tables, fun i w range => ?waves, fun i e a d su r => ?envelopes
    , fun g l0 l1 c0 c1 h n0 n1 => ?supply, fun r => ?events, fun p m g hm hg => ?motors, fun g hg hi => ?sound
    , fun i bs r hr hc => ?reflexes⟩
  case routes => exact (loads_route s l c r).run hq ha (effect_of_same fun _ => rfl) hq.1.2 hq.2.2
  case classes =>
    exact (loads_motorClass hc c0 c1 r0 r1 p k f free).run hq ha (effect_of_same fun _ => rfl) hq.1.2 hq.2.2
  case ports => exact (loads_portSettings a0 a1 poll mode keep).run hq ha (effect_of_same fun _ => rfl) hq.1.2 hq.2.2
  case tables => exact (loads_calibration l0 l1 rise vals free).run hq ha (effect_of_same fun _ => rfl) hq.1.2 hq.2.2
  case waves => exact (loads_wavetable range).run hq ha (effect_of_same fun _ => rfl) hq.1.2 hq.2.2
  case envelopes => exact (loads_envelope a d su r).run hq ha (effect_of_same fun _ => rfl) hq.1.2 hq.2.2
  case supply => exact (loads_supply l0 l1 c0 c1 h n0 n1).run hq ha (effect_of_same fun _ => rfl) hq.1.2 hq.2.2
  case events => exact (loads_eventRoute r).run hq ha (effect_of_same fun _ => rfl) hq.1.2 hq.2.2
  case motors =>
    refine (loads_motorSettings hm hg).run hq ha (effect_of_same fun ws => ?_) hq.1.2 hq.2.2
    exact onMotor_some (f := fun m s => s.setMotor p (some { m with loaded := some g })) (s := (s.begun o 1).withWrites ws) hm
  case sound =>
    refine (loads_sound hg hi).run hq ha (fun b hb => loadSound_effect (o := .direct o) hb) ?_ ?_
    · split <;> exact hq.1.2
    · split <;> exact hq.2.2
  case reflexes =>
    exact (loads_reflex hr).run hq ha (fun b hb => loadReflex_effect (o := .direct o) hc hb) hq.1.2 (hq.2.2.setReflex i hc)

end Sys2Proof.Machine
end

section
/-!
The LOADs that act at once (O33, O34): a subscription that attempts a report, and ceilings whose links are reviewed.
-/
namespace Sys2Proof.Machine

/-! ## Subscriptions -/

/-- The next expiry of a loaded subscription (R178). -/
def Subscription.loadedExpiry (b : Subscription) (now : Time) : Option Time :=
  if b.active = true ∧ b.mode ≠ .change then some (now + BitVec.ofNat 32 b.period) else none

/-- A subscription as a LOAD stores it: the cell as it stands is the last report (R178). -/
def Subscription.loaded (b : Subscription) (c : Cell) (now : Time) : Subscription :=
  { b with lastValue := c.value, lastTag := c.tag, nextExpiry := b.loadedExpiry now }

theorem loadSubscription_eq (i : Fin 24) (b : Subscription) (s : State) :
    loadSubscription i b s =
      emissionAttempt i (s.cell b.cell) (s.setSub i (b.loaded (s.cell b.cell) s.hubTime)) := by
  simp only [loadSubscription, Subscription.loaded, Subscription.loadedExpiry, Bool.and_eq_true, decide_eq_true_eq]

/-- What a read record says of its reports: none made, and one owed where it is ACTIVE (R178). -/
theorem subscriptionOf_unreported {bs : List Byte} {b : Subscription} (h : subscriptionOf bs = some b) :
    b.lastReport = none ∧ b.pending = b.active ∧ b.skipped = 0 := by
  unfold subscriptionOf at h
  split at h
  · split at h
    · obtain rfl := Option.some.inj h
      exact ⟨rfl, rfl, rfl⟩
    · cases h
  · cases h

theorem emissionAttempt_inactive {i : Fin 24} {b : Subscription} {c : Cell} {s : State} (hs : s.sub i = b)
    (h : b.active = false) : emissionAttempt i c s = s := by
  simp only [emissionAttempt, hs, h, Bool.false_and, Bool.false_eq_true, if_false]

/-- An attempt that the minimum interval lets pass (R181). -/
theorem emissionAttempt_passes {i : Fin 24} {b : Subscription} {c : Cell} {s : State} (hs : s.sub i = b)
    (ha : b.active = true) (hp : b.pending = true) (hi : b.intervalPassed s.hubTime = true) :
    emissionAttempt i c s = askReport i c s := by
  simp only [emissionAttempt, hs, ha, hp, Bool.and_self, if_true, hi]

/-- An attempt at a link without room counts a skip (R182). -/
theorem askReport_skips {i : Fin 24} {b : Subscription} {c : Cell} {s : State} (hs : s.sub i = b)
    (h : reportRoom b.target.link s = false) :
    askReport i c s = s.setSub i { b with skipped := satAdd 65535 b.skipped 1 } := by
  simp only [askReport, hs, h, Bool.false_eq_true, if_false]

/-- An attempt at a link with room builds the report (R13, R182). -/
theorem askReport_builds {i : Fin 24} {b : Subscription} {c : Cell} {s : State} (hs : s.sub i = b)
    (h : reportRoom b.target.link s = true) :
    askReport i c s = (placeReport b.target.link (reportFrame i b (reportedCell c (s.cell b.cell)) s.hubTime) s).setSub i
      (b.reported c s.hubTime) := by
  simp only [askReport, hs, h, if_true]

theorem reportRoom_eq_true {l : Link} {s : State} (up : (s.link l).up = true) (free : 1 ≤ s.free)
    (room : (s.link l).normal.length < 24) : reportRoom l s = true := by
  simp only [reportRoom, up, free, room, decide_true, Bool.and_self]

theorem reportRoom_down {l : Link} {s : State} (down : (s.link l).up = false) : reportRoom l s = false := by
  simp only [reportRoom, down, Bool.false_and]

/-- A report takes one page and joins the normal queue (R13). -/
theorem Awaits.placeReport {t u : State} {l : Link} {f : Frame} (h : Awaits t u) (small : t.free ≤ 128) :
    Awaits ((t.withFree (t.free - 1)).withNormal l f) (placeReport l f u) := by
  obtain ⟨ws, hw, rfl⟩ := h
  have pushed : Awaits (pushNormal l f { t with free := t.free - 1 })
      (pushNormal l f { t.withWrites ws with free := t.free - 1 }) := ⟨ws, hw, rfl⟩
  exact pushed.writeFree (show t.free - 1 ≤ 2147483647 by omega)

@[simp] theorem State.setSub_setSub (s : State) (i : Fin 24) (a b : Subscription) :
    (s.setSub i a).setSub i b = s.setSub i b := by
  simp [State.setSub]

/-- A stored subscription that is not ACTIVE attempts nothing. -/
theorem loadSubscription_stores {i : Fin 24} {b : Subscription} {s : State} (h : b.active = false) :
    loadSubscription i b s = s.setSub i (b.loaded (s.cell b.cell) s.hubTime) := by
  rw [loadSubscription_eq, emissionAttempt_inactive (b := b.loaded (s.cell b.cell) s.hubTime) (State.sub_setSub_same ..) h]

/-- A stored ACTIVE subscription whose link is DOWN skips its first report. -/
theorem loadSubscription_skips {i : Fin 24} {bs : List Byte} {b : Subscription} {s : State} (hb : subscriptionOf bs = some b)
    (h : b.active = true) (down : (s.link b.target.link).up = false) :
    loadSubscription i b s = s.setSub i { b.loaded (s.cell b.cell) s.hubTime with skipped := 1 } := by
  obtain ⟨noReport, owes, noSkip⟩ := subscriptionOf_unreported hb
  have one : satAdd 65535 b.skipped 1 = 1 := by rw [noSkip]; rfl
  rw [loadSubscription_eq, emissionAttempt_passes (b := b.loaded (s.cell b.cell) s.hubTime) (State.sub_setSub_same ..) h (owes.trans h)
    (by simp only [Subscription.intervalPassed, Subscription.loaded, noReport])
    , askReport_skips (b := b.loaded (s.cell b.cell) s.hubTime) (State.sub_setSub_same ..) (reportRoom_down down), State.setSub_setSub]
  simp only [Subscription.loaded, one]

/-- A stored ACTIVE subscription whose link has room reports at once. -/
theorem loadSubscription_builds {i : Fin 24} {bs : List Byte} {b : Subscription} {s : State}
    (hb : subscriptionOf bs = some b) (h : b.active = true) (up : (s.link b.target.link).up = true) (free : 1 ≤ s.free)
    (room : (s.link b.target.link).normal.length < 24) :
    loadSubscription i b s =
      (placeReport b.target.link (reportFrame i (b.loaded (s.cell b.cell) s.hubTime) (s.cell b.cell) s.hubTime)
        (s.setSub i (b.loaded (s.cell b.cell) s.hubTime))).setSub i
        { b.loaded (s.cell b.cell) s.hubTime with lastReport := some s.hubTime, pending := false, attemptDue := false } := by
  obtain ⟨noReport, owes, -⟩ := subscriptionOf_unreported hb
  rw [loadSubscription_eq, emissionAttempt_passes (b := b.loaded (s.cell b.cell) s.hubTime) (State.sub_setSub_same ..) h (owes.trans h)
    (by simp only [Subscription.intervalPassed, Subscription.loaded, noReport])
    , askReport_builds (b := b.loaded (s.cell b.cell) s.hubTime) (State.sub_setSub_same ..)
      (reportRoom_eq_true (s := s.setSub i (b.loaded (s.cell b.cell) s.hubTime)) up free room)]
  rfl

theorem loadSubscription_stores_effect {o : Phase} {i : Fin 24} {b : Subscription} {s x : State} (off : b.active = false)
    (hc : b.cell ≠ .sys 3) (hx : Awaits (s.seen o) x) :
    Awaits ((s.setSub i (b.loaded (s.cell b.cell) s.hubTime)).seen o) (loadSubscription i b x) := by
  obtain ⟨ws, hw, rfl⟩ := hx
  exact ⟨ws, hw, by rw [loadSubscription_stores off, cell_seen hc]; cases o <;> rfl⟩

theorem loadSubscription_skips_effect {o : Phase} {i : Fin 24} {bs : List Byte} {b : Subscription} {s x : State}
    (hb : subscriptionOf bs = some b) (on : b.active = true) (down : (s.link b.target.link).up = false) (hc : b.cell ≠ .sys 3)
    (hx : Awaits (s.seen o) x) :
    Awaits ((s.setSub i { b.loaded (s.cell b.cell) s.hubTime with skipped := 1 }).seen o) (loadSubscription i b x) := by
  obtain ⟨ws, hw, rfl⟩ := hx
  refine ⟨ws, hw, ?_⟩
  rw [loadSubscription_skips (s := (s.seen o).withWrites ws) hb on (by cases o <;> exact down), cell_seen hc]
  cases o <;> rfl

/-- The hub after the report of a subscription that was loaded (R178). -/
def State.reportedOnLoad (s : State) (i : Fin 24) (b : Subscription) : State :=
  ((s.withFree (s.free - 1)).withNormal b.target.link
    (reportFrame i (b.loaded (s.cell b.cell) s.hubTime) (s.cell b.cell) s.hubTime)).setSub i
      { b.loaded (s.cell b.cell) s.hubTime with lastReport := some s.hubTime, pending := false, attemptDue := false }

theorem loadSubscription_builds_effect {o : Phase} {i : Fin 24} {bs : List Byte} {b : Subscription} {s x : State}
    (hb : subscriptionOf bs = some b) (on : b.active = true) (up : (s.link b.target.link).up = true)
    (room : (s.link b.target.link).normal.length < 24) (free : 1 ≤ (s.seen o).free) (small : s.free ≤ 128)
    (hc : b.cell ≠ .sys 3) (hx : Awaits (s.seen o) x) :
    Awaits ((s.reportedOnLoad i b).seen o) (loadSubscription i b x) := by
  obtain ⟨ws, hw, rfl⟩ := hx
  have small : (s.seen o).free ≤ 128 := by
    cases o
    · exact small
    · exact (Nat.sub_le ..).trans small
    · exact small
  rw [loadSubscription_builds (s := (s.seen o).withWrites ws) hb on (by cases o <;> exact up) free (by cases o <;> exact room)
    , cell_seen hc]
  have put : Awaits ((s.seen o).setSub i (b.loaded (s.cell b.cell) s.hubTime))
      (((s.seen o).withWrites ws).setSub i (b.loaded (s.cell b.cell) s.hubTime)) := ⟨ws, hw, rfl⟩
  obtain ⟨vs, hv, e⟩ := put.placeReport (l := b.target.link)
    (f := reportFrame i (b.loaded (s.cell b.cell) s.hubTime) (s.cell b.cell) s.hubTime) small
  refine ⟨vs, hv, ?_⟩
  have time : ((s.seen o).withWrites ws).hubTime = s.hubTime := by cases o <;> rfl
  rw [time]
  refine (congrArg (State.setSub · i { b.loaded (s.cell b.cell) s.hubTime with
    lastReport := some s.hubTime, pending := false, attemptDue := false }) e).trans ?_
  cases o <;>
    simp only [State.setSub, State.withWrites, State.seen, State.begun, State.underway, State.withFree, State.s3Written
      , State.withNormal, State.setLink, Vector.set_set, State.reportedOnLoad] <;> rfl

/-- Settles O33. -/
theorem loadOfSubscriptionAttemptsAReport : Obligations.LoadOfSubscriptionAttemptsAReport := by
  intro o i bs b s hq ha hlen hb hcell c expiry loaded reply answer
  have loads := loads_subscription (s := s) (i := i) hlen hb
  refine ⟨fun off => ?_, fun on down => ?_, fun on up free room => ?_⟩
  · exact loads.run hq ha (fun _ hx => loadSubscription_stores_effect (o := .direct o) off hcell hx) hq.1.2
      (hq.2.2.setSub i hcell)
  · exact loads.run hq ha (fun _ hx => loadSubscription_skips_effect (o := .direct o) hb on down hcell hx) hq.1.2
      (hq.2.2.setSub i hcell)
  · exact loads.run (u := s.reportedOnLoad i b) hq ha (fun _ hx => loadSubscription_builds_effect (o := .direct o) hb on up room
        (show 1 ≤ s.free - 1 by omega) hq.2.1.free_le hcell hx) hq.1.2
      (State.ignores.setSub (s := (s.withFree (s.free - 1)).withNormal b.target.link (reportFrame i loaded c s.hubTime))
        hq.2.2 i hcell)

/-! ## Ceilings -/

/-- What a review does with what it sees of the pool. -/
theorem review_congr {l : Link} {s t : State} (hl : s.links = t.links) (hf : s.free = t.free) :
    (review l s).links = (review l t).links ∧ (review l s).free = (review l t).free := by
  simp only [review, State.setLink, State.link, hl, hf, and_self]

theorem reviewBoth_congr {s t : State} (hl : s.links = t.links) (hf : s.free = t.free) :
    (reviewBoth s).links = (reviewBoth t).links ∧ (reviewBoth s).free = (reviewBoth t).free := by
  have first : firstReviewed s = firstReviewed t := by
    unfold firstReviewed State.link
    rw [hl]
  obtain ⟨links, free⟩ := review_congr (l := firstReviewed t) hl hf
  rw [reviewBoth, reviewBoth, first]
  exact review_congr links free

theorem reviewOperation_pool (l : Link) (s : State) :
    (reviewOperation l s).links = (review l s).links ∧ (reviewOperation l s).free = (review l s).free := by
  unfold reviewOperation writeFreeIfMoved
  split <;> exact ⟨rfl, rfl⟩

/-- A review while writes of S3 wait. -/
theorem Awaits.reviewOperation {l : Link} {t u : State} (h : Awaits t u) (small : t.free ≤ 2147483647)
    (hp : (t.link l).pendingCredit ≤ 255) : Awaits (t.granted l ((t.link l).grant t.free)) (reviewOperation l u) := by
  obtain ⟨ws, hw, rfl⟩ := h
  have bound : (t.link l).grant t.free ≤ t.free := LinkUnit.grant_le ..
  unfold Machine.reviewOperation writeFreeIfMoved State.granted
  by_cases hg : (t.link l).grant t.free = 0
  · rw [review_of_grant_zero (s := t.withWrites ws) hg hp, if_pos rfl, if_pos hg]
    exact ⟨ws, hw, rfl⟩
  · have moved : (review l (t.withWrites ws)).free ≠ (t.withWrites ws).free := by
      show t.free - (t.link l).grant t.free ≠ t.free
      omega
    have reviewed : Awaits (review l t) (review l (t.withWrites ws)) := ⟨ws, hw, rfl⟩
    rw [if_neg moved, if_neg hg]
    exact reviewed.writeFree (Nat.le_trans (review_free_le ..) small)

/-- Both ceilings replaced (R5). -/
def State.withCeilings (s : State) (a b : Nat) : State :=
  (s.setLink .radio { s.link .radio with ceiling := a }).setLink .controller { s.link .controller with ceiling := b }

theorem setCeilings_eq (a b : Nat) (s : State) :
    setCeiling .controller b (setCeiling .radio a s) = s.withCeilings a b := rfl

/-- An accepted LOAD of LINK_SETTINGS by the links whose ceilings rose (R5). -/
theorem loadCeilings_eq (a b : Nat) (s : State) : loadCeilings a b s =
    if (s.link .radio).ceiling < a then
      if (s.link .controller).ceiling < b then
        reviewOperation (firstReviewed (s.withCeilings a b)).other
          (reviewOperation (firstReviewed (s.withCeilings a b)) (s.withCeilings a b))
      else reviewOperation .radio (s.withCeilings a b)
    else if (s.link .controller).ceiling < b then reviewOperation .controller (s.withCeilings a b)
    else s.withCeilings a b := by
  by_cases ha : (s.link .radio).ceiling < a
  · by_cases hb : (s.link .controller).ceiling < b
    · simp only [loadCeilings, ha, hb, decide_true, if_true, setCeilings_eq]
    · simp only [loadCeilings, ha, hb, decide_true, decide_false, if_true, if_false, setCeilings_eq]
  · by_cases hb : (s.link .controller).ceiling < b
    · simp only [loadCeilings, ha, hb, decide_true, decide_false, if_true, if_false, setCeilings_eq]
    · simp only [loadCeilings, ha, hb, decide_false, if_false, setCeilings_eq]

/-- The two reviews as operations leave the links and free as the two reviews do. -/
theorem reviewOperations_pool (s : State) :
    (reviewOperation (firstReviewed s).other (reviewOperation (firstReviewed s) s)).links = (reviewBoth s).links ∧
      (reviewOperation (firstReviewed s).other (reviewOperation (firstReviewed s) s)).free = (reviewBoth s).free := by
  obtain ⟨links, free⟩ := reviewOperation_pool (firstReviewed s) s
  obtain ⟨links', free'⟩ := reviewOperation_pool (firstReviewed s).other (reviewOperation (firstReviewed s) s)
  obtain ⟨l, f⟩ := review_congr (l := (firstReviewed s).other) links free
  exact ⟨links'.trans l, free'.trans f⟩

/-- A grant while a request is in progress whose reply took a page is as if it came ahead of the request. -/
theorem State.granted_begun {o : Origin} {s : State} {l : Link} {g : Nat} :
    (s.begun o 1).granted l g = (s.granted l g).begun o 1 := by
  unfold State.granted
  split
  · rfl
  · have order : s.free - 1 - g = s.free - g - 1 := Nat.sub_right_comm ..
    show (((s.withFree (s.free - 1)).underway o).withFree (s.free - 1 - g)).setLink l _ = _
    rw [order]
    rfl

/-- A link whose ceiling rose is reviewed with the pages that the reply left. -/
theorem reviewCeiling_awaits {o : Origin} {l : Link} {s b : State} (small : s.free ≤ 128)
    (hp : (s.link l).pendingCredit ≤ 255) (hb : Awaits (s.begun o 1) b) :
    Awaits ((s.granted l ((s.link l).grant (s.free - 1))).begun o 1) (reviewOperation l b) := by
  rw [← State.granted_begun]
  exact hb.reviewOperation (show s.free - 1 ≤ _ by omega) hp

theorem reviewOperation_writesS3 (l : Link) (s : State) : WritesS3 s (reviewOperation l s) := by
  unfold reviewOperation writeFreeIfMoved
  split
  · exact .of_same rfl rfl rfl
  · exact (WritesS3.of_same rfl rfl rfl : WritesS3 s (review l s)).trans (writeFree_writesS3 _)

/-- The writes that wait have no part in a review. -/
theorem reviewOperation_withWrites (l : Link) (t : State) (ws : List Write) :
    ∃ vs, reviewOperation l (t.withWrites ws) = (reviewOperation l t).withWrites vs := by
  by_cases h : (review l t).free = t.free
  · refine ⟨ws, ?_⟩
    unfold reviewOperation writeFreeIfMoved
    rw [if_pos (show (review l (t.withWrites ws)).free = (t.withWrites ws).free from h), if_pos h]
    rfl
  · refine ⟨(writeFree (review l (t.withWrites ws))).unobserved, ?_⟩
    unfold reviewOperation writeFreeIfMoved
    rw [if_neg (show ¬ (review l (t.withWrites ws)).free = (t.withWrites ws).free from h), if_neg h]
    rfl

/-- Two reviews, with the writes of S3 that wait handed over where nothing watches S3. -/
theorem reviewOperations_drain {k l : Link} {t x : State} (h : Awaits t x) (hi : t.ignores (.sys 3)) :
    drain (reviewOperation l (reviewOperation k x)) =
      { reviewOperation l (reviewOperation k t) with unobserved := [] } := by
  obtain ⟨ws, hw, rfl⟩ := h
  have writes := (reviewOperation_writesS3 k (t.withWrites ws)).trans (reviewOperation_writesS3 l _)
  obtain ⟨vs, first⟩ := reviewOperation_withWrites k t ws
  obtain ⟨us, second⟩ := reviewOperation_withWrites l (reviewOperation k t) vs
  rw [drain_ignored (writes.ignores hi) fun w hm => (writes.waits w hm).elim (hw w) id, first, second]
  rfl

/-- Settles O34. -/
theorem loadOfCeilingsReviewsTheLink : Obligations.LoadOfCeilingsReviewsTheLink := by
  intro o a b s hq hsound ha a0 a1 b0 b1 sum answer radio controller set
  have small : s.free ≤ 128 := hq.2.1.free_le
  have reads : loadOf .linkSettings 0 [BitVec.ofNat 8 a, BitVec.ofNat 8 b] = some (.ceilings a b) := by
    simp only [loadOf, fixedRecord_of_length _ (show ([BitVec.ofNat 8 a, BitVec.ofNat 8 b] : List Byte).length = 2 from rfl)
      , ceilingsOf_bytes a0 a1 b0 b1 sum, Option.map_some]
  refine ⟨fun low => ?refused, fun lowA lowB => ?accepted⟩
  case refused =>
    refine directRequest_refused (q := .load 11 0 [BitVec.ofNat 8 a, BitVec.ofNat 8 b]) (st := .inUse) (band := 7) (raw := 0)
      hq (by simp) ?_ (by decide) ⟨ha.1, ha.2.1, ha.2.2.1, ha.2.2.2⟩
    show loadCheck (loadOf .linkSettings 0 _) s = _
    rw [reads]
    simp only [loadCheck, Load.check, Bool.or_eq_true, decide_eq_true_eq]
    exact if_pos low
  have loads := loads_ceilings a0 a1 b0 b1 lowA lowB
  have answered {u : State} (effect : ∀ x, Awaits (s.begun o 1) x → Awaits (u.begun o 1) (loadCeilings a b x))
      (hu : u.unobserved = []) (hi : u.ignores (.sys 3)) : answer = .next (u.answered o [2, 0, 11, 0]) :=
    loads.run hq ha effect hu hi
  have put {x : State} (hx : Awaits (s.begun o 1) x) : Awaits ((s.withCeilings a b).begun o 1) (x.withCeilings a b) := by
    obtain ⟨ws, hw, rfl⟩ := hx
    exact ⟨ws, hw, rfl⟩
  have ceilings {x : State} (hx : Awaits (s.begun o 1) x) (l : Link) : (x.link l).ceiling = (s.link l).ceiling := by
    obtain ⟨ws, -, rfl⟩ := hx
    rfl
  have pending (l : Link) : ((s.withCeilings a b).link l).pendingCredit ≤ 255 := by
    obtain ⟨⟨-, -, -, p, -⟩, ⟨-, -, -, q, -⟩, -⟩ := hsound
    cases l
    · exact p
    · exact q
  have grants (l : Link) (g : Nat) (hg : g = ((s.withCeilings a b).link l).grant (s.free - 1))
      (effect : ∀ x, Awaits (s.begun o 1) x → loadCeilings a b x = reviewOperation l (x.withCeilings a b)) :
      answer = .next (((s.withCeilings a b).granted l g).answered o [2, 0, 11, 0]) := by
    subst hg
    refine answered (fun x hx => ?_) (State.granted_unobserved hq.1.2) (State.granted_ignores hq.2.2)
    rw [effect x hx]
    exact reviewCeiling_awaits small (pending l) (put hx)
  refine ⟨fun sameA sameB => ?_, fun roseA sameB => ?_, fun sameA roseB => ?_, fun roseA roseB => ?_⟩
  · refine answered (u := s.withCeilings a b) (fun x hx => ?_) hq.1.2 hq.2.2
    rw [loadCeilings_eq, ceilings hx, ceilings hx, if_neg (Nat.not_lt.mpr sameA), if_neg (Nat.not_lt.mpr sameB)]
    exact put hx
  · intro g
    refine (grants .radio g rfl fun x hx => ?_).trans (congrArg _ ?_)
    · rw [loadCeilings_eq, ceilings hx, ceilings hx, if_pos roseA, if_neg (Nat.not_lt.mpr sameB)]
    · unfold State.granted
      split <;> rfl
  · intro g
    refine (grants .controller g rfl fun x hx => ?_).trans (congrArg _ ?_)
    · rw [loadCeilings_eq, ceilings hx, ceilings hx, if_neg (Nat.not_lt.mpr sameA), if_pos roseB]
    · unfold State.granted
      split <;> rfl
  · intro r
    let set' := (s.withCeilings a b).begun o 1
    let first := firstReviewed set'
    obtain ⟨links, free⟩ := reviewOperations_pool set'
    obtain ⟨links', free'⟩ := reviewBoth_congr (s := set') (t := { set with free := s.free - 1 }) rfl rfl
    have answer_eq := loads.leaves
      (v := { reviewOperation first.other (reviewOperation first set') with unobserved := [] }) hq ha (fun x hx => by
        have same : firstReviewed (x.withCeilings a b) = first := by
          obtain ⟨ws, -, rfl⟩ := hx
          rfl
        show drain (loadCeilings a b x) = _
        rw [loadCeilings_eq, ceilings hx, ceilings hx, if_pos roseA, if_pos roseB, same]
        exact reviewOperations_drain (put hx) hq.2.2) rfl
    refine ⟨_, answer_eq, free.trans free', ?_⟩
    simp only [pushUrgent, endProgress, State.withUrgent, State.setLink, State.link]
    rw [links, links']

end Sys2Proof.Machine
end

section
/-!
Requests that fail a check (O30): the records that no decoder takes, and the statuses that answer them.
-/
namespace Sys2Proof.Machine

/-! ## Codes that are not listed -/

theorem portOfCode_none {n : Nat} (h : 5 < n) : Port.ofCode n = none := by
  obtain ⟨m, rfl⟩ := Nat.exists_eq_add_of_le' h; rfl
theorem boolOf_none {b : Bool} {n : Nat} (h : 1 < n) : boolOf b n = none := by
  obtain ⟨m, rfl⟩ := Nat.exists_eq_add_of_le' h; rfl
theorem lossActionOfCode_none {n : Nat} (h : 2 < n) : LossAction.ofCode n = none := by
  obtain ⟨m, rfl⟩ := Nat.exists_eq_add_of_le' h; rfl
theorem watchedLinkOfCode_none {n : Nat} (h : 2 < n) : WatchedLink.ofCode n = none := by
  obtain ⟨m, rfl⟩ := Nat.exists_eq_add_of_le' h; rfl
theorem endActionOfCode_none {n : Nat} (h : 2 < n) : EndAction.ofCode n = none := by
  obtain ⟨m, rfl⟩ := Nat.exists_eq_add_of_le' h; rfl
theorem conditionOfCode_none {n : Nat} (h : 6 < n) : Condition.ofCode n = none := by
  obtain ⟨m, rfl⟩ := Nat.exists_eq_add_of_le' h; rfl
theorem reflexModeOfCode_none {n : Nat} (h : 1 < n) : ReflexMode.ofCode n = none := by
  obtain ⟨m, rfl⟩ := Nat.exists_eq_add_of_le' h; rfl
theorem subModeOfCode_none {n : Nat} (h : 2 < n) : SubMode.ofCode n = none := by
  obtain ⟨m, rfl⟩ := Nat.exists_eq_add_of_le' h; rfl
theorem roundingOfCode_none {n : Nat} (h : 3 < n) : Rounding.ofCode n = none := by
  obtain ⟨m, rfl⟩ := Nat.exists_eq_add_of_le' h; rfl
theorem rangePolicyOfCode_none {n : Nat} (h : 1 < n) : RangePolicy.ofCode n = none := by
  obtain ⟨m, rfl⟩ := Nat.exists_eq_add_of_le' h; rfl
theorem loadedReflexState_none {n : Nat} (h : 1 < n) : loadedReflexState n = none := by
  obtain ⟨m, rfl⟩ := Nat.exists_eq_add_of_le' h; rfl
theorem lineModeOfCode_none {n : Nat} (h : 1 < n) : LineMode.ofCode n = none := by
  obtain ⟨m, rfl⟩ := Nat.exists_eq_add_of_le' h; rfl
theorem linkOfCode_none {n : Nat} (h : 1 < n) : Link.ofCode n = none := by
  obtain ⟨m, rfl⟩ := Nat.exists_eq_add_of_le' h; rfl
theorem tableOfCode_none {n : Nat} (h : 16 < n) : Table.ofCode n = none := by
  obtain ⟨m, rfl⟩ := Nat.exists_eq_add_of_le' h; rfl
theorem voiceOfCode_none {n : Nat} (h : 3 < n) : voiceOfCode n = none := by
  rw [voiceOfCode, dif_neg (by omega)]
theorem cellIdOfCode_none {n : Nat} (h : 27 < n) : CellId.ofCode n = none := by
  rw [CellId.ofCode, if_neg (by omega), dif_neg (by omega)]
theorem optField_none {bound : Nat} {b : Byte} (present : b.toNat ≠ 255) (h : bound ≤ b.toNat) : optField bound b = none := by
  have : b ≠ 255 := fun e => present (by rw [e]; rfl)
  rw [optField, if_neg this, if_neg (by omega)]

/-- Two bytes that name neither a route nor its absence (R197). -/
abbrev NoRoute (link channel : Byte) : Prop := link.toNat ≠ 255 ∧ (1 < link.toNat ∨ 15 < channel.toNat)

theorem routeOf_none {link channel : Byte} (h : NoRoute link channel) : routeOf link channel = none := by
  obtain ⟨present, h⟩ := h
  have absent : link ≠ 255 := fun e => present (by rw [e]; rfl)
  rw [routeOf, if_neg absent]
  rcases h with h | h
  · rw [linkOfCode_none h]
  · split
    · rw [dif_neg (by omega)]
    · rfl

theorem endpointOf_none {link channel : Byte} (h : 1 < link.toNat ∨ 15 < channel.toNat) : endpointOf link channel = none := by
  unfold endpointOf
  split
  · rfl
  · next present =>
    have : link.toNat ≠ 255 := fun e => present (BitVec.eq_of_toNat_eq e)
    rw [routeOf_none ⟨this, h⟩]
    rfl

/-- A number of two bytes by its bytes. -/
theorem num16_eq (bs : List Byte) (k : Nat) : num16 bs k = num8 bs k + 256 * num8 bs (k + 1) := by
  have lo := (byteAt bs k).isLt
  have hi := (byteAt bs (k + 1)).isLt
  rw [num16, word16, BitVec.toNat_ofNat]
  simp only [num8]
  omega

/-! ## Records that no decoder takes -/

theorem routeEntryOf_none {bs : List Byte} (h : 4 < num8 bs 0 ∨ num8 bs 0 = 2 ∧ 5 < num8 bs 1 ∨
    num8 bs 0 = 3 ∧ 3 < num8 bs 2 ∨ num8 bs 0 = 4 ∧ 15 < num8 bs 3) : routeEntryOf bs = none := by
  unfold routeEntryOf
  rcases h with h | ⟨e, h⟩ | ⟨e, h⟩ | ⟨e, h⟩
  · obtain ⟨m, e⟩ := Nat.exists_eq_add_of_le' h
    rw [e]
    rfl
  · rw [e, portOfCode_none h]; rfl
  · rw [e, voiceOfCode_none h]; rfl
  · rw [e]
    exact dif_neg (by omega)

theorem classEntryOf_none {bs : List Byte} (h : num16 bs 0 = 0 ∨ num16 bs 2 = 0 ∨ 20000 < num16 bs 2 ∨ 4095 < num16 bs 4 ∨
    4095 < num16 bs 6) : classEntryOf bs = none := by
  simp only [classEntryOf, Bool.and_eq_true, decide_eq_true_eq]
  exact if_neg (by omega)

theorem motorSettingsOf_ne {bs : List Byte} (h : 4095 < num16 bs 0 ∨ 4095 < num16 bs 2 ∨ int32 bs 6 < 0 ∨
    10000000 < int32 bs 6 ∨ 10000 < num16 bs 10 ∨ 10000 < num16 bs 12 ∨ 10000 < num16 bs 14 ∨ 10000 < num16 bs 16 ∨
    num16 bs 18 = 0 ∨ 10000 < num16 bs 20 ∨ 1 < num8 bs 24 ∨ 2 < num8 bs 25 ∨ 2 < num8 bs 26 ∨ 3 < num8 bs 27 ∨
    NoRoute (byteAt bs 28) (byteAt bs 29)) (g : MotorSettings) : motorSettingsOf bs ≠ some (some g) := by
  intro taken
  unfold motorSettingsOf at taken
  dsimp only at taken
  split at taken
  · next comp loss watched hc hl hw =>
    split at taken
    · split at taken
      · next route hr =>
        have fits := Option.some.inj taken
        split at fits
        · next range =>
          simp only [MotorSettings.inRange, Bool.and_eq_true, decide_eq_true_eq] at range
          rcases h with h | h | h | h | h | h | h | h | h | h | h | h | h | h | h
          case inr.inr.inr.inr.inr.inr.inr.inr.inr.inr.inl => rw [boolOf_none h] at hc; cases hc
          case inr.inr.inr.inr.inr.inr.inr.inr.inr.inr.inr.inl => rw [lossActionOfCode_none h] at hl; cases hl
          case inr.inr.inr.inr.inr.inr.inr.inr.inr.inr.inr.inr.inl => rw [watchedLinkOfCode_none h] at hw; cases hw
          case inr.inr.inr.inr.inr.inr.inr.inr.inr.inr.inr.inr.inr.inr => rw [routeOf_none h] at hr; cases hr
          all_goals omega
        · cases fits
      · cases taken
    · cases taken
  · cases taken

theorem portSettingsOf_none {bs : List Byte} (h : num16 bs 0 = 0 ∨ 1000 < num16 bs 0 ∨ 1000 < num16 bs 2 ∨
    num8 bs 4 ≠ 255 ∧ 7 < num8 bs 4 ∨ num8 bs 5 ≠ 255 ∧ 5 < num8 bs 5 ∨ 3 < num8 bs 6 ∨ 1 < num8 bs 7 ∨
    NoRoute (byteAt bs 8) (byteAt bs 9)) : portSettingsOf bs = none := by
  unfold portSettingsOf
  split
  · next mode table rounding policy route hm ht hr hp he =>
    rcases h with h | h | h | ⟨e, h⟩ | ⟨e, h⟩ | h | h | h
    case inr.inr.inr.inl => rw [optField_none e h] at hm; cases hm
    case inr.inr.inr.inr.inl => rw [optField_none e h] at ht; cases ht
    case inr.inr.inr.inr.inr.inl => rw [roundingOfCode_none h] at hr; cases hr
    case inr.inr.inr.inr.inr.inr.inl => rw [rangePolicyOfCode_none h] at hp; cases hp
    case inr.inr.inr.inr.inr.inr.inr => rw [routeOf_none h] at he; cases he
    all_goals
      refine if_neg ?_
      simp only [Bool.and_eq_true, decide_eq_true_eq]
      omega
  · rfl

theorem breakpointsRise_lt {t : List Breakpoint} (h : breakpointsRise t = true) (k : Nat) (hk : k + 1 < t.length) :
    t[k].raw < t[k + 1].raw := by
  induction t generalizing k with
  | nil => simp at hk
  | cons a rest ih =>
    cases rest with
    | nil => simp at hk
    | cons b rest =>
      simp only [breakpointsRise, Bool.and_eq_true, decide_eq_true_eq] at h
      cases k with
      | zero => exact h.1
      | succ k => exact ih h.2 k (by simpa using hk)

theorem calibrationOf_none {bs : List Byte} (h : num8 bs 0 < 2 ∨ 16 < num8 bs 0 ∨ bs.length ≠ 1 + 6 * num8 bs 0 ∨
    (∃ k, k + 1 < num8 bs 0 ∧ num16 bs (7 + 6 * k) ≤ num16 bs (1 + 6 * k)) ∨ 4095 < num16 bs (6 * num8 bs 0 - 5)) :
    calibrationOf bs = none := by
  unfold calibrationOf
  dsimp only
  refine if_neg ?_
  simp only [Bool.and_eq_true, decide_eq_true_eq]
  rintro ⟨⟨⟨lo, hi⟩, length⟩, rise⟩
  rcases h with h | h | h | ⟨k, hk, h⟩ | h
  · omega
  · omega
  · exact h length
  · have lt := breakpointsRise_lt rise k (by simpa using hk)
    simp only [List.getElem_map, List.getElem_range] at lt
    rw [show 1 + 6 * (k + 1) = 7 + 6 * k by omega] at lt
    omega
  · have le := breakpointsRise_raw rise { raw := num16 bs (1 + 6 * (num8 bs 0 - 1)), val := int32 bs (3 + 6 * (num8 bs 0 - 1)) }
      (List.mem_map.mpr ⟨num8 bs 0 - 1, by simp; omega, rfl⟩)
    rw [show 6 * num8 bs 0 - 5 = 1 + 6 * (num8 bs 0 - 1) by omega] at h
    exact absurd le (Nat.not_le.mpr h)

/-- The length of the parameters of a reflex action, by its code (R200). -/
def actionSize (n : Nat) : Nat := [20, 3, 13, 2, 2].getD n 0

theorem reflexActionOf_size {bs : List Byte} {a : ReflexAction} {n : Nat} (h : reflexActionOf bs = some (a, n)) :
    n = actionSize (num8 bs 15) ∧ num8 bs 15 ≤ 4 ∧ (num8 bs 15 < 2 → num8 bs 16 ≤ 5) ∧
      (num8 bs 15 = 1 → num8 bs 17 ≤ 2 ∧ num8 bs 18 ≤ 1) ∧ (num8 bs 15 = 2 ∨ num8 bs 15 = 3 → num8 bs 16 ≤ 3) ∧
      (num8 bs 15 = 3 → num8 bs 17 ≤ 1) ∧ (num8 bs 15 = 4 → num8 bs 16 ≤ 1 ∧ num8 bs 17 ≤ 15) := by
  have codes {α : Type} {f : Nat → Option α} {b k : Nat} {x : α} (hn : ∀ {n}, b < n → f n = none) (hx : f k = some x) :
      k ≤ b := by
    by_contra hk
    rw [hn (by omega)] at hx
    cases hx
  unfold reflexActionOf at h
  split at h
  · next e =>
    obtain ⟨p, hp, he⟩ := Option.map_eq_some_iff.mp h
    cases he
    have := codes portOfCode_none hp
    rw [e]
    exact ⟨rfl, by omega, by omega, by omega, by omega, by omega, by omega⟩
  · next e =>
    split at h
    · next p a lock hp ha hl =>
      cases h
      have := codes portOfCode_none hp
      have := codes endActionOfCode_none ha
      have := codes boolOf_none hl
      rw [e]
      exact ⟨rfl, by omega, by omega, by omega, by omega, by omega, by omega⟩
    · cases h
  · next e =>
    obtain ⟨v, hv, he⟩ := Option.map_eq_some_iff.mp h
    cases he
    have := codes voiceOfCode_none hv
    rw [e]
    exact ⟨rfl, by omega, by omega, by omega, by omega, by omega, by omega⟩
  · next e =>
    split at h
    · next v cut hv hc =>
      cases h
      have := codes voiceOfCode_none hv
      have := codes boolOf_none hc
      rw [e]
      exact ⟨rfl, by omega, by omega, by omega, by omega, by omega, by omega⟩
    · cases h
  · next e =>
    obtain ⟨x, hx, he⟩ := Option.map_eq_some_iff.mp h
    cases he
    have bound : num8 bs 16 ≤ 1 ∧ num8 bs 17 ≤ 15 := by
      by_contra hn
      rw [endpointOf_none (by simp only [num8] at hn; omega)] at hx
      cases hx
    rw [e]
    exact ⟨rfl, by omega, by omega, by omega, by omega, by omega, fun _ => bound⟩
  · cases h

theorem reflexOf_none {bs : List Byte} (h : bs.length ≠ 19 + actionSize (num8 bs 15) ∨ 27 < num8 bs 0 ∨ 6 < num8 bs 1 ∨
    int32 bs 10 < 0 ∨ (num8 bs 1 = 4 ∨ num8 bs 1 = 5) ∧ int32 bs 6 < int32 bs 2 ∨ 1 < num8 bs 14 ∨ 4 < num8 bs 15 ∨
    num8 bs 15 < 2 ∧ 5 < num8 bs 16 ∨ num8 bs 15 = 1 ∧ (2 < num8 bs 17 ∨ 1 < num8 bs 18) ∨
    (num8 bs 15 = 2 ∨ num8 bs 15 = 3) ∧ 3 < num8 bs 16 ∨ num8 bs 15 = 3 ∧ 1 < num8 bs 17 ∨
    num8 bs 15 = 4 ∧ (1 < num8 bs 16 ∨ 15 < num8 bs 17) ∨
    NoRoute (byteAt bs (16 + actionSize (num8 bs 15))) (byteAt bs (16 + actionSize (num8 bs 15) + 1)) ∨
    1 < num8 bs (18 + actionSize (num8 bs 15))) : reflexOf bs = none := by
  unfold reflexOf
  split
  · next cell condition mode action n hc hcond hm ha =>
    obtain ⟨rfl, a4, a16, a1, av, a3, ae⟩ := reflexActionOf_size ha
    generalize hsize : actionSize (num8 bs 15) = size at *
    split
    · next route state hr hs =>
      rcases h with h | h | h | h | h | h | h | h | h | h | h | h | h | h
      · exact if_neg (by simp only [Bool.and_eq_true, decide_eq_true_eq]; omega)
      · rw [cellIdOfCode_none h] at hc; cases hc
      · rw [conditionOfCode_none h] at hcond; cases hcond
      · exact if_neg (by simp only [Bool.and_eq_true, decide_eq_true_eq]; omega)
      · refine if_neg ?_
        have inside : condition = .inside ∨ condition = .outside := by
          rcases h.1 with e | e <;> rw [e] at hcond <;> cases hcond
          · exact .inl rfl
          · exact .inr rfl
        simp only [Bool.and_eq_true, Bool.or_eq_true, Bool.not_eq_true', Bool.or_eq_false_iff, decide_eq_false_iff_not
          , decide_eq_true_eq]
        rintro ⟨-, hno | hle⟩
        · exact inside.elim hno.1 hno.2
        · omega
      · rw [reflexModeOfCode_none h] at hm; cases hm
      · omega
      · omega
      · omega
      · omega
      · omega
      · omega
      · rw [show 17 + size = 16 + size + 1 by omega, routeOf_none h] at hr; cases hr
      · rw [loadedReflexState_none h] at hs; cases hs
    · rfl
  · rfl

theorem subscriptionOf_none {bs : List Byte} (h : 27 < num8 bs 0 ∨ 1 < num8 bs 1 ∨ 15 < num8 bs 2 ∨ 2 < num8 bs 3 ∨
    int32 bs 6 < 0 ∨ 1 < num8 bs 12) : subscriptionOf bs = none := by
  unfold subscriptionOf
  split
  · next cell target mode active hc ht hm ha =>
    rcases h with h | h | h | h | h | h
    · rw [cellIdOfCode_none h] at hc; cases hc
    · rw [endpointOf_none (.inl h)] at ht; cases ht
    · rw [endpointOf_none (.inr h)] at ht; cases ht
    · rw [subModeOfCode_none h] at hm; cases hm
    · exact if_neg (by omega)
    · rw [boolOf_none h] at ha; cases ha
  · rfl

theorem supplySettingsOf_none {bs : List Byte} (h : num16 bs 0 < 4800 ∨ 9000 < num16 bs 0 ∨ num16 bs 2 < 4500 ∨
    num16 bs 0 ≤ num16 bs 2 ∨ 1000 < num16 bs 4 ∨ num16 bs 6 < 4800 ∨ 9000 < num16 bs 6) : supplySettingsOf bs = none := by
  refine if_neg ?_
  simp only [Bool.and_eq_true, decide_eq_true_eq]
  omega

theorem soundSettingsOf_none {bs : List Byte} (h : 256 < num16 bs 0) : soundSettingsOf bs = none := if_neg (by omega)

theorem ceilingsOf_none {bs : List Byte} (h : num8 bs 0 < 8 ∨ 48 < num8 bs 0 ∨ num8 bs 1 < 8 ∨ 48 < num8 bs 1) :
    ceilingsOf bs = none := by
  refine if_neg ?_
  simp only [Bool.and_eq_true, decide_eq_true_eq]
  omega

theorem fixedRecord_none {α : Type} {n : Nat} {bs : List Byte} {f : List Byte → Option α}
    (h : bs.length ≠ n ∨ f bs = none) : fixedRecord n bs f = none := by
  rw [fixedRecord]
  split
  · next e => exact h.resolve_left fun hne => hne e
  · rfl

/-! ## Statuses -/

theorem load_refused {o : Origin} {t i : Byte} {bs : List Byte} {s : State} {st : Status} (hq : s.quiet)
    (ha : s.canAnswer o 2) (h : (Request.load t i bs).check s = st) (bad : st ≠ .ok) :
    run (directRequest o (.load t i bs) 7 0) s = .next (s.answered o [2, BitVec.ofNat 8 st.code]) :=
  directRequest_refused hq (by simp) h bad ha

theorem check_load_badIndex {t i : Byte} {bs : List Byte} {tab : Table} {s : State} (ht : Table.ofCode t.toNat = some tab)
    (hl : tab.loads = true) (hi : tab.entries ≤ i.toNat) : (Request.load t i bs).check s = .badIndex := by
  simp only [Request.check, ht, hl, Bool.not_true, Bool.false_eq_true, if_false, if_pos hi]

/-- The status of a LOAD of an entry that is there. -/
theorem check_load {t i : Byte} {bs : List Byte} {tab : Table} {s : State} (ht : Table.ofCode t.toNat = some tab)
    (hl : tab.loads = true) (hi : i.toNat < tab.entries) :
    (Request.load t i bs).check s = loadCheck (loadOf tab i.toNat bs) s := by
  simp only [Request.check, ht, hl, Bool.not_true, Bool.false_eq_true, if_false, if_neg (Nat.not_le.mpr hi)]

/-- A LOAD whose record no decoder takes. -/
theorem load_badValue {o : Origin} {t i : Byte} {bs : List Byte} {tab : Table} {s : State} (hq : s.quiet)
    (ha : s.canAnswer o 2) (ht : Table.ofCode t.toNat = some tab) (hl : tab.loads = true) (hi : i.toNat < tab.entries)
    (h : loadOf tab i.toNat bs = none) : run (directRequest o (.load t i bs) 7 0) s = .next (s.answered o [2, 4]) :=
  load_refused (st := .badValue) hq ha (by rw [check_load ht hl hi, h]; rfl) (by decide)

/-- A LOAD that a check against the state refuses. -/
theorem load_checked {o : Origin} {t i : Byte} {bs : List Byte} {tab : Table} {x : Load} {s : State} {st : Status}
    (hq : s.quiet) (ha : s.canAnswer o 2) (ht : Table.ofCode t.toNat = some tab) (hl : tab.loads = true)
    (hi : i.toNat < tab.entries) (hx : loadOf tab i.toNat bs = some x) (h : x.check s = st) (bad : st ≠ .ok) :
    run (directRequest o (.load t i bs) 7 0) s = .next (s.answered o [2, BitVec.ofNat 8 st.code]) :=
  load_refused hq ha (by rw [check_load ht hl hi, hx]; exact h) bad

/-- A breakpoint as its record holds it: the value modulo 2^32. -/
def Breakpoint.wrapped (b : Breakpoint) : Breakpoint := { b with val := (BitVec.ofInt 32 b.val).toInt }

theorem breakpointsRise_wrapped (t : List Breakpoint) : breakpointsRise (t.map Breakpoint.wrapped) = breakpointsRise t := by
  induction t with
  | nil => rfl
  | cons a rest ih =>
    cases rest with
    | nil => rfl
    | cons b rest => exact congrArg (decide (a.raw < b.raw) && ·) ih

/-- The record of every rising table is taken. -/
theorem calibrationOf_isSome {t : List Breakpoint} (l0 : 2 ≤ t.length) (l1 : t.length ≤ 16)
    (rise : breakpointsRise t = true) : calibrationOf (calibrationBytes t) = some (t.map Breakpoint.wrapped) := by
  have same : calibrationBytes t = calibrationBytes (t.map Breakpoint.wrapped) := by
    have word (v : Int) : leInt (BitVec.ofInt 32 v).toInt = leInt v := by rw [leInt, BitVec.ofInt_toInt]; rfl
    simp only [calibrationBytes, List.length_map, List.flatMap_map, Breakpoint.wrapped, word]
  rw [same]
  refine calibrationOf_bytes (by simpa using l0) (by simpa using l1) (by rw [breakpointsRise_wrapped, rise]) ?_
  intro b hb
  obtain ⟨a, -, rfl⟩ := List.mem_map.mp hb
  have lo := BitVec.le_toInt (BitVec.ofInt 32 a.val)
  have hi := BitVec.toInt_lt (x := BitVec.ofInt 32 a.val)
  simp only [Breakpoint.wrapped]
  omega

/-- The number of entries of each table by its code (R189). -/
theorem tableEntries_code (k : Fin 17) : (Table.ofCode k.val).map Table.entries =
    [32, 3, 6, 6, 6, 4, 8, 16, 24, 1, 1, 1, 1, 6, 28, 4, 1][k.val]? := by revert k; decide

/-- Settles O30. -/
theorem refusedRequestsChangeNothing : Obligations.RefusedRequestsChangeNothing := by
  intro o s hq ha refuses
  refine ⟨fun i bs => ?indexes, fun i bs => ?records, ?noMotor, ?classHeld, ?tableNamed, ?otherTable, ?unknownTable, ?readIndex
    , ?portIndexes, ?suspends, ?resumes, ?selects, ?modes, ?motorPorts, ?unlockNone, ?unlockState, ?arms, ?flags, ?attention
    , ?links, ?masks⟩
  case indexes =>
    have refused (t : Byte) (tab : Table) (ht : Table.ofCode t.toNat = some tab) (hl : tab.loads = true)
        (hi : tab.entries ≤ i.toNat) : run (directRequest o (.load t i bs) 7 0) s = .next (s.answered o [2, 3]) :=
      load_refused (st := .badIndex) hq ha (check_load_badIndex ht hl hi) (by decide)
    exact ⟨refused 0 .route rfl rfl, refused 1 .motorClass rfl rfl, fun h => ⟨refused 2 .motorSettings rfl rfl h
      , refused 3 .portSettings rfl rfl h, refused 4 .calibration rfl rfl h⟩, refused 5 .wavetable rfl rfl
      , refused 6 .envelope rfl rfl, refused 7 .reflex rfl rfl, refused 8 .subscription rfl rfl
      , fun h => ⟨refused 9 .supplySettings rfl rfl h, refused 10 .soundSettings rfl rfl h, refused 11 .linkSettings rfl rfl h
      , refused 12 .eventRoutes rfl rfl h⟩⟩
  case records =>
    intro n w z noRoute size
    have hw (k : Nat) : w k = num16 bs k := (num16_eq bs k).symm
    have hz (k : Nat) : z k = int32 bs k := by
      have sum : w k + 65536 * w (k + 2) =
          num8 bs k + 256 * num8 bs (k + 1) + 65536 * num8 bs (k + 2) + 16777216 * num8 bs (k + 3) := by
        show num8 bs k + 256 * num8 bs (k + 1) + 65536 * (num8 bs (k + 2) + 256 * num8 bs (k + 3)) = _
        omega
      show (BitVec.ofNat 32 (w k + 65536 * w (k + 2))).toInt = (word32 bs k).toInt
      rw [sum]
      rfl
    have bad (t : Byte) (tab : Table) (j : Byte) (ht : Table.ofCode t.toNat = some tab) (hl : tab.loads = true)
        (hi : j.toNat < tab.entries) (h : loadOf tab j.toNat bs = none) :
        run (directRequest o (.load t j bs) 7 0) s = .next (s.answered o [2, 4]) := load_badValue hq ha ht hl hi h
    simp only [hw, hz]
    refine ⟨fun hi h => bad 0 .route i rfl rfl hi ?_, fun hi h => bad 1 .motorClass i rfl rfl hi ?_, fun p hp hm h => ?motors
      , fun hi h => bad 3 .portSettings i rfl rfl hi ?_, fun hi h => bad 4 .calibration i rfl rfl hi ?_
      , fun hi h => bad 5 .wavetable i rfl rfl hi ?_, fun hi h => bad 6 .envelope i rfl rfl hi ?_
      , fun hi h => bad 7 .reflex i rfl rfl hi ?_, fun hi h => bad 8 .subscription i rfl rfl hi ?_
      , fun h => bad 9 .supplySettings 0 rfl rfl (by decide) ?_, fun h => bad 10 .soundSettings 0 rfl rfl (by decide) ?_
      , fun h => bad 11 .linkSettings 0 rfl rfl (by decide) ?_, fun h => bad 12 .eventRoutes 0 rfl rfl (by decide) ?_⟩
    case motors =>
      subst hp
      have index : (BitVec.ofNat 8 p.code).toNat < Table.motorSettings.entries := by rw [toNat_portCode]; exact portCode_lt p
      by_cases hlen : bs.length = 30
      · have hm := hm.resolve_left fun hne => hne hlen
        have ne := motorSettingsOf_ne (h.resolve_left fun hne => hne hlen)
        cases hr : motorSettingsOf bs with
        | none =>
          refine bad 2 .motorSettings _ rfl rfl index ?_
          simp only [loadOf, fixedRecord_of_length _ hlen, hr, Option.map_none]
        | some inner =>
          cases inner with
          | some g => exact absurd hr (ne g)
          | none =>
            refine load_checked (tab := .motorSettings) (x := .motorSettings p none) (st := .badValue) hq ha rfl rfl index ?_ ?_
              (by decide)
            · simp only [loadOf, toNat_portCode, portIndex_code, fixedRecord_of_length _ hlen, hr, Option.map_some]
            · obtain ⟨m, hm⟩ := Option.ne_none_iff_exists'.mp hm
              simp only [Load.check, hm, Option.isNone_some, Bool.false_eq_true, if_false, Option.isNone_none, if_true]
      · refine bad 2 .motorSettings _ rfl rfl index ?_
        simp only [loadOf, fixedRecord_none (.inl hlen), Option.map_none]
    · simp only [loadOf, fixedRecord_none (h.imp_right routeEntryOf_none), Option.map_none]
    · simp only [loadOf, fixedRecord_none (h.imp_right classEntryOf_none), Option.map_none, Option.bind_fun_none]
    · simp only [loadOf, fixedRecord_none (h.imp_right portSettingsOf_none), Option.map_none]
    · simp only [loadOf, calibrationOf_none h, Option.map_none, Option.bind_fun_none]
    · simp only [loadOf, fixedRecord_none (.inl h), Option.bind_fun_none]
    · simp only [loadOf, fixedRecord_none (.inl h), Option.bind_fun_none]
    · simp only [loadOf, reflexOf_none (bs := bs) h, Option.map_none, Option.bind_fun_none]
    · simp only [loadOf, fixedRecord_none (h.imp_right subscriptionOf_none), Option.map_none, Option.bind_fun_none]
    · simp only [loadOf, fixedRecord_none (h.imp_right supplySettingsOf_none), Option.map_none]
    · simp only [loadOf, fixedRecord_none (h.imp_right soundSettingsOf_none), Option.map_none]
    · simp only [loadOf, fixedRecord_none (h.imp_right ceilingsOf_none), Option.map_none]
    · simp only [loadOf, fixedRecord_none (f := fun bs => routeOf (byteAt bs 0) (byteAt bs 1))
        (h.imp_right fun h => routeOf_none (link := byteAt bs 0) (channel := byteAt bs 1) h), Option.map_none]
  case noMotor =>
    intro p g hm hg
    refine load_checked (tab := .motorSettings) (x := .motorSettings p (some g)) (st := .noDevice) hq ha rfl rfl
      (by rw [toNat_portCode]; exact portCode_lt p) ?_ ?_ (by decide)
    · simp only [loadOf, toNat_portCode, portIndex_code, fixedRecord_of_length _ g.bytes_length, motorSettingsOf_bytes hg
        , Option.map_some]
    · simp only [Load.check, hm, Option.isNone_none, if_true]
  case classHeld =>
    intro i c e p hc c0 c1 r0 r1 kp ki kf hm hcls
    have index := toNat_index i.isLt (by decide)
    refine load_checked (tab := .motorClass) (x := .motorClass c e) (st := .inUse) hq ha rfl rfl (by rw [index]; exact i.isLt)
      ?_ ?_ (by decide)
    · simp only [loadOf, index, hc, Option.bind_some, fixedRecord_of_length _ (show e.bytes.length = 10 from rfl)
        , classEntryOf_bytes c0 c1 r0 r1 kp ki kf, Option.map_some]
    · have held : classInUse c s = true := by
        refine List.any_eq_true.mpr ⟨p, by cases p <;> decide, ?_⟩
        simp only [hcls, decide_true, Bool.true_and, Option.isSome_iff_ne_none]
        exact hm
      simp only [Load.check, held, if_true]
  case tableNamed =>
    intro i t p l0 l1 rise hst hcal
    have index := toNat_index i.isLt (by decide)
    refine load_checked (tab := .calibration) (x := .calibration i (t.map Breakpoint.wrapped)) (st := .inUse) hq ha rfl rfl
      (by rw [index]; exact i.isLt) ?_ ?_ (by decide)
    · simp only [loadOf, index, finOf_of_lt i.isLt, Option.bind_some, calibrationOf_isSome l0 l1 rise, Option.map_some]
    · have named : tableInUse i s = true := by
        refine List.any_eq_true.mpr ⟨p, by cases p <;> decide, ?_⟩
        simp only [hst, hcal, decide_true, Bool.and_self]
      simp only [Load.check, named, if_true]
  case otherTable =>
    intro p g a0 a1 poll mode hst hne
    refine load_checked (tab := .portSettings) (x := .portSettings p g) (st := .inUse) hq ha rfl rfl
      (by rw [toNat_portCode]; exact portCode_lt p) ?_ ?_ (by decide)
    · simp only [loadOf, toNat_portCode, portIndex_code, fixedRecord_of_length _ g.bytes_length
        , portSettingsOf_bytes a0 a1 poll mode, Option.map_some]
    · simp only [Load.check, hst, hne, ne_eq, not_false_eq_true, decide_true, Bool.and_self, if_true]
  case unknownTable =>
    intro t i ht
    refine directRequest_refused (q := .read t i) (st := .badTable) (band := 7) (raw := 0) hq (by simp) ?_ (by decide) ha
    simp only [Request.check, tableOfCode_none ht]
  case readIndex =>
    intro t i n hn hi
    refine directRequest_refused (q := .read t i) (st := .badIndex) (band := 7) (raw := 0) hq (by simp) ?_ (by decide) ha
    have listed : t.toNat < 17 := (List.getElem?_eq_some_iff.mp hn).1
    have code := tableEntries_code ⟨t.toNat, listed⟩
    rw [hn] at code
    obtain ⟨tab, ht, he⟩ := Option.map_eq_some_iff.mp code
    have ht : Table.ofCode t.toNat = some tab := ht
    simp only [Request.check, ht, he, if_pos hi]
  case portIndexes =>
    intro p band raw mode hp c hc
    have refused (operation mode : Byte) (band : Band) (raw : RawSample) :
        run (directRequest o (.portControl p operation mode) band raw) s = .next (s.answered o [4, 3]) := by
      refine directRequest_refused (st := .badIndex) hq (by simp) ?_ (by decide) ha
      simp only [Request.check, portOfCode_none hp]
    simp only [List.mem_cons, List.not_mem_nil, or_false] at hc
    obtain rfl | rfl | rfl | rfl := hc
    · exact refused 0 0 band 0
    · exact refused 1 0 7 0
    · exact refused 2 0 7 raw
    · exact refused 3 mode 7 0
  case suspends =>
    intro p hst
    refine directRequest_refused (q := .portControl (BitVec.ofNat 8 p.code) 1 0) (st := .wrongState) (band := 7) (raw := 0) hq
      (by simp) ?_ (by decide) ha
    simp only [Request.check, toNat_portCode, portOfCode_code]
    exact if_neg hst
  case resumes =>
    intro p raw hst
    refine directRequest_refused (q := .portControl (BitVec.ofNat 8 p.code) 2 0) (st := .wrongState) (band := 7) (raw := raw) hq
      (by simp) ?_ (by decide) ha
    simp only [Request.check, toNat_portCode, portOfCode_code]
    exact if_neg hst
  case selects =>
    intro p mode hst
    refine directRequest_refused (q := .portControl (BitVec.ofNat 8 p.code) 3 mode) (st := .wrongState) (band := 7) (raw := 0)
      hq (by simp) ?_ (by decide) ha
    simp only [Request.check, toNat_portCode, portOfCode_code]
    refine if_pos ?_
    simp only [Bool.or_eq_true, decide_eq_true_eq, Option.isSome_iff_ne_none]
    tauto
  case modes =>
    intro p mode d hcls hst hch hd hlong
    refine directRequest_refused (q := .portControl (BitVec.ofNat 8 p.code) 3 mode) (st := .badValue) (band := 7) (raw := 0)
      hq (by simp) ?_ (by decide) ha
    simp only [Request.check, toNat_portCode, portOfCode_code]
    show selectModeCheck (s.port p) mode.toNat = _
    simp only [selectModeCheck, hst, hcls, hch, hd, ne_eq, not_true, decide_false, Option.isSome_none, Bool.or_self
      , Bool.false_eq_true, if_false, if_neg (Nat.not_lt.mpr hlong)]
  case motorPorts =>
    intro p mask hp
    refine ⟨directRequest_refused (q := .motorUnlock p) (st := .badIndex) (band := 7) (raw := 0) hq (by simp) ?_ (by decide) ha
      , directRequest_refused (q := .setFlagMask p mask) (st := .badIndex) (band := 7) (raw := 0) hq (by simp) ?_ (by decide) ha⟩
    · simp only [Request.check, portOfCode_none hp]
    · exact if_pos hp
  case unlockNone =>
    intro p hm
    refine directRequest_refused (q := .motorUnlock (BitVec.ofNat 8 p.code)) (st := .noDevice) (band := 7) (raw := 0) hq
      (by simp) ?_ (by decide) ha
    simp only [Request.check, toNat_portCode, portOfCode_code, unlockCheck, hm]
  case unlockState =>
    intro p m hm hst
    refine directRequest_refused (q := .motorUnlock (BitVec.ofNat 8 p.code)) (st := .wrongState) (band := 7) (raw := 0) hq
      (by simp) ?_ (by decide) ha
    simp only [Request.check, toNat_portCode, portOfCode_code, unlockCheck, hm, hst, if_false]
  case arms =>
    intro i hi
    exact directRequest_refused (q := .reflexArm i) (st := .badIndex) (band := 7) (raw := 0) hq (by simp)
      (if_neg (by omega)) (by decide) ha
  case flags =>
    intro p hp
    exact directRequest_refused (q := .readFlags p) (st := .badIndex) (band := 7) (raw := 0) hq (by simp)
      (if_neg (by omega)) (by decide) ha
  case attention =>
    intro mask mode h
    refine directRequest_refused (q := .setAttention mask mode) (st := .badValue) (band := 7) (raw := 0) hq (by simp) ?_
      (by decide) ha
    refine if_neg ?_
    simp only [Bool.and_eq_true, decide_eq_true_eq, not_and, Bool.not_eq_true, Option.isSome_eq_false_iff
      , Option.isNone_iff_eq_none]
    rcases h with h | h
    · exact fun hm => absurd hm (by omega)
    · exact fun _ => lineModeOfCode_none h
  case links =>
    intro l hl
    exact directRequest_refused (q := .readCounters l) (st := .badIndex) (band := 7) (raw := 0) hq (by simp)
      (if_neg (by omega)) (by decide) ha
  case masks =>
    intro p mask hm
    refine directRequest_refused (q := .setFlagMask (BitVec.ofNat 8 p.code) mask) (st := .badValue) (band := 7) (raw := 0) hq
      (by simp) ?_ (by decide) ha
    simp only [Request.check, toNat_portCode, if_neg (Nat.not_le.mpr (portCode_lt p)), if_neg (Nat.not_lt.mpr hm)]

end Sys2Proof.Machine
end

section
/-!
Writes of port cells that nothing acts on, and the flags that they raise (R82, R83, R89 to R91), in every phase of a command.
-/
namespace Sys2Proof.Machine

variable {c : Prop} {o : Phase} {r : Vector Reflex 16} {k : Nat} {s t u : State} {p : Port}

/-! ## Flags and the observers of a write -/

/-- A notice or an event writes no cell but S3. -/
theorem State.handed_cell (t : State) (l : Link) (f : Frame) {d : CellId} (h : d ≠ .sys 3) : (t.handed l f).cell d = t.cell d := by
  unfold State.handed
  dsimp only
  split
  · exact State.cell_setLink ..
  · split
    · cases d <;> rfl
    · cases d with
      | port q i => rfl
      | sys i => exact Quad.get_set_other t.sys (i := 3) _ fun e => h (congrArg _ e.symm)

theorem State.event_cell (t : State) (route : Option Endpoint) (payload : List Byte) {d : CellId} (h : d ≠ .sys 3) :
    (t.event route payload).cell d = t.cell d := by
  cases route with
  | none => rfl
  | some e => exact t.handed_cell _ _ h

theorem Reporting.raiseFlags {raised : BitVec 5} (h : Reporting c o r (k + 1) t u)
    (hc : (t.port p).settings.eventRoute = none ∨ c) :
    Reporting c o r k ((t.latched 6).flagEvent p raised) (Machine.raiseFlags p raised u) := by
  have told := (h.setLatch 6).sendEvent (route := (t.port p).settings.eventRoute)
    (payload := portFlagPayload p raised (t.flag p) t.hubTime) hc
  rw [Machine.raiseFlags, h.port, h.flag, h.hubTime]
  exact told

theorem State.flagSet_of_clear {j : Nat} (hf : (t.flag p).flags.getLsbD j = false) :
    t.flagSet p j = if (t.flag p).mask.getLsbD j then
      (t.setFlagRec p { t.flag p with flags := (t.flag p).flags ||| flagBit j }).latched 6
    else t.setFlagRec p { t.flag p with flags := (t.flag p).flags ||| flagBit j } := by
  simp only [State.flagSet, hf, Bool.false_eq_true, if_false]

theorem State.flagReported_raised {j : Nat} (hf : (t.flag p).flags.getLsbD j = false) (hm : (t.flag p).mask.getLsbD j = true) :
    t.flagReported p j = State.flagEvent ((t.setFlagRec p { t.flag p with flags := (t.flag p).flags ||| flagBit j }).latched 6) p
      (flagBit j) := by
  rw [State.flagReported, if_pos ⟨hf, hm⟩, State.flagSet_of_clear hf, if_pos hm]

theorem State.flagReported_masked {j : Nat} (hf : (t.flag p).flags.getLsbD j = false) (hm : (t.flag p).mask.getLsbD j = false) :
    t.flagReported p j = t.setFlagRec p { t.flag p with flags := (t.flag p).flags ||| flagBit j } := by
  rw [State.flagReported, if_neg (by simp [hm]), State.flagSet_of_clear hf, if_neg (by simp [hm])]

theorem State.flagReported_set {j : Nat} (hf : (t.flag p).flags.getLsbD j = true) : t.flagReported p j = t := by
  simp [State.flagReported, State.flagSet, hf]

theorem Reporting.setFlag {j : Nat} (h : Reporting c o r (k + 1) t u) (hc : (t.port p).settings.eventRoute = none ∨ c) :
    Reporting c o r k (t.flagReported p j) (Machine.setFlag p j u) := by
  rw [Machine.setFlag, h.flag]
  cases hf : (t.flag p).flags.getLsbD j with
  | true =>
    rw [State.flagReported_set hf]
    exact h.less
  | false =>
    have put := h.setFlagRec p { t.flag p with flags := (t.flag p).flags ||| flagBit j }
    cases hm : (t.flag p).mask.getLsbD j with
    | true =>
      rw [State.flagReported_raised hf hm]
      exact put.raiseFlags hc
    | false =>
      rw [State.flagReported_masked hf hm]
      exact put.less

/-- `t` after the flags of a port were written with one of its cells (R89, R91). -/
def State.flagsWritten (t : State) (p : Port) (range : Bool) : State :=
  let f := t.flag p
  let v := t.setFlagRec p (f.afterWrite range)
  if f.raisedByWrite range = 0 then v else (v.latched 6).flagEvent p (f.raisedByWrite range)

theorem Reporting.writeFlags {range : Bool} (h : Reporting c o r (k + 1) t u)
    (hc : (t.port p).settings.eventRoute = none ∨ c) :
    Reporting c o r k (t.flagsWritten p range) (Machine.writeFlags p range u) := by
  have put := h.setFlagRec p ((t.flag p).afterWrite range)
  rw [Machine.writeFlags, h.flag, State.flagsWritten]
  split
  · exact put.less
  · exact put.raiseFlags hc

/-- A write that raises nothing. -/
theorem Reporting.writeFlags_quiet {range : Bool} (h : Reporting c o r k t u) (hq : (t.flag p).raisedByWrite range = 0) :
    Reporting c o r k (t.setFlagRec p ((t.flag p).afterWrite range)) (Machine.writeFlags p range u) := by
  rw [Machine.writeFlags, h.flag, if_pos hq]
  exact h.setFlagRec ..

/-- A write at its observers, of which none acts: the DISABLED reflexes on the cell note it. -/
theorem Reporting.observe {w : Write} (h : Reporting c o r k t u)
    (hd : ∀ i, (r.get i).cell = w.cell → (r.get i).state = .disabled)
    (hs : ∀ i, (t.sub i).active = true → (t.sub i).cell ≠ w.cell) :
    Reporting c o (r.map (Reflex.noting w)) k t (Machine.observe w u) := by
  have reflexes : u.reflexes = r := by
    obtain ⟨ws, -, rfl⟩ := h.awaits
    rfl
  have subs : u.subs = t.subs := h.reads (g := State.subs) fun _ => by cases o <;> rfl
  have seen : Machine.observe w u = u.withReflexes (r.map (Reflex.noting w)) := by
    rw [Machine.observe, observeReflexes_dormant fun i => by rw [State.reflex, reflexes]; exact hd i, reflexes]
    exact observeSubs_ignored fun i => by rw [State.sub, subs]; exact hs i
  have noting_cell (i : Fin 16) : ((r.map (Reflex.noting w)).get i).cell = (r.get i).cell := by
    simp [Vector.get_eq_getElem]
  rw [seen]
  refine ⟨?_, h.still, fun hn => ?_, h.ready, h.settled⟩
  · obtain ⟨ws, hw, rfl⟩ := h.awaits
    exact ⟨ws, hw, rfl⟩
  · obtain ⟨h1, h2⟩ := h.unwatched hn
    exact ⟨fun i => by rw [noting_cell]; exact h1 i, h2⟩

/-- The writes of S3 that wait are handed over without effect. -/
theorem Reporting.drained (h : Reporting c o r k t u) : Reporting c o r k t (Machine.drain u) := by
  have settled : ((t.seen o).withReflexes r).unobserved = [] := by cases o <;> exact h.settled
  rw [h.drain]
  exact ⟨.of_nil settled, fun _ _ => settled, h.unwatched, h.ready, h.settled⟩

theorem Reporting.commitPortWrite {i : Fin 4} {left : Cell} {range : Bool} (h : Reporting c o r (k + 1) t u)
    (hc : (t.port p).settings.eventRoute = none ∨ c) (hd : ∀ j, (r.get j).cell = .port p i → (r.get j).state = .disabled)
    (hs : ∀ j, (t.sub j).active = true → (t.sub j).cell ≠ .port p i)
    (subs : ((t.setCell (.port p i) left).flagsWritten p range).subs = t.subs) :
    Reporting c o (r.map (Reflex.noting ⟨.port p i, left⟩)) k ((t.setCell (.port p i) left).flagsWritten p range)
      (Machine.commitPortWrite p i left range u) :=
  (((h.setPortCell p i left).writeFlags hc).observe hd (by simp only [State.sub, subs]; exact hs)).drained

/-- A write of a port cell that raises nothing. -/
theorem Reporting.commitPortWrite_quiet {i : Fin 4} {left : Cell} {range : Bool} (h : Reporting c o r k t u)
    (hq : (t.flag p).raisedByWrite range = 0) (hd : ∀ j, (r.get j).cell = .port p i → (r.get j).state = .disabled)
    (hs : ∀ j, (t.sub j).active = true → (t.sub j).cell ≠ .port p i) :
    Reporting c o (r.map (Reflex.noting ⟨.port p i, left⟩)) k
      ((t.setCell (.port p i) left).setFlagRec p ((t.flag p).afterWrite range)) (Machine.commitPortWrite p i left range u) :=
  (((h.setPortCell p i left).writeFlags_quiet (p := p) hq).observe hd (by simpa using hs)).drained

end Sys2Proof.Machine
end

section
/-!
The port manager on a port whose cells nothing acts on (chapter 03): each of its operations as what it says of the port, its
acquisition, its flags, its cells and its motor, with its event, in every phase of a command.
-/
namespace Sys2Proof.Machine

variable {c : Prop} {o : Phase} {k : Nat} {s t u : State} {p : Port}

/-! ## Reflexes that note -/

theorem Vector.get_of_map {α β : Type} {n : Nat} (f : α → β) (v : Vector α n) (i : Fin n) : (v.map f).get i = f (v.get i) := by
  simp [Vector.get_eq_getElem]

theorem State.noted_reflex (t s : State) (i : Fin 16) : (t.noted s).reflexes.get i =
    if (t.cell (t.reflex i).cell).updateCount = (s.cell (t.reflex i).cell).updateCount then t.reflex i
    else { t.reflex i with
      lastValue := (t.cell (t.reflex i).cell).value, lastTag := (t.cell (t.reflex i).cell).tag } :=
  Vector.get_of_map _ t.reflexes i

theorem State.noted_reflex_cell (t s : State) (i : Fin 16) : ((t.noted s).reflexes.get i).cell = (t.reflex i).cell := by
  rw [State.noted_reflex]
  split <;> rfl

theorem State.noted_reflex_state (t s : State) (i : Fin 16) : ((t.noted s).reflexes.get i).state = (t.reflex i).state := by
  rw [State.noted_reflex]
  split <;> rfl

theorem Vector.ext_get {α : Type} {n : Nat} {v w : Vector α n} (h : ∀ i, v.get i = w.get i) : v = w := by
  ext j hj
  simpa [Vector.get_eq_getElem] using h ⟨j, hj⟩

/-- Reflexes note nothing where the cells that they watch were not written. -/
theorem State.noted_of_unwritten (hr : t.reflexes = s.reflexes) (h : ∀ i, t.cell (s.reflex i).cell = s.cell (s.reflex i).cell) :
    t.noted s = t := by
  have : (t.noted s).reflexes = t.reflexes := by
    refine Vector.ext_get fun i => ?_
    have same : t.reflex i = s.reflex i := by rw [State.reflex, hr]; rfl
    rw [State.noted_reflex, same, h i, if_pos rfl, ← same]
    rfl
  exact State.withReflexes_of_eq this.symm

theorem State.noted_self (s : State) : s.noted s = s := State.noted_of_unwritten rfl fun _ => rfl

theorem noted_reflexes_congr {t' : State} (hr : t'.reflexes = t.reflexes)
    (h : ∀ i, t'.cell (t.reflex i).cell = t.cell (t.reflex i).cell) : (t'.noted s).reflexes = (t.noted s).reflexes := by
  refine Vector.ext_get fun i => ?_
  have same : t'.reflex i = t.reflex i := by rw [State.reflex, hr]; rfl
  rw [State.noted_reflex, State.noted_reflex, same, h i]

/-- A first write of a cell in a command is noted. -/
theorem noted_setCell {d : CellId} {left : Cell} (fresh : (t.cell d).updateCount = (s.cell d).updateCount)
    (writes : left.updateCount ≠ (s.cell d).updateCount) :
    ((t.setCell d left).noted s).reflexes = (t.noted s).reflexes.map (Reflex.noting ⟨d, left⟩) := by
  refine Vector.ext_get fun i => ?_
  rw [State.noted_reflex, State.reflex_setCell]
  rw [Vector.get_of_map, Reflex.noting, State.noted_reflex_cell, State.noted_reflex]
  by_cases e : (t.reflex i).cell = d
  · subst e
    rw [State.cell_setCell_same, if_neg writes, if_pos fresh, if_pos rfl]
  · rw [State.cell_setCell_other t left (Ne.symm e), if_neg e]

/-! ## What was done to a port -/

/-- `u` is the hub of a command that began in `s`, with a port whose cells nothing acts on: what was done is `t`, beside the
reflexes that noted a write, and the unit may hand over `k` events more. -/
structure PortActs (c : Prop) (o : Phase) (s : State) (p : Port) (k : Nat) (t u : State) : Prop where
  acts : Reporting c o (t.noted s).reflexes k t u
  reflexes : t.reflexes = s.reflexes
  subs : t.subs = s.subs
  system : ∀ i j, (s.reflex i).cell = .sys j → t.cell (.sys j) = s.cell (.sys j)
  dormant : ∀ i, s.dormant (.port p i)
  route : (t.port p).settings.eventRoute = none ∨ c

theorem PortActs.of_calm (h : s.calmPort p) : PortActs s.reports .alone s p k s s where
  acts := by
    rw [State.noted_self]
    exact .of_settled h.1 id
  reflexes := rfl
  subs := rfl
  system _ _ _ := rfl
  dormant := h.2.1
  route := h.2.2.2

theorem PortActs.of_still (h : s.stillPort p) : PortActs False .alone s p k s s where
  acts := by
    rw [State.noted_self]
    exact .of_settled h.1 False.elim
  reflexes := rfl
  subs := rfl
  system _ _ _ := rfl
  dormant := h.2.1
  route := .inl h.2.2.1

theorem PortActs.reflex (h : PortActs c o s p k t u) (i : Fin 16) : t.reflex i = s.reflex i := by
  rw [State.reflex, h.reflexes]
  rfl

/-- Where an event may be handed over, no reflex watches S3. -/
theorem PortActs.watched (h : PortActs c o s p k t u) (i : Fin 16) :
    (t.port p).settings.eventRoute = none ∨ (t.reflex i).cell ≠ .sys 3 := by
  refine h.route.imp_right fun hc => ?_
  have := (h.acts.unwatched (.inl hc)).1 i
  rwa [State.noted_reflex_cell] at this

/-- One step that writes no cell. -/
theorem PortActs.step {k' : Nat} {t' u' : State} (h : PortActs c o s p k t u)
    (acts : Reporting c o (t.noted s).reflexes k' t' u') (hr : t'.reflexes = t.reflexes) (hs : t'.subs = t.subs)
    (hc : ∀ i, t'.cell (t.reflex i).cell = t.cell (t.reflex i).cell)
    (hset : (t'.port p).settings = (t.port p).settings) : PortActs c o s p k' t' u' where
  acts := by rwa [noted_reflexes_congr hr hc]
  reflexes := hr.trans h.reflexes
  subs := hs.trans h.subs
  system i j hj := by
    have same := hc i
    rw [h.reflex i, hj] at same
    exact same.trans (h.system i j hj)
  dormant := h.dormant
  route := by rw [hset]; exact h.route

theorem PortActs.setPort (h : PortActs c o s p k t u) {x : PortRec} (hx : x.settings = (t.port p).settings) :
    PortActs c o s p k (t.setPort p x) (u.setPort p x) :=
  h.step (h.acts.setPort p x) rfl rfl (fun _ => State.cell_setPort ..) (by rw [State.port_setPort_same]; exact hx)

theorem PortActs.setAcq (h : PortActs c o s p k t u) (x : Acquisition) : PortActs c o s p k (t.setAcq p x) (u.setAcq p x) :=
  h.step (h.acts.setAcq p x) rfl rfl (fun _ => State.cell_setAcq ..) rfl

theorem PortActs.setFlagRec (h : PortActs c o s p k t u) (x : FlagRec) :
    PortActs c o s p k (t.setFlagRec p x) (u.setFlagRec p x) :=
  h.step (h.acts.setFlagRec p x) rfl rfl (fun _ => State.cell_setFlagRec ..) rfl

theorem PortActs.setMotor (h : PortActs c o s p k t u) (x : Option Motor) :
    PortActs c o s p k (t.setMotor p x) (u.setMotor p x) :=
  h.step (h.acts.setMotor p x) rfl rfl (fun _ => State.cell_setMotor ..) rfl

/-! ## Reports -/

theorem State.event_cell_of (t : State) (route : Option Endpoint) (payload : List Byte) {d : CellId}
    (h : route = none ∨ d ≠ .sys 3) : (t.event route payload).cell d = t.cell d := by
  obtain rfl | h := h
  · rfl
  · exact t.event_cell _ _ h

theorem State.latched_cell (t : State) (n : Nat) (d : CellId) : (t.latched n).cell d = t.cell d := by cases d <;> rfl

theorem PoolOnly.subs (h : PoolOnly s t) : t.subs = s.subs := by
  obtain ⟨_, _, _, _, rfl⟩ := h
  rfl

theorem PoolOnly.port (h : PoolOnly s t) (q : Port) : t.port q = s.port q := by
  obtain ⟨_, _, _, _, rfl⟩ := h
  rfl

theorem PoolOnly.acquisition (h : PoolOnly s t) (q : Port) : t.acquisition q = s.acquisition q := by
  obtain ⟨_, _, _, _, rfl⟩ := h
  rfl

theorem PoolOnly.flag (h : PoolOnly s t) (q : Port) : t.flag q = s.flag q := by
  obtain ⟨_, _, _, _, rfl⟩ := h
  rfl

theorem PoolOnly.motor (h : PoolOnly s t) (q : Port) : t.motor q = s.motor q := by
  obtain ⟨_, _, _, _, rfl⟩ := h
  rfl

theorem PoolOnly.cells (h : PoolOnly s t) : t.cells = s.cells := by
  obtain ⟨_, _, _, _, rfl⟩ := h
  rfl

theorem State.portReported_poolOnly (t : State) (p : Port) : PoolOnly t (t.portReported p) :=
  (t.latched_poolOnly _).trans (State.event_poolOnly ..)

/-- A flag that is set changes its record, and beside it what an event and a latch change. -/
theorem State.flagReported_poolOnly (t : State) (p : Port) (j : Nat) :
    ∃ f, PoolOnly (t.setFlagRec p f) (t.flagReported p j) ∧ f.due = (t.flag p).due := by
  cases hf : (t.flag p).flags.getLsbD j with
  | true =>
    refine ⟨t.flag p, ?_, rfl⟩
    rw [State.flagReported_set hf]
    have : t.setFlagRec p (t.flag p) = t := by cases p <;> rfl
    rw [this]
    exact .refl t
  | false =>
    refine ⟨{ t.flag p with flags := (t.flag p).flags ||| flagBit j }, ?_, rfl⟩
    cases hm : (t.flag p).mask.getLsbD j with
    | true =>
      rw [State.flagReported_raised hf hm]
      exact (State.latched_poolOnly ..).trans (State.event_poolOnly ..)
    | false =>
      rw [State.flagReported_masked hf hm]
      exact .refl _

theorem State.flagsWritten_poolOnly (t : State) (p : Port) (range : Bool) :
    PoolOnly (t.setFlagRec p ((t.flag p).afterWrite range)) (t.flagsWritten p range) := by
  unfold State.flagsWritten
  dsimp only
  split
  · exact .refl _
  · exact (State.latched_poolOnly ..).trans (State.event_poolOnly ..)

theorem State.portReported_cell (t : State) (p : Port) {d : CellId} (h : (t.port p).settings.eventRoute = none ∨ d ≠ .sys 3) :
    (t.portReported p).cell d = t.cell d := by
  rw [State.portReported, State.event_cell_of _ _ _ h, State.latched_cell]

theorem State.raised_cell (t : State) (p : Port) (raised : BitVec 5) {d : CellId}
    (h : (t.port p).settings.eventRoute = none ∨ d ≠ .sys 3) : ((t.latched 6).flagEvent p raised).cell d = t.cell d := by
  exact ((t.latched 6).event_cell_of _ _ h).trans (t.latched_cell ..)

theorem State.flagReported_cell (t : State) (p : Port) (j : Nat) {d : CellId}
    (h : (t.port p).settings.eventRoute = none ∨ d ≠ .sys 3) : (t.flagReported p j).cell d = t.cell d := by
  cases hf : (t.flag p).flags.getLsbD j with
  | true => rw [State.flagReported_set hf]
  | false =>
    cases hm : (t.flag p).mask.getLsbD j with
    | true =>
      rw [State.flagReported_raised hf hm]
      rw [State.raised_cell]
      · exact State.cell_setFlagRec ..
      · exact h
    | false => rw [State.flagReported_masked hf hm, State.cell_setFlagRec]

theorem State.flagsWritten_cell (t : State) (p : Port) (range : Bool) {d : CellId}
    (h : (t.port p).settings.eventRoute = none ∨ d ≠ .sys 3) : (t.flagsWritten p range).cell d = t.cell d := by
  unfold State.flagsWritten
  dsimp only
  split
  · exact State.cell_setFlagRec ..
  · rw [State.raised_cell]
    · exact State.cell_setFlagRec ..
    · exact h

theorem PortActs.setFlag {j : Nat} (h : PortActs c o s p (k + 1) t u) :
    PortActs c o s p k (t.flagReported p j) (Machine.setFlag p j u) := by
  obtain ⟨f, same, -⟩ := t.flagReported_poolOnly p j
  exact h.step (h.acts.setFlag h.route) same.reflexes same.subs (fun i => t.flagReported_cell p j (h.watched i))
    (congrArg PortRec.settings (same.port p))

/-- The payload of a PORT_STATE event, in the terms of the statements (R48, R199). -/
theorem portStatePayload_eq (p : Port) (r : PortRec) (now : Time) (h : r.state = .active ∨ r.state = .fault ∨ r.state = .empty) :
    portStatePayload p r now =
      [1, BitVec.ofNat 8 p.code, if r.state = .active then 4 else if r.state = .fault then 6 else 0, BitVec.ofNat 8 r.cls.code] ++
        le16 (if r.state = .active ∧ r.cls = .smart then (r.description.map Description.typeCode).getD 0 else 0) ++
        [if r.state = .active ∧ r.cls = .smart then BitVec.ofNat 8 r.selectedMode else 0
        , if r.state = .active then BitVec.ofNat 8 r.lineRate.code else 0
        , if r.state = .fault then BitVec.ofNat 8 r.faultReason.code else 0] ++ le32 now := by
  obtain h | h | h := h
  · by_cases hs : r.cls = .smart
    · cases hd : r.description <;> simp [portStatePayload, h, hs, hd, u8, PortState.code] <;> rfl
    · cases hd : r.description <;> simp [portStatePayload, h, hs, hd, u8, PortState.code] <;> rfl
  · cases hd : r.description <;> simp [portStatePayload, h, hd, u8, PortState.code, LineRate.code]
  · cases hd : r.description <;>
      simp [portStatePayload, h, hd, u8, PortState.code, LineRate.code, FaultReason.code]

theorem PortActs.reportEntry (h : PortActs c o s p (k + 1) t u)
    (hs : (t.port p).state = .active ∨ (t.port p).state = .fault ∨ (t.port p).state = .empty) :
    PortActs c o s p k (t.portReported p) (Machine.reportEntry p u) := by
  have told := (h.acts.setLatch p.code).sendEvent (route := (t.port p).settings.eventRoute)
    (payload := portStatePayload p (t.port p) t.hubTime) h.route
  have report : Reporting c o (t.noted s).reflexes k (t.portReported p) (Machine.reportEntry p u) := by
    rw [Machine.reportEntry, h.acts.port, h.acts.hubTime]
    rw [portStatePayload_eq _ _ _ hs] at told ⊢
    exact told
  have same := t.portReported_poolOnly p
  exact h.step report same.reflexes same.subs (fun i => t.portReported_cell p (h.watched i))
    (congrArg PortRec.settings (same.port p))

/-! ## Writes -/

theorem PortActs.noted_dormant (h : PortActs c o s p k t u) (i : Fin 4) :
    (∀ j, ((t.noted s).reflexes.get j).cell = .port p i → ((t.noted s).reflexes.get j).state = .disabled) ∧
    ∀ j, (t.sub j).active = true → (t.sub j).cell ≠ .port p i := by
  obtain ⟨reflexes, subs⟩ := h.dormant i
  refine ⟨fun j => ?_, fun j => ?_⟩
  · rw [State.noted_reflex_cell, State.noted_reflex_state, h.reflex j]
    exact reflexes j
  · rw [State.sub, h.subs]
    exact subs j

/-- The write of a port cell that the command has not written before (R82, R89, R91). -/
theorem PortActs.write {i : Fin 4} {left : Cell} {range : Bool} (h : PortActs c o s p (k + 1) t u)
    (fresh : (t.cell (.port p i)).updateCount = (s.cell (.port p i)).updateCount)
    (writes : left.updateCount ≠ (s.cell (.port p i)).updateCount) :
    PortActs c o s p k ((t.setCell (.port p i) left).flagsWritten p range) (commitPortWrite p i left range u) := by
  obtain ⟨disabled, unreported⟩ := h.noted_dormant i
  have same := (t.setCell (.port p i) left).flagsWritten_poolOnly p range
  have done := h.acts.commitPortWrite (left := left) (range := range) h.route disabled unreported (same.subs.trans rfl)
  have watched (j : Fin 16) : ((t.setCell (.port p i) left).flagsWritten p range).cell (t.reflex j).cell =
      (t.setCell (.port p i) left).cell (t.reflex j).cell := State.flagsWritten_cell _ p range (h.watched j)
  refine ⟨?_, same.reflexes.trans h.reflexes, same.subs.trans h.subs, fun j n hj => ?_, h.dormant, ?_⟩
  · rw [noted_reflexes_congr (t := t.setCell (.port p i) left) same.reflexes watched, noted_setCell fresh writes]
    exact done
  · have := watched j
    rw [h.reflex j, hj] at this
    exact this.trans (h.system j n hj)
  · rw [same.port p]
    exact h.route

/-- A write of a port cell that raises nothing. -/
theorem PortActs.write_quiet {i : Fin 4} {left : Cell} (h : PortActs c o s p k t u) (due : (t.flag p).due = 0)
    (fresh : (t.cell (.port p i)).updateCount = (s.cell (.port p i)).updateCount)
    (writes : left.updateCount ≠ (s.cell (.port p i)).updateCount) :
    PortActs c o s p k (t.setCell (.port p i) left) (commitPortWrite p i left false u) := by
  obtain ⟨disabled, unreported⟩ := h.noted_dormant i
  have quiet : (t.flag p).raisedByWrite false = 0 := by simp [FlagRec.raisedByWrite, due]
  have flags : (t.flag p).afterWrite false = t.flag p := by rw [FlagRec.afterWrite, ← due]; rfl
  have kept : (t.setCell (.port p i) left).setFlagRec p (t.flag p) = t.setCell (.port p i) left := by cases p <;> rfl
  have done := h.acts.commitPortWrite_quiet (left := left) quiet disabled unreported
  rw [flags, kept] at done
  refine ⟨?_, h.reflexes, h.subs, h.system, h.dormant, h.route⟩
  rw [noted_setCell fresh writes]
  exact done

/-- A count of updates goes on at each write (R82). -/
theorem count_succ_ne (n : Byte) : n + 1 ≠ n := by bv_omega

/-- The four cells of a port by a function of each. -/
def State.cellsBy (t : State) (p : Port) (g : Fin 4 → Time → Cell → Cell) : State :=
  { t with
    cells := t.cells.set p
      { q0 := g 0 t.hubTime (t.cells.get p).q0
        q1 := g 1 t.hubTime (t.cells.get p).q1
        q2 := g 2 t.hubTime (t.cells.get p).q2
        q3 := g 3 t.hubTime (t.cells.get p).q3 } }

theorem State.cellsBy_eq (t : State) (p : Port) (g : Fin 4 → Time → Cell → Cell) :
    t.cellsBy p g = cellIndices.foldl (fun t i => t.setCell (.port p i) (g i t.hubTime (t.cell (.port p i)))) t := by
  cases p <;> rfl

/-- The command has not written the port's cells that hold something. -/
abbrev State.unwritten (t s : State) (p : Port) : Prop :=
  ∀ i, (t.cell (.port p i)).tag = .empty ∨ (t.cell (.port p i)).updateCount = (s.cell (.port p i)).updateCount

theorem PortActs.eachCell {op : State → Fin 4 → State} {g : Fin 4 → Time → Cell → Cell}
    (hop : ∀ i t u, PortActs c o s p k t u → (t.flag p).due = 0 →
      ((t.cell (.port p i)).tag = .empty ∨ (t.cell (.port p i)).updateCount = (s.cell (.port p i)).updateCount) →
      PortActs c o s p k (t.setCell (.port p i) (g i t.hubTime (t.cell (.port p i)))) (op u i))
    (h : PortActs c o s p k t u) (due : (t.flag p).due = 0) (fresh : t.unwritten s p) :
    PortActs c o s p k (t.cellsBy p g) (cellIndices.foldl op u) := by
  have other (i j : Fin 4) (x : State) (e : i ≠ j) (v : Cell) :
      (x.setCell (.port p i) v).cell (.port p j) = x.cell (.port p j) :=
    State.cell_setCell_other x v fun h => e (CellId.port.inj h).2
  have h0 := hop 0 _ _ h due (fresh 0)
  have h1 := hop 1 _ _ h0 due (by rw [other 0 1 _ (by decide)]; exact fresh 1)
  have h2 := hop 2 _ _ h1 due (by rw [other 1 2 _ (by decide), other 0 2 _ (by decide)]; exact fresh 2)
  have h3 := hop 3 _ _ h2 due (by
    rw [other 2 3 _ (by decide), other 1 3 _ (by decide), other 0 3 _ (by decide)]; exact fresh 3)
  rw [State.cellsBy_eq]
  exact h3

theorem State.setCell_self (t : State) (d : CellId) : t.setCell d (t.cell d) = t := by
  cases d with
  | port q i => cases q <;> fin_cases i <;> rfl
  | sys i => fin_cases i <;> rfl

theorem PortActs.emptyPortCell {i : Fin 4} (h : PortActs c o s p k t u) (due : (t.flag p).due = 0)
    (fresh : (t.cell (.port p i)).tag = .empty ∨ (t.cell (.port p i)).updateCount = (s.cell (.port p i)).updateCount) :
    PortActs c o s p k (t.setCell (.port p i) ((t.cell (.port p i)).drained t.hubTime)) (Machine.emptyPortCell p u i) := by
  rw [Machine.emptyPortCell, h.acts.portCell, h.acts.hubTime, Cell.drained]
  by_cases e : (t.cell (.port p i)).tag = .empty
  · rw [if_pos e, if_pos e, State.setCell_self]
    exact h
  · rw [if_neg e, if_neg e]
    have same := fresh.resolve_left e
    exact h.write_quiet due same (by rw [← same]; exact count_succ_ne _)

end Sys2Proof.Machine
end

section
/-!
The operations of the port manager on a port whose cells nothing acts on (R48 to R50, R56, R58, R60 to R62, R64 to R66).
-/
namespace Sys2Proof.Machine

variable {c : Prop} {o : Phase} {k : Nat} {s t u : State} {p : Port}

/-! ## The four cells of a port -/

theorem PortActs.retagPortCell {i : Fin 4} (h : PortActs c o s p k t u) (due : (t.flag p).due = 0)
    (fresh : (t.cell (.port p i)).tag = .empty ∨ (t.cell (.port p i)).updateCount = (s.cell (.port p i)).updateCount) :
    PortActs c o s p k (t.setCell (.port p i) ((t.cell (.port p i)).staled t.hubTime)) (Machine.retagPortCell p u i) := by
  rw [Machine.retagPortCell, h.acts.portCell, h.acts.hubTime, Cell.staled]
  by_cases e : ((t.cell (.port p i)).tag = .valid || (t.cell (.port p i)).tag = .range) = true
  · have some : ¬ (t.cell (.port p i)).tag = .empty := by
      intro empty
      simp [empty] at e
    have same := fresh.resolve_left some
    rw [if_pos e, if_pos e]
    exact h.write_quiet due same (by rw [← same]; exact count_succ_ne _)
  · rw [if_neg e, if_neg e, State.setCell_self]
    exact h

theorem PortActs.emptyCells (h : PortActs c o s p k t u) (due : (t.flag p).due = 0) (fresh : t.unwritten s p) :
    PortActs c o s p k (t.cellsBy p fun _ now x => x.drained now) (Machine.emptyCells p u) :=
  h.eachCell (fun _ _ _ h due fresh => h.emptyPortCell due fresh) due fresh

theorem PortActs.staleCells {n : Nat} (h : PortActs c o s p k t u) (due : (t.flag p).due = 0) (fresh : t.unwritten s p) :
    PortActs c o s p k (t.cellsBy p fun i now x => if i.val < n then x.staled now else x) (Machine.staleCells p n u) := by
  rw [Machine.staleCells, List.foldl_filter]
  refine h.eachCell (fun i t u h due fresh => ?_) due fresh
  by_cases e : i.val < n
  · simp only [e, decide_true, if_true]
    exact h.retagPortCell due fresh
  · simp only [e, decide_false, if_false, Bool.false_eq_true, State.setCell_self]
    exact h

theorem PortActs.rewriteCells {n : Nat} (h : PortActs c o s p k t u) (due : (t.flag p).due = 0) (fresh : t.unwritten s p) :
    PortActs c o s p k (t.cellsBy p fun i now x => if i.val < n then x.staled now else x.drained now)
      (Machine.rewriteCells p n u) := by
  refine h.eachCell (fun i t u h due fresh => ?_) due fresh
  by_cases e : i.val < n
  · simp only [e, if_true]
    exact h.retagPortCell due fresh
  · simp only [e, if_false]
    exact h.emptyPortCell due fresh

/-- The cells of a command that has written none of them yet. -/
theorem State.unwritten_of_cells (h : t.cells = s.cells) : t.unwritten s p :=
  fun i => .inr (by rw [State.cell, State.cell, h])

/-! ## Silent motors -/

/-- The segments that end with a motor's queue, where they end. -/
theorem ended_silent {m : Motor} (h : m.silent) (a : SegOutcome) :
    ∀ e ∈ (if m.executing then endedAll m.queue a else []), e.1.route = none := by
  split
  · exact endedAll_silent h.2
  · simp

theorem reportState_silent {new prev : Nat} {m : Motor} (h : m.settings.noticeRoute = none) :
    reportState p new prev m u = u := by rw [reportState, h, sendNotice]

theorem State.silentPort.silent {m : Motor} (h : u.silentPort p) (hm : u.motor p = some m) : m.silent := by
  rw [State.silentPort, hm, Option.all_some, decide_eq_true_eq] at h
  exact h

theorem detachMotor_silent (h : u.silentPort p) : detachMotor p u = u.setMotor p none := by
  unfold detachMotor
  split
  · next m hm =>
    have silent := State.silentPort.silent h hm
    rw [reportEnded_silent (ended_silent silent .detached)]
    exact reportState_silent silent.1
  · next hm => exact (State.setMotor_self hm).symm

theorem suspendMotor_silent (h : u.silentPort p) :
    suspendMotor p u = u.setMotor p ((u.motor p).map fun m => m.stoppedIn .idle .coast) := by
  unfold suspendMotor
  split
  · next m hm =>
    have silent := State.silentPort.silent h hm
    rw [hm]
    exact moveMotor_silent (ended_silent silent .suspended) silent.1
  · next hm =>
    rw [hm]
    exact (State.setMotor_self hm).symm

/-! ## Entries -/

theorem PortActs.silent (h : PortActs c o s p k t u) (hs : t.silentPort p) : u.silentPort p := by
  rw [State.silentPort, h.acts.motor]
  exact hs

theorem State.detached_eq (t : State) (p : Port) : t.detached p =
    State.setPort (State.cellsBy ((((t.setPort p (t.port p).lineIdle).setAcq p (t.acquisition p).stop).setMotor p none).setFlagRec p
      (t.flag p).cleared) p fun _ now x => x.drained now) p (t.port p).lineIdle.dropped := by
  unfold State.detached State.cellsBy State.setFlagRec State.setMotor State.setAcq State.setPort State.port State.acquisition State.flag
    Acquisition.stop FlagRec.cleared PortRec.dropped PortRec.lineIdle
  cases p <;> rfl

theorem State.cellsBy_port (t : State) (p q : Port) (g : Fin 4 → Time → Cell → Cell) : (t.cellsBy p g).port q = t.port q := rfl

theorem PortActs.detach (h : PortActs c o s p k t u) (hs : t.silentPort p) (fresh : t.unwritten s p) :
    PortActs c o s p k (t.detached p) (Machine.detach p u) := by
  have idle := (h.setPort (x := (t.port p).lineIdle) rfl).setAcq (t.acquisition p).stop
  have bare := (idle.setMotor none).setFlagRec (t.flag p).cleared
  have drained := bare.emptyCells (by rw [State.flag_setFlagRec_same]; rfl) fun i => by simpa using fresh i
  have port := drained.acts.port p
  have flag := (idle.setMotor none).acts.flag p
  simp only [State.cellsBy_port, State.port_setFlagRec, State.port_setMotor, State.port_setAcq, State.port_setPort_same] at port
  simp only [State.flag_setMotor, State.flag_setAcq, State.flag_setPort] at flag
  have dropped := drained.setPort (x := (t.port p).lineIdle.dropped) (by
    simp only [State.cellsBy_port, State.port_setFlagRec, State.port_setMotor, State.port_setAcq, State.port_setPort_same]
    rfl)
  rw [State.detached_eq]
  simp only [Machine.detach, State.acquisition_setPort, h.acts.port, h.acts.acquisition, detachMotor_silent (idle.silent hs)
    , Machine.clearFlags, State.flag_setMotor, State.flag_setAcq, State.flag_setPort, flag, port]
  exact dropped

end Sys2Proof.Machine
end

section
/-!
Entries of a port to its states, and the commands that follow its bands and its timers (R41 to R50, R54, R57, R59, R73).
-/
namespace Sys2Proof.Machine

variable {c : Prop} {o : Phase} {k : Nat} {s t u : State} {p : Port}

theorem State.setPort_setPort (t : State) (p : Port) (a b : PortRec) : (t.setPort p a).setPort p b = t.setPort p b := by
  cases p <;> rfl

/-! ## Entries -/

theorem PortActs.less (h : PortActs c o s p (k + 1) t u) : PortActs c o s p k t u :=
  ⟨h.acts.less, h.reflexes, h.subs, h.system, h.dormant, h.route⟩

theorem State.detached_port (t : State) (p : Port) : (t.detached p).port p = (t.port p).lineIdle.dropped := by cases p <;> rfl

theorem PortActs.enterEmpty (h : PortActs c o s p (k + 1) t u) (hs : t.silentPort p) (fresh : t.unwritten s p) :
    PortActs c o s p k (t.portEmptied p) (Machine.enterEmpty p u) := by
  have gone := h.detach hs fresh
  have empty := gone.setPort (x := ((t.detached p).port p).emptied) rfl
  rw [Machine.enterEmpty, gone.acts.port]
  exact empty.reportEntry (by rw [State.port_setPort_same]; exact .inr (.inr rfl))

/-- A port that is to enter FAULT for a reason (R50). -/
def PortRec.withReason (r : PortRec) (reason : FaultReason) : PortRec := { r with faultReason := reason }

/-- A detached port in FAULT (R50). -/
def PortRec.inFault (r : PortRec) (now : Time) : PortRec :=
  { r with state := .fault, debounce := none, recovery := some now }

/-- A change of a port's record. -/
theorem PortActs.mapPort {f : PortRec → PortRec} (h : PortActs c o s p k t u) (hf : ∀ r, (f r).settings = r.settings) :
    PortActs c o s p k (t.setPort p (f (t.port p))) (u.setPort p (f (u.port p))) := by
  rw [h.acts.port]
  exact h.setPort (hf _)

theorem State.portFaulted_eq (t : State) (p : Port) (reason : FaultReason) : t.portFaulted p reason =
    State.portReported (State.setPort (State.detached (t.setPort p ((t.port p).withReason reason)) p) p
      ((State.port (State.detached (t.setPort p ((t.port p).withReason reason)) p) p).inFault t.hubTime)) p := by
  unfold State.portFaulted
  congr 1
  unfold State.detached State.setPort State.port PortRec.withReason PortRec.inFault
  cases p <;> rfl

/-- Entry to FAULT, which hands over an event, and another one where the reason sets MODE_FAIL (R50). -/
theorem PortActs.enterFault {reason : FaultReason} (h : PortActs c o s p (k + 2) t u) (hs : t.silentPort p)
    (fresh : t.unwritten s p) :
    PortActs c o s p k (if reason.modeFails then (t.portFaulted p reason).flagReported p 3 else t.portFaulted p reason)
      (Machine.enterFault p reason u) := by
  have named := h.mapPort (f := (PortRec.withReason · reason)) fun _ => rfl
  have gone := named.detach hs fun i => by simpa using fresh i
  have fault := gone.mapPort (f := (PortRec.inFault · t.hubTime)) fun _ => rfl
  have told := fault.reportEntry (by rw [State.port_setPort_same]; exact .inr (.inl rfl))
  rw [← State.portFaulted_eq, ← h.acts.hubTime] at told
  have entered : Machine.enterFault p reason u =
      if reason.modeFails then Machine.setFlag p flagModeFail (Machine.reportEntry p ((Machine.detach p
        (u.setPort p ((u.port p).withReason reason))).setPort p
          (((Machine.detach p (u.setPort p ((u.port p).withReason reason))).port p).inFault u.hubTime)))
      else Machine.reportEntry p ((Machine.detach p
        (u.setPort p ((u.port p).withReason reason))).setPort p
          (((Machine.detach p (u.setPort p ((u.port p).withReason reason))).port p).inFault u.hubTime)) := by
    have time : (Machine.detach p (u.setPort p ((u.port p).withReason reason))).hubTime = u.hubTime :=
      gone.acts.hubTime.trans h.acts.hubTime.symm
    rw [← time]
    rfl
  rw [entered]
  split
  · exact told.setFlag
  · exact told.less

theorem PortActs.enterActive (h : PortActs c o s p (k + 1) t u) : PortActs c o s p k (t.portActive p) (Machine.enterActive p u) := by
  have active := h.setPort (x := { t.port p with state := .active, window := none }) rfl
  rw [Machine.enterActive, h.acts.port]
  exact active.reportEntry (by rw [State.port_setPort_same]; exact .inl rfl)

theorem PortActs.enterDetecting {band : Band} (h : PortActs c o s p k t u) :
    PortActs c o s p k
      (t.setPort p { t.port p with
        state := .detecting, debounce := some { band := band, start := t.hubTime }, bandWatch := none, recovery := none })
      (Machine.enterDetecting p band u) := by
  rw [Machine.enterDetecting, h.acts.port, h.acts.hubTime]
  exact h.setPort rfl

/-! ## The end of a command -/

theorem PortActs.run {f : State → State} (h : PortActs c .alone s p k t (f s)) (hs : s.settled) :
    Machine.run f s = .next (t.noted s) := h.acts.run hs

/-- Reflexes note nothing in a command that writes no port cell. -/
theorem PortActs.noted_eq (h : PortActs c o s p k t u) (cells : t.cells = s.cells) : t.noted s = t := by
  refine State.noted_of_unwritten h.reflexes fun i => ?_
  cases e : (s.reflex i).cell with
  | port q j => rw [State.cell, State.cell, cells]
  | sys j => exact h.system i j e

theorem PortActs.run_unwritten {f : State → State} (h : PortActs c .alone s p k t (f s)) (hs : s.settled)
    (cells : t.cells = s.cells) : Machine.run f s = .next t := by
  rw [h.run hs, h.noted_eq cells]

end Sys2Proof.Machine
end

section
/-!
Bands, timeouts and the recovery of a port (R42 to R50, R54, R57, R59, R73).
-/
namespace Sys2Proof.Machine

variable {s : State} {p : Port}

/-- A command that enters EMPTY from the port as it stands, but for its record. -/
theorem run_enterEmpty {f : State → State} {x : PortRec} (h : s.calmPort p) (hx : x.settings = (s.port p).settings)
    (hf : f s = enterEmpty p (s.setPort p x)) : run f s = .next (((s.setPort p x).portEmptied p).noted s) := by
  have here := (PortActs.of_calm (k := 1) h).setPort hx
  have emptied := here.enterEmpty h.2.2.1 (State.unwritten_of_cells rfl)
  rw [← hf] at emptied
  exact emptied.run h.1

/-- A reading of the band of a port that is neither EMPTY nor DETECTING (R42). -/
theorem readBand_watches {band : Band} (he : (s.port p).state ≠ .empty) (hd : (s.port p).state ≠ .detecting) :
    readBand p band s = s.setPort p { s.port p with bandWatch := bandWatchAfter (s.port p) band s.hubTime } := by
  unfold readBand
  dsimp only
  split
  · next e => exact absurd e he
  · next e => exact absurd e hd
  · rfl

/-- Settles O37. -/
theorem bandsStartDetectionAndDetach : Obligations.BandsStartDetectionAndDetach := by
  refine ⟨fun p band s h => ?_, fun p c s h hw hd => ?_⟩
  · dsimp only
    show (_ → run (readingFalls p band) s = _) ∧ (_ → (_ → run (readingFalls p band) s = _) ∧ _)
    refine ⟨fun early => run_of_same h.1 (by simp [readingFalls, early]), fun due => ?_⟩
    have falls : readingFalls p band s =
        readBand p band (s.setPort p { s.port p with nextReading := (s.port p).nextReading + 5 }) := by
      simp [readingFalls, due]
    refine ⟨fun he => ?_, fun c he hc => ?_, fun he hd => ?_⟩
    · refine run_eq_of_nil h.1 ?_ ?_
      · rw [falls]
        simp only [readBand, State.port_setPort_same, he]
        split
        · rfl
        · simp only [enterDetecting, State.port_setPort_same, State.setPort_setPort, State.setPort_hubTime]
      · split <;> exact h.1.2
    · by_cases h7 : band = 7
      · rw [if_pos h7]
        refine run_enterEmpty h ?_ ?_
        · rfl
        · rw [falls]
          simp only [readBand, State.port_setPort_same, he, h7, if_true]
      · rw [if_neg h7]
        refine run_eq_of_nil h.1 ?_ ?_
        · rw [falls]
          simp only [readBand, State.port_setPort_same, he, h7, if_false, hc]
          split
          · rfl
          · simp only [enterDetecting, State.port_setPort_same, State.setPort_setPort, State.setPort_hubTime]
        · split <;> exact h.1.2
    · refine run_eq_of_nil h.1 ?_ h.1.2
      rw [falls]
      have watches : readBand p band (s.setPort p { s.port p with nextReading := (s.port p).nextReading + 5 }) =
          s.setPort p { s.port p with
            nextReading := (s.port p).nextReading + 5, bandWatch := bandWatchAfter (s.port p) band s.hubTime } := by
        rw [readBand_watches (by rwa [State.port_setPort_same]) (by rwa [State.port_setPort_same]), State.port_setPort_same
          , State.setPort_setPort]
        rfl
      rw [watches]
      congr 2
      simp only [bandWatchAfter]
      split
      · rfl
      · cases hb : (s.port p).bandWatch with
        | none => rfl
        | some x => simp
  · dsimp only
    show (_ → run (bandWatchDue p) s = _) ∧ (_ → run (bandWatchDue p) s = _)
    have start := PortActs.of_calm (k := 1) h
    have emptied := start.enterEmpty h.2.2.1 (State.unwritten_of_cells rfl)
    refine ⟨fun ha => ?_, fun hf => ?_⟩
    · have notFault : (s.port p).state ≠ .fault := fun e => by rw [e] at ha; cases ha
      have expires : bandWatchDue p s = if c.band = 7 then enterEmpty p s else enterDetecting p c.band (enterEmpty p s) := by
        simp [bandWatchDue, hw, ha, hd, bandWatchExpires, notFault]
      by_cases h7 : c.band = 7
      · rw [if_pos h7] at expires ⊢
        rw [← expires] at emptied
        exact emptied.run h.1
      · rw [if_neg h7] at expires ⊢
        have detecting := emptied.enterDetecting (band := c.band)
        rw [← expires] at detecting
        rw [detecting.run h.1]
        have port : (s.portEmptied p).port p = ((s.detached p).port p).emptied :=
          ((State.portReported_poolOnly ..).port p).trans (State.port_setPort_same ..)
        have time : (s.portEmptied p).hubTime = s.hubTime := (State.portReported_poolOnly ..).hubTime
        rw [port, time]
        rfl
    · have expires : bandWatchDue p s =
          if c.band = 7 then enterEmpty p s else s.setPort p { s.port p with bandWatch := none } := by
        simp [bandWatchDue, hw, hd, bandWatchExpires, hf]
      by_cases h7 : c.band = 7
      · rw [if_pos h7] at expires ⊢
        rw [← expires] at emptied
        exact emptied.run h.1
      · rw [if_neg h7] at expires ⊢
        exact run_eq_of_nil h.1 expires h.1.2

/-- A command that enters FAULT from the port as it stands. -/
theorem run_enterFault {f : State → State} {reason : FaultReason} (h : s.calmPort p) (hf : f s = enterFault p reason s) :
    run f s = .next (State.noted
      (if reason.modeFails then (s.portFaulted p reason).flagReported p 3 else s.portFaulted p reason) s) := by
  have fault := (PortActs.of_calm (k := 2) h).enterFault (reason := reason) h.2.2.1 (State.unwritten_of_cells rfl)
  rw [← hf] at fault
  exact fault.run h.1

/-- Settles O39. -/
theorem timeoutsEnterFault : Obligations.TimeoutsEnterFault := by
  intro p t deaf s h
  dsimp only
  refine ⟨fun hs hi he => ?_, fun rate hw he => ?_, fun hw he => ?_, fun hs hw he => ?_, fun band hs hr he => ?_⟩
  · exact run_enterFault (reason := .identifyTimeout) h (by simp [identifyExpires, hs, hi, timerReached, he])
  · exact run_enterFault (reason := .configureTimeout) h (by simp [configureExpires, hw, he])
  · exact run_enterFault (reason := .selectTimeout) h (by simp [selectExpires, hw, he])
  · exact run_enterFault (reason := .sampleTimeout) h (by simp [watchdogExpires, hs, hw, timerReached, he])
  · show run (recoveryDue p band) s = _
    have due : recoveryDue p band s = detectFrom p band s := by simp [recoveryDue, hs, hr, timerReached, he]
    by_cases h7 : band = 7
    · rw [if_pos h7]
      have emptied := (PortActs.of_calm (k := 1) h).enterEmpty h.2.2.1 (State.unwritten_of_cells rfl)
      have here : recoveryDue p band s = enterEmpty p s := by rw [due, detectFrom, if_pos h7]
      rw [← here] at emptied
      exact emptied.run h.1
    · rw [if_neg h7]
      exact run_eq_of_nil h.1 (by rw [due, detectFrom, if_neg h7]; rfl) h.1.2

end Sys2Proof.Machine
end

section
/-!
The end of detection by the class of the device, and analog samples (R45, R46, R48, R64 to R68).
-/
namespace Sys2Proof.Machine

variable {c : Prop} {o : Phase} {k : Nat} {s t u : State} {p : Port}

/-! ## What an event leaves alone -/

/-- An update that neither the pool nor the attention record nor S3 has a part in comes as well before as after an event. -/
structure Apart (f : State → State) : Prop where
  links : ∀ t, (f t).links = t.links
  free : ∀ t, (f t).free = t.free
  setLink : ∀ t l u, (f t).setLink l u = f (t.setLink l u)
  latched : ∀ t n, (f t).latched n = f (t.latched n)
  withFree : ∀ t n, (f t).withFree n = f (t.withFree n)

theorem Apart.handed {f : State → State} (h : Apart f) (t : State) (l : Link) (x : Frame) :
    (f t).handed l x = f (t.handed l x) := by
  have link : (f t).link l = t.link l := by rw [State.link, State.link, h.links]
  have wlink (n : Nat) : (f (t.withFree n)).link l = (t.withFree n).link l := by rw [State.link, State.link, h.links]
  unfold State.handed State.downLinkDrop State.withUrgent
  simp only [link, h.free, h.setLink, h.latched, h.withFree, wlink]
  split
  · rfl
  · split <;> rfl

theorem Apart.event {f : State → State} (h : Apart f) (t : State) (route : Option Endpoint) (payload : List Byte) :
    (f t).event route payload = f (t.event route payload) := by
  cases route with
  | none => rfl
  | some e => exact h.handed ..

theorem Apart.setMotor (p : Port) (m : Option Motor) : Apart (State.setMotor · p m) :=
  ⟨fun _ => rfl, fun _ => rfl, fun _ _ _ => rfl, fun _ _ => rfl, fun _ _ => rfl⟩

theorem Apart.setPortCell (p : Port) (i : Fin 4) (x : Cell) : Apart (State.setCell · (.port p i) x) :=
  ⟨fun _ => rfl, fun _ => rfl, fun _ _ _ => rfl, fun _ _ => rfl, fun _ _ => rfl⟩

theorem State.portActive_setMotor (t : State) (p : Port) (m : Option Motor) :
    (t.setMotor p m).portActive p = (t.portActive p).setMotor p m :=
  (Apart.setMotor p m).event (State.latched (t.setPort p { t.port p with state := .active, window := none }) p.code) _ _

/-! ## Analog samples -/

/-- A value write of a number within the signed 32-bit range. -/
theorem Cell.valueWrite_eq {x : Cell} {now : Time} {v : Int} {tag : CellTag} {w : Writer} (lo : -2147483648 ≤ v)
    (hi : v ≤ 2147483647) : x.valueWrite now v tag w = x.written now v tag w := by
  rw [Cell.valueWrite, cellNumber, if_pos ⟨lo, hi⟩]
  rfl

/-- The value write of a port cell that the command has not written before, and that raises nothing. -/
theorem PortActs.writePortCell {i : Fin 4} {v : Int} {tag : CellTag} {w : Writer} (h : PortActs c o s p k t u)
    (lo : -2147483648 ≤ v) (hi : v ≤ 2147483647) (due : (t.flag p).due = 0)
    (fresh : (t.cell (.port p i)).updateCount = (s.cell (.port p i)).updateCount) :
    PortActs c o s p k (t.setCell (.port p i) ((t.cell (.port p i)).written t.hubTime v tag w))
      (Machine.writePortCell p i v tag w false u) := by
  rw [Machine.writePortCell, h.acts.portCell, h.acts.hubTime, Cell.valueWrite_eq lo hi]
  exact h.write_quiet due fresh (by rw [← fresh]; exact count_succ_ne _)

/-- The acquisition of a passive port that is served from now on, with its next sample due (R65, R66). -/
def Acquisition.analogFrom (a : Acquisition) (due : Time) : Acquisition := { a.stop with schedule := .analog, nextDue := due }

theorem State.setAcq_setAcq (t : State) (p : Port) (a b : Acquisition) : (t.setAcq p a).setAcq p b = t.setAcq p b := by
  cases p <;> rfl

/-- A passive port takes its first sample, a number (R64 to R66). -/
theorem PortActs.startAnalog {raw : RawSample} {v : Int} (h : PortActs c o s p k t u)
    (hv : ∀ x : State, x.port p = t.port p → convertAnalog p raw x = .inRange v) (lo : 0 ≤ v) (hi : v ≤ 4095)
    (due : (t.flag p).due = 0) (fresh : (t.cell (.port p 0)).updateCount = (s.cell (.port p 0)).updateCount) :
    PortActs c o s p k (t.firstSample p v) (Machine.startAnalog p raw u) := by
  have served := h.setAcq ((t.acquisition p).analogFrom (t.hubTime + BitVec.ofNat 32 (t.port p).settings.analogInterval))
  have sampled := served.writePortCell (i := 0) (v := v) (tag := .valid) (w := .sensor) (by omega) (by omega) due
    (by simpa using fresh)
  have model : Machine.startAnalog p raw u = Machine.writePortCell p 0 v .valid .sensor false
      (u.setAcq p ((u.acquisition p).analogFrom (u.hubTime + BitVec.ofNat 32 (u.port p).settings.analogInterval))) := by
    rw [Machine.startAnalog, takeAnalog, hv (u.setAcq p _) (h.acts.port p), State.setAcq_setAcq, State.acquisition_setAcq_same]
    rfl
  rw [model, h.acts.acquisition, h.acts.hubTime, h.acts.port]
  rw [State.cell_setAcq] at sampled
  exact sampled

theorem convertAnalog_touch {raw : RawSample} (h : (t.port p).cls = .touch) :
    convertAnalog p raw t = .inRange (if 2048 < raw.val then 1 else 0) := by
  rw [convertAnalog, if_pos h]

theorem convertAnalog_light {raw : RawSample} (h : (t.port p).cls = .light) (hc : (t.port p).settings.calibration = none) :
    convertAnalog p raw t = .inRange raw.val := by
  rw [convertAnalog, if_neg (by rw [h]; decide), hc]

/-! ## The end of detection -/

/-- The record of a port that enters ACTIVE (R48). -/
def PortRec.activated (r : PortRec) : PortRec := { r with state := .active, window := none }

theorem State.portActive_poolOnly (t : State) (p : Port) : PoolOnly (t.setPort p (t.port p).activated) (t.portActive p) :=
  State.portReported_poolOnly ..

/-- A passive port enters ACTIVE and takes its first sample. -/
theorem PortActs.enterSampled {raw : RawSample} {v : Int} (h : PortActs c o s p (k + 1) t u)
    (hv : ∀ x : State, (x.port p).cls = (t.port p).cls → (x.port p).settings = (t.port p).settings →
      convertAnalog p raw x = .inRange v) (lo : 0 ≤ v) (hi : v ≤ 4095) (due : (t.flag p).due = 0) (cells : t.cells = s.cells) :
    PortActs c o s p k ((t.portActive p).firstSample p v) (Machine.startAnalog p raw (Machine.enterActive p u)) := by
  have same := t.portActive_poolOnly p
  refine h.enterActive.startAnalog (fun x hx => ?_) lo hi ?_ ?_
  · have active : x.port p = (t.port p).activated := hx.trans ((same.port p).trans (State.port_setPort_same ..))
    exact hv x (by rw [active]; rfl) (by rw [active]; rfl)
  · rw [same.flag]
    exact due
  · rw [State.cell, State.cell, same.cells, State.setPort_cells, cells]

/-- The record of a port at the end of the debounce of a band (R45). -/
def PortRec.identified (r : PortRec) (b : Band) : PortRec :=
  { r with band := b, cls := DeviceClass.ofBand b, debounce := none }

theorem attach_passive {b : Band} {raw : RawSample} (h : DeviceClass.ofBand b = .touch ∨ DeviceClass.ofBand b = .light) :
    attach p b raw s = startAnalog p raw (enterActive p (s.setPort p ((s.port p).identified b))) := by
  unfold attach PortRec.identified
  obtain h | h := h <;> simp only [h]

theorem attach_motor {b : Band} {raw : RawSample} {m : MotorClass} (h : DeviceClass.ofBand b = .motor m) :
    attach p b raw s = enterActive p ((s.setPort p ((s.port p).identified b)).setMotor p
      (some (freshMotor m (s.classes.get m) s.hubTime))) := by
  unfold attach PortRec.identified
  simp only [h]
  rfl

theorem attach_smart {b : Band} {raw : RawSample} (h : DeviceClass.ofBand b = .smart) :
    attach p b raw s = s.setPort p { (s.port p).identified b with
      state := .identifying, lineRate := .r9600, lineBreak := some s.hubTime } := by
  unfold attach PortRec.identified
  simp only [h, State.port_setPort_same, State.setPort_setPort, State.setPort_hubTime]

theorem attach_short {b : Band} {raw : RawSample} (h : DeviceClass.ofBand b = .short) :
    attach p b raw s = enterFault p .short (s.setPort p ((s.port p).identified b)) := by
  unfold attach PortRec.identified
  simp only [h]

/-- Settles O38. -/
theorem debounceAttachesTheDevice : Obligations.DebounceAttachesTheDevice := by
  intro p raw c s h due hs hc
  dsimp only
  show (_ → run (debounceExpires p raw) s = _) ∧ (_ → (_ → run (debounceExpires p raw) s = _) ∧ _)
  refine ⟨fun early => run_of_same h.1 ?_, fun late => ?_⟩
  · simp [debounceExpires, hc, Nat.not_le.mpr early]
  have attaches : debounceExpires p raw s = attach p c.band raw s := by simp [debounceExpires, hc, hs, late]
  have start := (PortActs.of_calm (k := 2) h).setPort (x := (s.port p).identified c.band) rfl
  have cls : ((s.setPort p ((s.port p).identified c.band)).port p).cls = DeviceClass.ofBand c.band := by
    rw [State.port_setPort_same]; rfl
  have raw_small : raw.val ≤ 4095 := Nat.le_of_lt_succ raw.isLt
  refine ⟨fun hb => ?_, fun hb hcal => ?_, fun m hm => ?_, fun hb => ?_, fun hb => ?_⟩
  · have touch : DeviceClass.ofBand c.band = .touch := by rw [hb]; rfl
    have sampled := start.enterSampled (raw := raw) (v := if 2048 < raw.val then 1 else 0)
      (fun x hx _ => convertAnalog_touch (by rw [hx, cls]; exact touch)) (by split <;> omega) (by split <;> omega) due rfl
    rw [← attach_passive (.inl touch), ← attaches] at sampled
    exact sampled.run h.1
  · have light : DeviceClass.ofBand c.band = .light := by rw [hb]; rfl
    have sampled := start.enterSampled (raw := raw) (v := raw.val) (fun x hx hset => convertAnalog_light
      (by rw [hx, cls]; exact light) (by rw [hset, State.port_setPort_same]; exact hcal)) (by omega) (by omega) due rfl
    rw [← attach_passive (.inr light), ← attaches] at sampled
    exact sampled.run h.1
  · have attached := (start.setMotor (some (freshMotor m (s.classes.get m) s.hubTime))).enterActive
    rw [State.portActive_setMotor, ← attach_motor (raw := raw) hm, ← attaches] at attached
    exact attached.run_unwritten h.1 ((State.portActive_poolOnly ..).cells)
  · refine run_eq_of_nil h.1 (attaches.trans ?_) h.1.2
    rw [attach_smart (by rw [hb]; rfl)]
    rfl
  · have short : DeviceClass.ofBand c.band = .short := by rw [hb]; rfl
    have fault := start.enterFault (reason := .short) h.2.2.1 (State.unwritten_of_cells rfl)
    rw [← attach_short (raw := raw) short, ← attaches] at fault
    exact fault.run h.1

end Sys2Proof.Machine
end

section
/-!
Analog samples: the TOUCH and the LIGHT device, and the calibration tables (R66 to R68, R77, R78).
-/
namespace Sys2Proof.Machine

variable {s : State} {p : Port}

/-! ## Calibration tables -/

/-- The first breakpoint of a table that rises is the lowest. -/
theorem breakpointsRise_head {a : Breakpoint} {l : List Breakpoint} (h : breakpointsRise (a :: l) = true) :
    ∀ b ∈ l, a.raw < b.raw := by
  induction l generalizing a with
  | nil => simp
  | cons x rest ih =>
    simp only [breakpointsRise, Bool.and_eq_true, decide_eq_true_eq] at h
    obtain ⟨first, rises⟩ := h
    intro b hb
    obtain rfl | hb := List.mem_cons.mp hb
    · exact first
    · exact first.trans (ih rises b hb)

theorem breakpointsRise_tail {a : Breakpoint} {l : List Breakpoint} (h : breakpointsRise (a :: l) = true) :
    breakpointsRise l = true := by
  cases l with
  | nil => rfl
  | cons b l =>
    simp only [breakpointsRise, Bool.and_eq_true] at h
    exact h.2

theorem breakpointsRise_suffix {before l : List Breakpoint} (h : breakpointsRise (before ++ l) = true) :
    breakpointsRise l = true := by
  induction before with
  | nil => exact h
  | cons x before ih => exact ih (breakpointsRise_tail h)

theorem breakpointsRise_first {a : Breakpoint} {l : List Breakpoint} (h : breakpointsRise (a :: l) = true) :
    ∀ b ∈ a :: l, a.raw ≤ b.raw := by
  intro b hb
  obtain rfl | hb := List.mem_cons.mp hb
  · exact Nat.le_refl _
  · exact Nat.le_of_lt (breakpointsRise_head h b hb)

theorem interpolate_left (r : Rounding) {x0 x1 : Int} (y0 y1 : Int) (h : x0 < x1) : interpolate r x0 x1 y0 y1 x0 = y0 := by
  rw [interpolate, sub_self, zero_mul, add_zero, r.quotient_mul_self _ (sub_pos.mpr h)]

theorem interpolate_right (r : Rounding) {x0 x1 : Int} (y0 y1 : Int) (h : x0 < x1) : interpolate r x0 x1 y0 y1 x1 = y1 := by
  have : y0 * (x1 - x0) + (x1 - x0) * (y1 - y0) = y1 * (x1 - x0) := by ring
  rw [interpolate, this, r.quotient_mul_self _ (sub_pos.mpr h)]

/-- A raw value within a table is converted by any segment that holds it (R77): at a breakpoint both neighbours agree. -/
theorem convertFrom_within (g : PortSettings) {raw : Nat} {a b : Breakpoint} {before after : List Breakpoint}
    (ha : a.raw ≤ raw) (hb : raw ≤ b.raw) {first : Breakpoint} {rest : List Breakpoint}
    (h : first :: rest = before ++ a :: b :: after) (rises : breakpointsRise (first :: rest) = true) :
    convertFrom g first rest raw = .inRange (interpolate g.rounding a.raw b.raw a.val b.val raw) := by
  induction before generalizing first rest with
  | nil =>
    obtain ⟨rfl, rfl⟩ := List.cons.inj h
    simp only [convertFrom, if_pos hb]
  | cons x before ih =>
    rw [List.cons_append, List.cons.injEq] at h
    obtain ⟨rfl, rfl⟩ := h
    cases before with
    | nil =>
      have step : first.raw < a.raw := breakpointsRise_head rises a (by simp)
      have next : a.raw < b.raw := breakpointsRise_head (breakpointsRise_tail rises) b (by simp)
      simp only [List.nil_append, convertFrom]
      by_cases e : raw ≤ a.raw
      · obtain rfl : a.raw = raw := by omega
        rw [if_pos (Nat.le_refl _), interpolate_right _ _ _ (by omega), interpolate_left _ _ _ (by omega)]
      · rw [if_neg e]
        exact ih rfl (breakpointsRise_tail rises)
    | cons y before =>
      have step : y.raw < a.raw := breakpointsRise_head (breakpointsRise_tail rises) a (by simp)
      simp only [List.cons_append, convertFrom]
      rw [if_neg (by omega)]
      exact ih rfl (breakpointsRise_tail rises)

/-- A raw value above a table is out of range, with the value of the last breakpoint (R78). -/
theorem convertFrom_above (g : PortSettings) {raw : Nat} {b : Breakpoint} {before : List Breakpoint} (hb : b.raw < raw)
    {first : Breakpoint} {rest : List Breakpoint} (h : first :: rest = before ++ [b])
    (rises : breakpointsRise (first :: rest) = true) : convertFrom g first rest raw = g.policy.outOfRange b.val := by
  induction before generalizing first rest with
  | nil =>
    obtain ⟨rfl, rfl⟩ := List.cons.inj h
    simp only [convertFrom]
    rw [if_neg (by omega)]
  | cons x before ih =>
    rw [List.cons_append, List.cons.injEq] at h
    obtain ⟨rfl, rfl⟩ := h
    have next : ∀ y more, before ++ [b] = y :: more → ¬ raw ≤ y.raw := by
      intro y more e
      have last : b ∈ y :: more := by rw [← e]; simp
      obtain rfl | later := List.mem_cons.mp last
      · omega
      · have := breakpointsRise_head (breakpointsRise_tail (e ▸ rises)) b later
        omega
    cases before with
    | nil =>
      simp only [List.nil_append, convertFrom]
      rw [if_neg (next b [] rfl), if_neg (by omega)]
    | cons y before =>
      simp only [List.cons_append, convertFrom]
      rw [if_neg (next y _ rfl)]
      exact ih rfl (breakpointsRise_tail rises)

/-! ## Samples -/

/-- A due sample of a passive port on whose cells nothing acts (R66). -/
theorem exec_analogSample {raw : RawSample} {v : Int} {tag : CellTag} {range : Bool} (h : s.stillPort p)
    (ha : (s.acquisition p).schedule = .analog) (hr : reached s.hubTime (s.acquisition p).nextDue = true)
    (hv : convertAnalog p raw s = { value := v, tag := tag, setsRange := range }) (lo : -2147483648 ≤ v) (hi : v ≤ 2147483647) :
    exec (.analogSample p raw) s =
      .next (((s.setAcq p { s.acquisition p with
        nextDue := s.hubTime + BitVec.ofNat 32 (s.port p).settings.analogInterval }).portWritten p 0
          ((s.cell (.port p 0)).written s.hubTime v tag .sensor) range).noted s) := by
  obtain ⟨hs, dormant, route, -⟩ := h
  have written : analogDue p raw s = State.noted (State.portWritten (s.setAcq p { s.acquisition p with
      nextDue := s.hubTime + BitVec.ofNat 32 (s.port p).settings.analogInterval }) p 0
        ((s.cell (.port p 0)).written s.hubTime v tag .sensor) range) s := by
    have due : (decide ((s.acquisition p).schedule = .analog) && reached s.hubTime (s.acquisition p).nextDue) = true := by
      rw [ha, hr]
      rfl
    rw [analogDue, if_pos due, takeAnalog, hv, writeConverted, writePortCell, Cell.valueWrite_eq lo hi, State.cell_setAcq]
    exact commitPortWrite_still (dormant 0) hs.2 route (by rw [State.cell_setAcq]; exact count_succ_ne _)
  refine run_eq_of_nil hs written ?_
  show (State.portWritten _ p 0 _ range).unobserved = []
  unfold State.portWritten
  dsimp only
  split <;> exact hs.2

/-- Settles O41. -/
theorem touchGivesOneAbove2048 : Obligations.TouchGivesOneAbove2048 := by
  intro p raw s h touch ha hr
  exact exec_analogSample h ha hr (convertAnalog_touch touch) (by split <;> omega) (by split <;> omega)

/-- Settles O42. -/
theorem lightIsConvertedByItsTable : Obligations.LightIsConvertedByItsTable := by
  intro p raw s h light ha hr
  have small : raw.val ≤ 4095 := Nat.le_of_lt_succ raw.isLt
  have notTouch : ¬ (s.port p).cls = .touch := by rw [light]; decide
  dsimp only
  refine ⟨fun hc => exec_analogSample h ha hr (convertAnalog_light light hc) (by omega) (by omega), fun i hc => ?_⟩
  have converts : convertAnalog p raw s = convertTable (s.port p).settings (s.calibration.get i) raw.val := by
    rw [convertAnalog, if_neg notTouch, hc]
  have beyond (bound : Int) (lo : -2147483648 ≤ bound) (hi : bound ≤ 2147483647)
      (e : convertAnalog p raw s = (s.port p).settings.policy.outOfRange bound) :
      ((s.port p).settings.policy = .saturate → _) ∧ ((s.port p).settings.policy = .indefinite → _) :=
    ⟨fun hp => exec_analogSample (v := bound) (tag := .valid) (range := true) h ha hr (by rw [e, hp]; rfl) lo hi,
      fun hp => exec_analogSample (v := -2147483648) (tag := .range) (range := true) h ha hr (by rw [e, hp]; rfl) (by omega)
        (by omega)⟩
  refine ⟨fun empty => ?_, fun rises bounds => ⟨fun before after a b split lo hi => ?_, fun a rest split low => ?_
    , fun before b split high => ?_⟩⟩
  · exact exec_analogSample h ha hr (by rw [converts, empty]; rfl) (by omega) (by omega)
  · have ba := bounds a (by rw [split]; simp)
    have bb := bounds b (by rw [split]; simp)
    obtain ⟨first, rest, e⟩ : ∃ first rest, s.calibration.get i = first :: rest := by
      rw [split]
      cases before <;> exact ⟨_, _, rfl⟩
    have low : ¬ raw.val < first.raw := by
      have := breakpointsRise_first (e ▸ rises) a (by rw [← e, split]; simp)
      omega
    have step : a.raw < b.raw := breakpointsRise_head (breakpointsRise_suffix (split ▸ rises)) b (by simp)
    have within : convertAnalog p raw s =
        .inRange (interpolate (s.port p).settings.rounding a.raw b.raw a.val b.val raw.val) := by
      rw [converts, e, convertTable, if_neg low]
      exact convertFrom_within _ lo hi (e.symm.trans split) (by rw [← e]; exact rises)
    exact exec_analogSample h ha hr within (le_interpolate _ (by omega) (by omega) (by omega) ba.1 bb.1)
      (interpolate_le _ (by omega) (by omega) (by omega) ba.2 bb.2)
  · have ba := bounds a (by rw [split]; simp)
    exact beyond a.val ba.1 ba.2 (by rw [converts, split, convertTable, if_pos low])
  · have bb := bounds b (by rw [split]; simp)
    obtain ⟨first, rest, e⟩ : ∃ first rest, s.calibration.get i = first :: rest := by
      rw [split]
      cases before <;> exact ⟨_, _, rfl⟩
    have low : ¬ raw.val < first.raw := by
      have := breakpointsRise_first (e ▸ rises) b (by rw [← e, split]; simp)
      omega
    refine beyond b.val bb.1 bb.2 ?_
    rw [converts, e, convertTable, if_neg low]
    exact convertFrom_above _ high (e.symm.trans split) (e ▸ rises)

end Sys2Proof.Machine
end

section
/-!
The check bytes of a port-line message (R51) and the record of a DESCRIPTION (R55).
-/
namespace Sys2Proof.Machine

/-! ## Check bytes -/

/-- The second sum of R51, without its modulus: each byte counts as often as sums are taken from it on. -/
def weightedSum (bs : List Nat) : Nat := ((List.range bs.length).map fun i => (bs.length - i) * bs.getD i 0).sum

theorem weightedSum_cons (b : Nat) (bs : List Nat) : weightedSum (b :: bs) = (bs.length + 1) * b + weightedSum bs := by
  unfold weightedSum
  rw [List.length_cons, List.range_succ_eq_map, List.map_cons, List.sum_cons, List.map_map]
  congr 2
  refine List.map_congr_left fun i _ => ?_
  show (bs.length + 1 - (i + 1)) * bs.getD i 0 = _
  rw [Nat.add_sub_add_right]

/-- The running sums from sums that are taken modulo 255 already. -/
theorem foldl_checkStep (bs : List Byte) (a b : Nat) : bs.foldl checkStep (a % 255, b % 255) =
    ((a + (bs.map BitVec.toNat).sum) % 255, (b + bs.length * a + weightedSum (bs.map BitVec.toNat)) % 255) := by
  induction bs generalizing a b with
  | nil => simp [weightedSum]
  | cons x bs ih =>
    have step : checkStep (a % 255, b % 255) x = ((a + x.toNat) % 255, (b + (a + x.toNat)) % 255) := by
      simp only [checkStep, Prod.mk.injEq]
      omega
    rw [List.foldl_cons, step, ih, List.map_cons, List.sum_cons, weightedSum_cons, List.length_cons, List.length_map]
    congr 2
    · omega
    · ring

/-- The check bytes are the two running sums modulo 255. -/
theorem lineCheck_eq (kind : Byte) (payload : List Byte) : lineCheck kind payload =
    (((u8 payload.length :: kind :: payload).map BitVec.toNat).sum % 255
    , weightedSum ((u8 payload.length :: kind :: payload).map BitVec.toNat) % 255) := by
  have := foldl_checkStep (u8 payload.length :: kind :: payload) 0 0
  simp only [Nat.zero_mod, Nat.zero_add, Nat.mul_zero] at this
  exact this

/-- A byte is one of the sums as it is sent. -/
theorem byte_eq_u8_iff (x : Byte) {n : Nat} (h : n < 256) : x = u8 n ↔ x.toNat = n := by
  rw [u8, ← BitVec.toNat_inj, BitVec.toNat_ofNat, Nat.mod_eq_of_lt h]

/-! ## Descriptions -/

theorem mapM_eq_some_iff {α β : Type} (f : α → Option β) (l : List α) (ys : List β) :
    l.mapM f = some ys ↔ List.Forall₂ (fun x y => f x = some y) l ys := by
  induction l generalizing ys with
  | nil => simp [eq_comm]
  | cons x l ih =>
    rw [List.mapM_cons]
    cases ys with
    | nil => cases f x <;> cases l.mapM f <;> simp
    | cons y ys => simp [← ih, Option.bind_eq_some_iff]

theorem mapM_eq_none_iff {α β : Type} (f : α → Option β) (l : List α) : l.mapM f = none ↔ ∃ x ∈ l, f x = none := by
  induction l with
  | nil => simp
  | cons x l ih =>
    rw [List.mapM_cons]
    cases hx : f x with
    | none => simp [hx]
    | some y =>
      cases hl : l.mapM f with
      | none => simp [hx, ← ih, hl]
      | some ys => simp [hx, ← ih, hl]

theorem RawFormat.code_of_ofCode {n : Nat} {f : RawFormat} (h : RawFormat.ofCode n = some f) : f.code = n := by
  match n, h with
  | 0, h | 1, h | 2, h => cases h; rfl

theorem modeAt_eq_none_iff (bs : List Byte) (i : Nat) : modeAt bs i = none ↔
    num8 bs i = 0 ∨ 4 < num8 bs i ∨ 2 < num8 bs (i + 1) ∨ int32 bs (i + 6) ≤ int32 bs (i + 2) := by
  unfold modeAt
  split
  · next f hf =>
    have listed : ¬ 2 < num8 bs (i + 1) := by
      have := RawFormat.code_of_ofCode hf
      have : f.code ≤ 2 := by cases f <;> decide
      omega
    simp only [ite_eq_right_iff, reduceCtorEq, imp_false, Bool.and_eq_true, decide_eq_true_eq]
    omega
  · next hf =>
    have unlisted : 2 < num8 bs (i + 1) := by
      by_contra h
      have : num8 bs (i + 1) = 0 ∨ num8 bs (i + 1) = 1 ∨ num8 bs (i + 1) = 2 := by omega
      obtain h | h | h := this <;> rw [h] at hf <;> cases hf
    simp [unlisted]

theorem modeAt_eq_some {bs : List Byte} {i : Nat} {m : Mode} (h : modeAt bs i = some m) :
    m.valueCount = num8 bs i ∧ m.format.code = num8 bs (i + 1) ∧ m.rawMin = int32 bs (i + 2) ∧ m.rawMax = int32 bs (i + 6) ∧
      m.siMin = int32 bs (i + 10) ∧ m.siMax = int32 bs (i + 14) ∧ m.minInterval = max 5 (min 1000 (num16 bs (i + 18))) := by
  unfold modeAt at h
  split at h
  · next f hf =>
    simp only [Option.ite_none_right_eq_some, Option.some.injEq] at h
    obtain ⟨-, rfl⟩ := h
    exact ⟨rfl, RawFormat.code_of_ofCode hf, rfl, rfl, rfl, rfl, rfl⟩
  · cases h

/-- The faults for which a DESCRIPTION is invalid (R55). -/
theorem descriptionOf_eq_none_iff (bs : List Byte) : descriptionOf bs = none ↔
    num8 bs 4 = 0 ∨ 8 < num8 bs 4 ∨ bs.length ≠ 5 + 20 * num8 bs 4 ∨ num8 bs 4 ≤ num8 bs 3 ∨
      ∃ k, k < num8 bs 4 ∧ modeAt bs (5 + 20 * k) = none := by
  unfold descriptionOf
  dsimp only
  split
  · next h =>
    simp only [Bool.and_eq_true, decide_eq_true_eq] at h
    rw [Option.map_eq_none_iff, mapM_eq_none_iff]
    simp only [List.mem_range]
    constructor
    · exact fun hk => .inr (.inr (.inr (.inr hk)))
    · rintro (h' | h' | h' | h' | hk)
      · omega
      · omega
      · omega
      · omega
      · exact hk
  · next h =>
    simp only [Bool.and_eq_true, decide_eq_true_eq] at h
    simp only [true_iff]
    by_contra hn
    push_neg at hn
    omega

/-- What a valid DESCRIPTION holds (R55). -/
theorem descriptionOf_eq_some {bs : List Byte} {d : Description} (h : descriptionOf bs = some d) :
    d.typeCode = num16 bs 0 ∧ d.highestRate = num8 bs 2 ∧ d.defaultMode = num8 bs 3 ∧ d.modes.length = num8 bs 4 ∧
      bs.length ≤ 165 ∧ ∀ k e, d.modes[k]? = some e → modeAt bs (5 + 20 * k) = some e := by
  unfold descriptionOf at h
  dsimp only at h
  split at h
  · next hn =>
    simp only [Bool.and_eq_true, decide_eq_true_eq] at hn
    obtain ⟨modes, hm, rfl⟩ := Option.map_eq_some_iff.mp h
    have each := (mapM_eq_some_iff _ _ _).mp hm
    refine ⟨rfl, rfl, rfl, ?_, by omega, fun k e hk => ?_⟩
    · have := each.length_eq
      simpa using this.symm
    · obtain ⟨hk', rfl⟩ := List.getElem?_eq_some_iff.mp hk
      have := each.get (i := k) (by rw [each.length_eq]; exact hk') hk'
      simpa using this
  · cases h

end Sys2Proof.Machine
end

section
/-!
Identification, configuration and mode changes of a smart device (R52 to R59, R74).
-/
namespace Sys2Proof.Machine

variable {c : Prop} {o : Phase} {k : Nat} {s t u : State} {p : Port}

/-! ## SELECT and CONFIGURE -/

/-- The record of a port that sends SELECT for a mode (R58). -/
def PortRec.selecting (r : PortRec) (mode : Nat) (now : Time) : PortRec :=
  { r with selectedMode := mode, window := some { kind := .select, start := now }
           lineSent := lineMessage 0x04 [BitVec.ofNat 8 mode] }

/-- The record of a port that enters CONFIGURING with a rate and a mode, and sends CONFIGURE (R56). -/
def PortRec.configured (r : PortRec) (rate : LineRate) (mode : Nat) (now : Time) : PortRec :=
  { r with
    state := .configuring, identification := none, selectedMode := mode
    window := some { kind := .configure rate, start := now }
    lineSent := lineMessage 0x02
      ([BitVec.ofNat 8 rate.code, BitVec.ofNat 8 mode] ++ le16 ({ r with selectedMode := mode } : PortRec).intervalInUse) }

theorem PortActs.sendSelect {mode : Nat} (h : PortActs c o s p k t u) (hm : (t.port p).modeChange = some mode)
    (due : (t.flag p).due = 0) (fresh : t.unwritten s p) :
    PortActs c o s p k (t.selectSent p mode) (Machine.sendSelect p mode u) := by
  have sent := h.setPort (x := (t.port p).selecting mode t.hubTime) rfl
  have paced := sent.setAcq { t.acquisition p with pollInterval := ((t.port p).selecting mode t.hubTime).intervalInUse }
  have rewritten := paced.rewriteCells (n := ((t.port p).selecting mode t.hubTime).valueCount) due fun i => by simpa using fresh i
  have model : Machine.sendSelect p mode u = Machine.rewriteCells p ((u.port p).selecting mode u.hubTime).valueCount
      ((u.setPort p ((u.port p).selecting mode u.hubTime)).setAcq p
        { u.acquisition p with pollInterval := ((u.port p).selecting mode u.hubTime).intervalInUse }) := by
    rw [Machine.sendSelect, sendLine]
    simp only [State.port_setPort_same, State.setPort_setPort, State.setPort_hubTime, State.port_setAcq, State.acquisition_setPort]
    rfl
  have result : t.selectSent p mode = State.cellsBy ((t.setPort p ((t.port p).selecting mode t.hubTime)).setAcq p
      { t.acquisition p with pollInterval := ((t.port p).selecting mode t.hubTime).intervalInUse }) p
        fun i now x => if i.val < ((t.port p).selecting mode t.hubTime).valueCount then x.staled now else x.drained now := by
    unfold State.selectSent PortRec.selecting
    rw [← hm]
    rfl
  rw [result, model, h.acts.port, h.acts.acquisition, h.acts.hubTime]
  exact rewritten

theorem PortActs.enterConfiguring {rate : LineRate} {mode : Nat} (h : PortActs c o s p k t u) (due : (t.flag p).due = 0)
    (fresh : t.unwritten s p) :
    PortActs c o s p k
      (State.cellsBy (t.setPort p ((t.port p).configured rate mode t.hubTime)) p fun _ now x => x.drained now)
      (Machine.enterConfiguring p rate mode u) := by
  have entered := h.setPort
    (x := { t.port p with state := .configuring, selectedMode := mode, window := none, identification := none }) rfl
  have emptied := entered.emptyCells due fun i => by simpa using fresh i
  have sent := emptied.setPort (x := (t.port p).configured rate mode t.hubTime)
    (by rw [State.cellsBy_port, State.port_setPort_same]; rfl)
  have port : (Machine.emptyCells p (u.setPort p { t.port p with
      state := .configuring, selectedMode := mode, window := none, identification := none })).port p =
      { t.port p with state := .configuring, selectedMode := mode, window := none, identification := none } :=
    (emptied.acts.port p).trans (State.port_setPort_same ..)
  have time : (Machine.emptyCells p (u.setPort p { t.port p with
      state := .configuring, selectedMode := mode, window := none, identification := none })).hubTime = t.hubTime :=
    emptied.acts.hubTime
  have model : Machine.enterConfiguring p rate mode u = State.setPort (Machine.emptyCells p (u.setPort p { t.port p with
      state := .configuring, selectedMode := mode, window := none, identification := none })) p
        ((t.port p).configured rate mode t.hubTime) := by
    rw [Machine.enterConfiguring, h.acts.port, Machine.sendConfigure, sendLine]
    simp only [State.port_setPort_same, State.setPort_setPort, State.setPort_hubTime, port, time]
    rfl
  rw [model]
  convert sent using 1
  unfold State.cellsBy State.setPort
  cases p <;> rfl

end Sys2Proof.Machine
end

section
/-!
O40: a smart device is identified and configured (R51 to R59, R74).
-/
namespace Sys2Proof.Machine

variable {c : Prop} {o : Phase} {k : Nat} {s t u : State} {p : Port}

/-! ## Messages on the line -/

theorem onLine_acts {m : LineReply} {act : State → State} (hd : lineDeaf p s = false) (hl : m.payload.length ≤ 250) :
    onLine p m act s = act s := by
  rw [onLine, hd, if_neg (by simp), if_neg (by omega)]

theorem onLine_deaf {m : LineReply} {act : State → State} (hd : lineDeaf p s = true) : onLine p m act s = s := by
  rw [onLine, if_pos hd]

theorem onLine_deafens {m : LineReply} {act : State → State} (hd : lineDeaf p s = false) (hl : 250 < m.payload.length) :
    onLine p m act s = deafen p s := by
  rw [onLine, hd, if_neg (by simp), if_pos hl]

theorem lineDeaf_of_window {w : OpenWindow} (hw : (s.port p).window = some w) (hp : (s.acquisition p).pollWindow = none) :
    lineDeaf p s = w.deaf := by
  simp [lineDeaf, hw, hp]

theorem pollOpen_of_none (hp : (s.acquisition p).pollWindow = none) : pollOpen p s = false := by simp [pollOpen, hp]

/-- A message that no window takes is discarded (R52). -/
theorem strayArrives_discarded {kind : Byte} {m : LineReply} (hp : (s.acquisition p).pollWindow = none) :
    strayArrives p kind m s = s := by
  rw [strayArrives, pollOpen_of_none hp, Bool.false_and, if_neg (by simp)]

/-- A message with a bad check is discarded where no POLL window is open (R52). -/
theorem badMessage_discarded {m : LineReply} (hp : (s.acquisition p).pollWindow = none) (bad : ∀ k, replyGood k m = false) :
    descriptionArrives p m s = s ∧ configureAccepted p m s = s ∧ selectAccepted p m s = s ∧ sampleArrives p m s = s ∧
      holdArrives p m s = s := by
  refine ⟨?_, ?_, ?_, ?_, ?_⟩
  · rw [descriptionArrives, bad, Bool.and_false, if_neg (by simp), strayArrives_discarded hp]
  · unfold configureAccepted acceptsMode
    dsimp only
    split
    · simp only [bad, Bool.false_and, Bool.and_false, Bool.false_eq_true, if_false]
    · exact strayArrives_discarded hp
  · simp only [selectAccepted, acceptsMode, bad, Bool.false_and, Bool.and_false, Bool.false_eq_true, if_false
      , strayArrives_discarded hp, ite_self]
  · rw [sampleArrives, pollOpen_of_none hp, if_neg (by simp)]
  · rw [holdArrives, pollOpen_of_none hp, if_neg (by simp)]

/-- The commands that bring a message run on the line of their port. -/
theorem exec_lineCommand {kind : Byte} {m : LineReply} {x : Instr} (hx : x ∈ lineCommands p kind m) (hs : s.settled) :
    ∃ act : State → State, exec x s = run (onLine p m act) s ∧
      ((s.acquisition p).pollWindow = none → (∀ k, replyGood k m = false) → act s = s) := by
  simp only [lineCommands, List.mem_cons, List.not_mem_nil, or_false] at hx
  obtain rfl | rfl | rfl | rfl | rfl | rfl := hx
  · exact ⟨descriptionArrives p m, rfl, fun hp bad => (badMessage_discarded hp bad).1⟩
  · exact ⟨configureAccepted p m, rfl, fun hp bad => (badMessage_discarded hp bad).2.1⟩
  · exact ⟨selectAccepted p m, rfl, fun hp bad => (badMessage_discarded hp bad).2.2.1⟩
  · exact ⟨sampleArrives p m, rfl, fun hp bad => (badMessage_discarded hp bad).2.2.2.1⟩
  · exact ⟨holdArrives p m, rfl, fun hp bad => (badMessage_discarded hp bad).2.2.2.2⟩
  · exact ⟨strayArrives p kind m, rfl, fun hp _ => strayArrives_discarded hp⟩

/-! ## The end of a configuration -/

theorem PortActs.startPolling (h : PortActs c o s p k t u) :
    PortActs c o s p k
      (t.setAcq p
        { schedule := .poll, nextDue := t.hubTime + BitVec.ofNat 32 (t.port p).intervalInUse
          pollInterval := (t.port p).intervalInUse, pollWindow := none, missCount := 0, watchdog := some t.hubTime })
      (Machine.startPolling p u) := by
  rw [Machine.startPolling, h.acts.port, h.acts.hubTime]
  exact h.setAcq _

/-! ## The statement -/

theorem smartDevice_identification (h : s.stillPort p) (hi : (s.port p).state = .identifying) :
    let r := s.port p
    (∀ t, r.lineBreak = some t → 20 ≤ elapsedSince s.hubTime t →
      exec (.lineBreakEnd p) s = .next (s.setPort p
        { r with
          lineBreak := none, identification := some s.hubTime, lineSent := [0, 1, 1, 1], queryCount := 1
          window := some { kind := .query, start := s.hubTime } })) ∧
    (∀ t, r.identification = some t → r.queryCount < 3 → 500 * r.queryCount ≤ elapsedSince s.hubTime t →
      exec (.queryRetry p) s = .next (s.setPort p
        { r with lineSent := [0, 1, 1, 1], queryCount := r.queryCount + 1
                 window := some { kind := .query, start := s.hubTime } })) ∧
    ∀ (t : Time) (m : LineReply) (d : Description), r.window = some { kind := .query, start := t } →
      (s.acquisition p).pollWindow = none → replyGood 0x11 m = true → descriptionOf m.payload = some d → (s.flag p).due = 0 →
      let rate := LineRate.ofCode (min d.highestRate 2)
      let chosen := { r with description := some d, selectedMode := chosenMode d r.settings }
      exec (.descriptionReceived p m) s = .next (State.noted
        { s.setPort p
            { chosen with
              state := .configuring, identification := none
              window := some { kind := .configure rate, start := s.hubTime }
              lineSent := lineMessage 0x02
                ([BitVec.ofNat 8 rate.code, BitVec.ofNat 8 chosen.selectedMode] ++ le16 chosen.intervalInUse) } with
          cells := s.cells.set p ((s.cells.get p).map fun c => c.drained s.hubTime) } s) := by
  have query : lineMessage kindQuery [] = [0, 1, 1, 1] := by decide
  dsimp only
  refine ⟨fun t ht he => ?_, fun t ht hn he => ?_, fun t m d hw hp good hd due => ?_⟩
  · show run (lineBreakEnds p) s = _
    refine run_eq_of_nil h.1 ?_ h.1.2
    simp only [lineBreakEnds, hi, ht, timerReached, he, decide_true, Bool.and_self, if_true, sendQuery, sendLine, query
      , State.port_setPort_same, State.setPort_setPort, State.setPort_hubTime]
  · show run (queryAgain p) s = _
    refine run_eq_of_nil h.1 ?_ h.1.2
    simp only [queryAgain, hi, ht, hn, timerReached, he, decide_true, Bool.and_self, if_true, sendQuery, sendLine, query
      , State.port_setPort_same, State.setPort_setPort, State.setPort_hubTime]
  · show run (onLine p m (descriptionArrives p m)) s = _
    have described := (PortActs.of_still (k := 0) h).setPort (x := { s.port p with description := some d }) rfl
    have configuring := described.enterConfiguring (rate := LineRate.ofCode (min d.highestRate 2))
      (mode := chosenMode d (s.port p).settings) due (State.unwritten_of_cells rfl)
    have arrives : onLine p m (descriptionArrives p m) s = enterConfiguring p (LineRate.ofCode (min d.highestRate 2))
        (chosenMode d (s.port p).settings) (s.setPort p { s.port p with description := some d }) := by
      have short : m.payload.length ≤ 250 := (descriptionOf_eq_some hd).2.2.2.2.1.trans (by omega)
      have isQuery : (s.port p).windowIs PortWindow.isQuery = true := by simp [PortRec.windowIs, hw, PortWindow.isQuery]
      rw [onLine_acts (lineDeaf_of_window hw hp) short, descriptionArrives]
      simp only [hi, isQuery, kindDescription, good, decide_true, Bool.and_self, if_true, hd]
    rw [← arrives] at configuring
    rw [configuring.run h.1, State.port_setPort_same, State.setPort_hubTime]
    unfold State.cellsBy
    simp only [State.setPort_setPort]
    rfl

/-- Settles O40. -/
theorem smartDeviceIsIdentifiedAndConfigured : Obligations.SmartDeviceIsIdentifiedAndConfigured := by
  refine ⟨fun p s h hi => smartDevice_identification h hi, fun p t m s hs hi hw hp hl hd => ?_, fun bs => ?_, fun kind m => ?_
    , fun p m kind w s hs hw hp x hx => ?_, fun d g => rfl, fun r d e hd he => ?_, fun p t m s h due good hm => ?_⟩
  · refine run_of_same hs ?_
    rw [onLine_acts (lineDeaf_of_window hw hp) hl, descriptionArrives, hd]
    dsimp only
    split
    · rfl
    · exact strayArrives_discarded hp
  · refine ⟨?_, fun d hd => ?_⟩
    · rw [descriptionOf_eq_none_iff]
      simp only [modeAt_eq_none_iff, Nat.add_assoc]
    · obtain ⟨code, rate, mode, modes, -, each⟩ := descriptionOf_eq_some hd
      exact ⟨code, rate, mode, modes, fun k e he => modeAt_eq_some (each k e he)⟩
  · have small (n : Nat) : n % 255 < 256 := by omega
    refine ⟨?_, ?_⟩
    · rw [replyGood, lineCheck_eq, Bool.and_eq_true, decide_eq_true_eq, decide_eq_true_eq, byte_eq_u8_iff _ (small _)
        , byte_eq_u8_iff _ (small _)]
      rfl
    · rw [lineMessage, lineCheck_eq]
      rfl
  · obtain ⟨act, he, bad⟩ := exec_lineCommand hx hs
    rw [he]
    have hears := lineDeaf_of_window hw hp
    refine ⟨fun deaf => run_of_same hs (onLine_deaf (hears.trans deaf)), fun deaf long => ?_, fun short hb => ?_⟩
    · refine run_eq_of_nil hs ?_ hs.2
      rw [onLine_deafens (hears.trans deaf) long]
      have acq : s.setAcq p (s.acquisition p) = s := by cases p <;> rfl
      simp only [deafen, hw, hp, Option.map_some, Option.map_none]
      conv_rhs => rw [← acq]
      simp only [← hp]
      cases p <;> rfl
    · refine run_of_same hs ?_
      cases deaf : w.deaf with
      | true => exact onLine_deaf (hears.trans deaf)
      | false => rw [onLine_acts (hears.trans deaf) short, bad hp hb]
  · have mode : r.currentMode = some e := by simp [PortRec.currentMode, hd, he]
    exact ⟨by rw [PortRec.intervalInUse, mode], by rw [PortRec.valueCount, mode], mode⟩
  · have short : m.payload.length ≤ 250 := by rw [hm]; exact Nat.le_of_ble_eq_true rfl
    have accepts : acceptsMode m (s.port p).selectedMode = true := by
      rw [acceptsMode, kindAccept, good, hm, u8]
      simp
    refine ⟨fun rate hc hw hp => ?_, fun ha hw hp => ?_, fun mode ha hmode hw hp => ?_⟩
    · show run (onLine p m (configureAccepted p m)) s = _
      have rated := (PortActs.of_calm (k := 1) h).setPort (x := { s.port p with lineRate := rate }) rfl
      have polled := rated.enterActive.startPolling
      have arrives : onLine p m (configureAccepted p m) s =
          startPolling p (enterActive p (s.setPort p { s.port p with lineRate := rate })) := by
        rw [onLine_acts (lineDeaf_of_window hw hp) short, configureAccepted]
        simp only [hw, hc, accepts, decide_true, Bool.and_self, if_true]
      have active := State.portActive_poolOnly (s.setPort p { s.port p with lineRate := rate }) p
      rw [← arrives] at polled
      rw [polled.run_unwritten h.1 active.cells, active.port, active.hubTime, State.port_setPort_same, State.port_setPort_same]
      rfl
    · refine run_eq_of_nil h.1 ?_ h.1.2
      have isSelect : (s.port p).windowIs PortWindow.isSelect = true := by simp [PortRec.windowIs, hw, PortWindow.isSelect]
      rw [onLine_acts (lineDeaf_of_window hw hp) short, selectAccepted]
      simp only [isSelect, ha, accepts, decide_true, Bool.and_self, if_true]
    · show run (deferredSelect p) s = _
      have sent := (PortActs.of_calm (k := 1) h).sendSelect hmode due (State.unwritten_of_cells rfl)
      have deferred : deferredSelect p s = sendSelect p mode s := by
        simp [deferredSelect, hmode, ha, lineFree, hw, pollOpen, hp]
      rw [← deferred] at sent
      exact sent.run h.1

end Sys2Proof.Machine
end

section
/-!
O45: POLL, its misses, and the messages that a POLL window takes or does not take (R52, R69, R70, R72).
-/
namespace Sys2Proof.Machine

variable {c : Prop} {o : Phase} {k : Nat} {s t u : State} {p : Port}

/-! ## Misses -/

/-- The acquisition of a port after a miss (R70). -/
def Acquisition.missed (a : Acquisition) : Acquisition := { a with pollWindow := none, missCount := min 3 (a.missCount + 1) }

theorem PortActs.pollMiss_counts (h : PortActs c o s p k t u) (hm : (t.acquisition p).missCount ≠ 2) :
    PortActs c o s p k (t.setAcq p (t.acquisition p).missed) (Machine.pollMiss p u) := by
  rw [Machine.pollMiss, h.acts.acquisition, if_neg hm]
  exact h.setAcq _

/-- The third miss in turn makes the cells of the mode STALE, and sets STALE (R72). -/
theorem PortActs.pollMiss_third (h : PortActs c o s p (k + 1) t u) (hm : (t.acquisition p).missCount = 2)
    (due : (t.flag p).due = 0) (fresh : t.unwritten s p) :
    PortActs c o s p k
      (State.flagReported (State.cellsBy (t.setAcq p (t.acquisition p).missed) p
        fun i now x => if i.val < (t.port p).valueCount then x.staled now else x) p 1)
      (Machine.pollMiss p u) := by
  have missed := h.setAcq (t.acquisition p).missed
  have stale := (missed.staleCells (n := (t.port p).valueCount) due fun i => by simpa using fresh i).setFlag (j := 1)
  rw [Machine.pollMiss, h.acts.acquisition, if_pos hm, State.port_setAcq, h.acts.port]
  exact stale

theorem State.cellsBy_of {g : Fin 4 → Time → Cell → Cell} {now : Time} {q : PerPort (Quad Cell)} (ht : t.hubTime = now)
    (hc : t.cells = q) : t.cellsBy p g =
      { t with
        cells := q.set p
          { q0 := g 0 now (q.get p).q0, q1 := g 1 now (q.get p).q1, q2 := g 2 now (q.get p).q2, q3 := g 3 now (q.get p).q3 } } := by
  subst ht hc
  rfl

theorem PortActs.due_flagReported {j : Nat} (due : (t.flag p).due = 0) : ((t.flagReported p j).flag p).due = 0 := by
  obtain ⟨f, same, hf⟩ := t.flagReported_poolOnly p j
  rw [same.flag, State.flag_setFlagRec_same, hf, due]

theorem State.flagReported_keeps (t : State) (p : Port) (j : Nat) :
    (t.flagReported p j).cells = t.cells ∧ (t.flagReported p j).port p = t.port p ∧
      (t.flagReported p j).acquisition p = t.acquisition p ∧ (t.flagReported p j).hubTime = t.hubTime := by
  obtain ⟨f, same, -⟩ := t.flagReported_poolOnly p j
  exact ⟨same.cells, same.port p, same.acquisition p, same.hubTime⟩

/-! ## Messages in a POLL window -/

theorem lineDeaf_of_poll {w : PollWindow} (hw : (s.port p).window = none) (hp : (s.acquisition p).pollWindow = some w) :
    lineDeaf p s = w.deaf := by
  simp [lineDeaf, hw, hp]

theorem pollOpen_of_some {w : PollWindow} (hp : (s.acquisition p).pollWindow = some w) : pollOpen p s = true := by
  simp [pollOpen, hp]

theorem deafen_poll {w : PollWindow} (hw : (s.port p).window = none) (hp : (s.acquisition p).pollWindow = some w) :
    deafen p s = s.setAcq p { s.acquisition p with pollWindow := some { w with deaf := true } } := by
  have silent : ({ s.port p with window := none } : PortRec) = s.port p := by rw [← hw]
  have kept : s.setPort p (s.port p) = s := by cases p <;> rfl
  simp only [deafen, hw, hp, Option.map_some, Option.map_none]
  rw [silent, kept]

/-- A SAMPLE of another mode or another size does not fit (R70). -/
theorem sampleValues_none {r : PortRec} {mode : Mode} {payload : List Byte} (hm : r.currentMode = some mode)
    (h : payload.head? ≠ some (BitVec.ofNat 8 r.selectedMode) ∨ payload.length ≠ 1 + mode.valueCount * mode.format.size) :
    sampleValues r payload = none := by
  cases payload with
  | nil => simp [sampleValues, hm]
  | cons b rest =>
    simp only [sampleValues, hm, Bool.and_eq_true, decide_eq_true_eq, ite_eq_right_iff, reduceCtorEq, imp_false, not_and]
    intro hb hl
    obtain h | h := h
    · exact h (by rw [hb]; rfl)
    · exact h hl

/-- The statement of one message in a POLL window that is not discarded. -/
theorem run_onLine {act : State → State} {m : LineReply} {w : PollWindow} (hs : s.settled) (hw : (s.port p).window = none)
    (hp : (s.acquisition p).pollWindow = some w) (deaf : w.deaf = false) (short : m.payload.length ≤ 250)
    (acts : PortActs c .alone s p k t (act s)) : run (onLine p m act) s = .next (t.noted s) := by
  rw [← onLine_acts (act := act) ((lineDeaf_of_poll hw hp).trans deaf) short] at acts
  exact acts.run hs

/-- Settles O45. -/
theorem pollingCountsMisses : Obligations.PollingCountsMisses := by
  intro p s h hw
  dsimp only
  have start (k : Nat) := PortActs.of_calm (k := k) h
  have fresh : s.unwritten s p := State.unwritten_of_cells rfl
  obtain ⟨cells, port, acquisition, time⟩ := s.flagReported_keeps p 2
  have missed (hm : (s.acquisition p).missCount ≠ 2) := (start 0).pollMiss_counts hm
  have stale (hm : (s.acquisition p).missCount = 2) (due : (s.flag p).due = 0) := (start 1).pollMiss_third hm due fresh
  have protocol := (start 1).setFlag (j := 2)
  have protocolMissed (hm : (s.acquisition p).missCount ≠ 2) := (start 1).setFlag (j := 2)|>.pollMiss_counts
    (by rw [acquisition]; exact hm)
  have protocolStale (hm : (s.acquisition p).missCount = 2) (due : (s.flag p).due = 0) := ((start 2).setFlag (j := 2)).pollMiss_third
    (by rw [acquisition]; exact hm) (PortActs.due_flagReported due) (State.unwritten_of_cells cells)
  refine ⟨fun ha hr hp hm => ?_, fun w hp => ⟨fun early => ?_, fun late hm => ?_, fun late hm due => ?_, fun kind m =>
    ⟨fun x hx => ?_, fun deaf short => ?_⟩⟩⟩
  · have poll : lineMessage kindPoll [] = [0, 3, 3, 3] := by decide
    refine run_eq_of_nil h.1 ?_ h.1.2
    simp only [pollDueNow, ha, hr, lineFree, pollOpen, hw, hp, hm, Option.isNone_none, Option.isSome_none, Bool.not_false
      , Bool.and_self, decide_true, if_true, sendPoll, sendLine, State.port_setAcq, poll]
  · exact run_of_same h.1 (by simp [pollWindowCloses, hp, early])
  · have here : pollWindowCloses p s = pollMiss p s := by simp [pollWindowCloses, hp, late]
    have acts := missed hm
    rw [← here] at acts
    exact acts.run_unwritten h.1 rfl
  · have here : pollWindowCloses p s = pollMiss p s := by simp [pollWindowCloses, hp, late]
    have acts := stale hm due
    rw [← here] at acts
    exact acts.run h.1
  · obtain ⟨act, he, -⟩ := exec_lineCommand hx h.1
    rw [he]
    refine ⟨fun deaf => run_of_same h.1 (onLine_deaf ((lineDeaf_of_poll hw hp).trans deaf)), fun deaf long => ?_⟩
    refine run_eq_of_nil h.1 ?_ h.1.2
    rw [onLine_deafens ((lineDeaf_of_poll hw hp).trans deaf) long]
    exact deafen_poll hw hp
  · have opens := pollOpen_of_some hp
    have isHold (good : replyGood 0x14 m = true) : holdArrives p m s = pollMiss p s := by
      rw [holdArrives, opens, if_pos rfl, kindHold, good, if_pos rfl]
    have isSample (good : replyGood 0x13 m = true) {mode : Mode} (hmode : (s.port p).currentMode = some mode)
        (bad : m.payload.head? ≠ some (BitVec.ofNat 8 (s.port p).selectedMode) ∨
          m.payload.length ≠ 1 + mode.valueCount * mode.format.size) :
        sampleArrives p m s = pollMiss p (setFlag p 2 s) := by
      rw [sampleArrives, opens, if_pos rfl, kindSample, good, if_pos rfl, sampleValues_none hmode bad, hmode]
      rfl
    have told {act : State → State} (acts : act s = setFlag p 2 s) :
        run (onLine p m act) s = .next (s.flagReported p 2) := by
      have acts' := protocol
      rw [← acts] at acts'
      rw [run_onLine h.1 hw hp deaf short acts', acts'.noted_eq cells]
    refine ⟨fun good hm => ?_, fun good hm due => ?_, fun bad => told ?_, fun bad => told ?_, fun mode good hmode hm bad => ?_
      , fun mode good hmode hm due bad => ?_, fun h3 h4 => told ?_⟩
    · have acts := missed hm
      rw [← isHold good] at acts
      exact (run_onLine h.1 hw hp deaf short acts).trans (by rw [acts.noted_eq rfl]; rfl)
    · have acts := stale hm due
      rw [← isHold good] at acts
      exact run_onLine h.1 hw hp deaf short acts
    · rw [holdArrives, opens, if_pos rfl, kindHold, bad, if_neg (by simp)]
      rfl
    · rw [sampleArrives, opens, if_pos rfl, kindSample, bad, if_neg (by simp)]
      rfl
    · have acts := protocolMissed hm
      rw [← isSample good hmode bad] at acts
      refine (run_onLine h.1 hw hp deaf short acts).trans ?_
      rw [acts.noted_eq cells, acquisition]
      rfl
    · have acts := protocolStale hm due
      rw [← isSample good hmode bad] at acts
      refine (run_onLine h.1 hw hp deaf short acts).trans ?_
      rw [acquisition, port, State.cellsBy_of (t := State.setAcq _ p _) time cells]
      rfl
    · rw [strayArrives, opens, kindSample, kindHold]
      simp only [h3, h4, decide_false, Bool.or_self, Bool.and_false, Bool.not_false, Bool.and_self, if_true]
      rfl

end Sys2Proof.Machine
end

section
/-!
O44: a good SAMPLE writes its cells, and what that raises (R71, R76, R78, R89 to R91).
-/
namespace Sys2Proof.Machine

variable {c : Prop} {o : Phase} {k : Nat} {s t u : State} {p : Port}

/-! ## What the writes of one SAMPLE raise -/

theorem Apart.setFlagRec (p : Port) (x : FlagRec) : Apart (State.setFlagRec · p x) :=
  ⟨fun _ => rfl, fun _ => rfl, fun _ _ _ => rfl, fun _ _ => rfl, fun _ _ => rfl⟩

/-- The flags are written apart from the cells. -/
theorem State.flagsWritten_setCell (t : State) (p q : Port) (i : Fin 4) (x : Cell) (range : Bool) :
    (t.setCell (.port q i) x).flagsWritten p range = (t.flagsWritten p range).setCell (.port q i) x := by
  unfold State.flagsWritten
  simp only [State.flag_setCell]
  split
  · rfl
  · exact (Apart.setPortCell q i x).event ((t.setFlagRec p ((t.flag p).afterWrite range)).latched 6) _ _

/-- A flag that is set stays as it is where it is set again. -/
theorem or_flagBit_of_set {b : BitVec 5} {j : Nat} (h : b.getLsbD j = true) : b ||| flagBit j = b := by
  refine BitVec.eq_of_getLsbD_eq fun i _ => ?_
  simp only [BitVec.getLsbD_or, flagBit, BitVec.getLsbD_shiftLeft, BitVec.getLsbD_one]
  by_cases e : i = j
  · simp [e, h]
  · have : i < j ∨ ¬ i - j = 0 := by omega
    obtain h | h := this <;> simp [h]

/-- A write with no raise due, within the range. -/
theorem State.flagsWritten_within (due : (t.flag p).due = 0) : t.flagsWritten p false = t := by
  have raised : (t.flag p).raisedByWrite false = 0 := by simp [FlagRec.raisedByWrite, due]
  have kept : (t.flag p).afterWrite false = t.flag p := by rw [FlagRec.afterWrite, ← due]; rfl
  have same : t.setFlagRec p (t.flag p) = t := by cases p <;> rfl
  unfold State.flagsWritten
  dsimp only
  rw [if_pos raised, kept, same]

/-- A write with no raise due, beyond the range, sets RANGE (R91). -/
theorem State.flagsWritten_beyond (due : (t.flag p).due = 0) : t.flagsWritten p true = t.flagReported p 0 := by
  have after : (t.flag p).afterWrite true = { t.flag p with flags := (t.flag p).flags ||| flagBit 0 } := by
    rw [FlagRec.afterWrite, ← due]
    rfl
  unfold State.flagsWritten
  dsimp only
  rw [after]
  cases hf : (t.flag p).flags.getLsbD 0 with
  | true =>
    have raised : (t.flag p).raisedByWrite true = 0 := by simp [FlagRec.raisedByWrite, due, flagRange, hf]
    have same : t.setFlagRec p (t.flag p) = t := by cases p <;> rfl
    rw [State.flagReported_set hf, if_pos raised, or_flagBit_of_set hf]
    exact same
  | false =>
    cases hm : (t.flag p).mask.getLsbD 0 with
    | true =>
      have raised : (t.flag p).raisedByWrite true = flagBit 0 := by
        rw [FlagRec.raisedByWrite, flagRange, hf, hm, due]
        rfl
      rw [State.flagReported_raised hf hm, raised, if_neg (by decide)]
    | false =>
      have raised : (t.flag p).raisedByWrite true = 0 := by
        rw [FlagRec.raisedByWrite, flagRange, hm, due, Bool.and_false]
        rfl
      rw [State.flagReported_masked hf hm, if_pos raised]

/-- A flag stands once it was set. -/
theorem State.flagReported_flag (t : State) (p : Port) {j : Nat} (hj : j < 5) :
    ((t.flagReported p j).flag p).flags.getLsbD j = true := by
  cases hf : (t.flag p).flags.getLsbD j with
  | true => rwa [State.flagReported_set hf]
  | false =>
    have bit : ((t.flag p).flags ||| flagBit j).getLsbD j = true := by
      simp [BitVec.getLsbD_or, flagBit, BitVec.getLsbD_shiftLeft, BitVec.getLsbD_one, hj]
    cases hm : (t.flag p).mask.getLsbD j with
    | true =>
      rw [State.flagReported_raised hf hm, State.flagEvent, (State.event_poolOnly ..).flag, (State.latched_poolOnly ..).flag
        , State.flag_setFlagRec_same]
      exact bit
    | false =>
      rw [State.flagReported_masked hf hm, State.flag_setFlagRec_same]
      exact bit

/-- The writes behind the first one raise RANGE at most once. -/
theorem State.flagsWritten_rest {ranges : List Bool} (due : (t.flag p).due = 0) :
    ranges.foldl (fun t r => t.flagsWritten p r) t = if true ∈ ranges then t.flagReported p 0 else t := by
  induction ranges generalizing t with
  | nil => rfl
  | cons r rest ih =>
    cases r with
    | false =>
      rw [List.foldl_cons, State.flagsWritten_within due, ih due]
      simp
    | true =>
      rw [List.foldl_cons, State.flagsWritten_beyond due, ih (PortActs.due_flagReported due)]
      have stands : ((t.flagReported p 0).flag p).flags.getLsbD 0 = true := t.flagReported_flag p (by omega)
      rw [State.flagReported_set stands, ite_self, if_pos (by simp)]

end Sys2Proof.Machine
end

section
/-!
O44, continued: the converted values of a SAMPLE, its cells, and its events.
-/
namespace Sys2Proof.Machine

variable {c : Prop} {o : Phase} {k : Nat} {s t u : State} {p : Port}

/-! ## Raw values -/

theorem byte_toInt (x : Byte) : x.toInt = if x.toNat < 128 then (x.toNat : Int) else (x.toNat : Int) - 256 := by
  rw [BitVec.toInt_eq_toNat_cond]
  split <;> split <;> omega

theorem word16_toInt {n : Nat} (h : n < 65536) :
    (BitVec.ofNat 16 n).toInt = if n < 32768 then (n : Int) else (n : Int) - 65536 := by
  rw [BitVec.toInt_eq_toNat_cond, BitVec.toNat_ofNat, Nat.mod_eq_of_lt h]
  split <;> split <;> omega

theorem word32_toInt {n : Nat} (h : n < 4294967296) :
    (BitVec.ofNat 32 n).toInt = if n < 2147483648 then (n : Int) else (n : Int) - 4294967296 := by
  rw [BitVec.toInt_eq_toNat_cond, BitVec.toNat_ofNat, Nat.mod_eq_of_lt h]
  split <;> split <;> omega

theorem num8_cons_succ (b : Byte) (bs : List Byte) (i : Nat) : num8 (b :: bs) (i + 1) = (bs.getD i 0).toNat := rfl

/-! ## Conversion -/

/-- A conversion, in the terms of the statements (R76, R78). -/
theorem Mode.convert_eq (m : Mode) (g : PortSettings) (x : Int) :
    m.convert g x = { value := (m.reads g x).1, tag := (m.reads g x).2, setsRange := decide (m.beyond x) } := by
  unfold Mode.convert Mode.reads
  by_cases lo : x < m.rawMin
  · have beyond : m.beyond x := .inl lo
    cases hp : g.policy <;> simp [lo, beyond, RangePolicy.outOfRange]
  · by_cases hi : m.rawMax < x
    · have beyond : m.beyond x := .inr hi
      cases hp : g.policy <;> simp [lo, hi, beyond, RangePolicy.outOfRange]
    · have within : ¬ m.beyond x := by rintro (h | h) <;> contradiction
      simp only [lo, hi, within, if_false, Converted.inRange, interpolate, decide_false]

/-- A converted value is a number that a cell holds (R76, R78). -/
theorem Mode.reads_bounds {m : Mode} (g : PortSettings) (x : Int) (rises : m.rawMin < m.rawMax) (lo : -2147483648 ≤ m.siMin)
    (lo' : m.siMin ≤ 2147483647) (hi : -2147483648 ≤ m.siMax) (hi' : m.siMax ≤ 2147483647) :
    -2147483648 ≤ (m.reads g x).1 ∧ (m.reads g x).1 ≤ 2147483647 := by
  unfold Mode.reads
  by_cases beyond : m.beyond x
  · rw [if_pos beyond]
    cases g.policy with
    | saturate => dsimp only; split <;> omega
    | indefinite => dsimp only; omega
  · obtain ⟨above, below⟩ := not_or.mp beyond
    rw [if_neg beyond]
    exact ⟨le_interpolate _ rises (by omega) (by omega) lo hi, interpolate_le _ rises (by omega) (by omega) lo' hi'⟩

/-! ## The writes of a SAMPLE -/

/-- The cell that a raw value is written to takes its converted value (R71). -/
def State.cellRead (t : State) (p : Port) (m : Mode) (g : PortSettings) (e : Fin 4 × Int) : State :=
  t.setCell (.port p e.1)
    ((t.cell (.port p e.1)).written t.hubTime (m.reads g e.2).1 (m.reads g e.2).2 .sensor)

/-- One raw value is written with its flags. -/
def State.cellSampled (t : State) (p : Port) (m : Mode) (g : PortSettings) (e : Fin 4 × Int) : State :=
  (t.cellRead p m g e).flagsWritten p (decide (m.beyond e.2))

theorem State.flagsWritten_hubTime (t : State) (p : Port) (range : Bool) : (t.flagsWritten p range).hubTime = t.hubTime :=
  (t.flagsWritten_poolOnly p range).hubTime

theorem State.cellRead_flagsWritten (t : State) (p : Port) (m : Mode) (g : PortSettings) (e : Fin 4 × Int) (range : Bool) :
    (t.flagsWritten p range).cellRead p m g e = (t.cellRead p m g e).flagsWritten p range := by
  rw [State.cellRead, State.cellRead, State.flagsWritten_setCell, State.flagsWritten_hubTime
    , State.flagsWritten_cell _ _ _ (.inr (by simp))]

/-- The cells of a SAMPLE come apart from its flags. -/
theorem State.cellSampled_foldl (m : Mode) (g : PortSettings) (es : List (Fin 4 × Int)) (t : State) :
    es.foldl (State.cellSampled · p m g) t =
      (es.map fun e => decide (m.beyond e.2)).foldl (fun t r => t.flagsWritten p r) (es.foldl (State.cellRead · p m g) t) := by
  have apart (es : List (Fin 4 × Int)) (t : State) (r : Bool) :
      es.foldl (State.cellRead · p m g) (t.flagsWritten p r) = (es.foldl (State.cellRead · p m g) t).flagsWritten p r := by
    induction es generalizing t with
    | nil => rfl
    | cons e es ih => rw [List.foldl_cons, State.cellRead_flagsWritten, ih, List.foldl_cons]
  induction es generalizing t with
  | nil => rfl
  | cons e es ih => rw [List.foldl_cons, State.cellSampled, ih, apart, List.map_cons, List.foldl_cons, List.foldl_cons]

/-- A SAMPLE is written, one event at most for each of its values. -/
theorem PortActs.writeSamples {m : Mode} {g : PortSettings} (rises : m.rawMin < m.rawMax) (lo : -2147483648 ≤ m.siMin)
    (lo' : m.siMin ≤ 2147483647) (hi : -2147483648 ≤ m.siMax) (hi' : m.siMax ≤ 2147483647) {es : List (Fin 4 × Int)}
    (distinct : (es.map Prod.fst).Nodup) (h : PortActs c o s p (es.length + k) t u)
    (fresh : ∀ e ∈ es, (t.cell (.port p e.1)).updateCount = (s.cell (.port p e.1)).updateCount) :
    PortActs c o s p k (es.foldl (State.cellSampled · p m g) t)
      (es.foldl (fun u e => writeConverted p e.1 (m.convert g e.2) u) u) := by
  induction es generalizing t u with
  | nil => simpa using h
  | cons e es ih =>
    obtain ⟨vlo, vhi⟩ := m.reads_bounds g e.2 rises lo lo' hi hi'
    have first : PortActs c o s p (es.length + k + 1) t u := by
      have : (e :: es).length + k = es.length + k + 1 := by simp only [List.length_cons]; omega
      rwa [this] at h
    have same := fresh e (by simp)
    have written : PortActs c o s p (es.length + k) (t.cellSampled p m g e) (writeConverted p e.1 (m.convert g e.2) u) := by
      have model : writeConverted p e.1 (m.convert g e.2) u = commitPortWrite p e.1
          ((t.cell (.port p e.1)).written t.hubTime (m.reads g e.2).1 (m.reads g e.2).2 .sensor) (decide (m.beyond e.2)) u := by
        rw [m.convert_eq g e.2, ← h.acts.portCell p e.1, ← h.acts.hubTime, ← Cell.valueWrite_eq vlo vhi]
        rfl
      rw [model]
      exact first.write same (by rw [← same]; exact count_succ_ne _)
    rw [List.map_cons, List.nodup_cons] at distinct
    rw [List.foldl_cons, List.foldl_cons]
    refine ih (t := t.cellSampled p m g e) distinct.2 written fun x hx => ?_
    have other : e.1 ≠ x.1 := fun heq => distinct.1 (heq ▸ List.mem_map_of_mem hx)
    rw [State.cellSampled, State.flagsWritten_cell _ _ _ (.inr (by simp)), State.cellRead
      , State.cell_setCell_other t _ fun he => other (CellId.port.inj he).2]
    exact fresh x (by simp [hx])

/-! ## The events of a SAMPLE -/

theorem State.latched_of_set {n : Nat} (h : t.attention.latches.getLsbD n = true) : t.latched n = t := by
  rw [State.latched, ← Attention.setLatch_eq, Attention.setLatch, if_pos h]

theorem Attention.withLatch_keeps (a : Attention) (j : Nat) {n : Nat} (h : a.latches.getLsbD n = true) :
    (a.withLatch j).latches.getLsbD n = true := by
  simp [Attention.withLatch, BitVec.getLsbD_or, h]

/-- A latch that is set stands after an event. -/
theorem State.event_latch (t : State) (route : Option Endpoint) (payload : List Byte) {n : Nat}
    (h : t.attention.latches.getLsbD n = true) : (t.event route payload).attention.latches.getLsbD n = true := by
  cases route with
  | none => exact h
  | some e =>
    show (t.handed e.link _).attention.latches.getLsbD n = true
    unfold State.handed
    dsimp only
    split
    · exact h
    · split
      · exact Attention.withLatch_keeps _ 10 h
      · exact h

/-- `t` with the event of a raise of flags of a port, which names the flags and the mask as they stood (R90, R199). -/
def State.raisedWith (t : State) (p : Port) (raised flags mask : BitVec 5) : State :=
  t.event (t.port p).settings.eventRoute
    ([2, BitVec.ofNat 8 p.code, raised.zeroExtend 8, flags.zeroExtend 8, mask.zeroExtend 8] ++ le32 t.hubTime)

end Sys2Proof.Machine
end

section
/-!
O44, concluded.
-/
namespace Sys2Proof.Machine

variable {s t : State} {p : Port}

/-- The flags and the latch that a SAMPLE leaves, where its values lie beyond the range or not (R89, R91). -/
def State.sampledFlags (t : State) (p : Port) (beyond : Prop) [Decidable beyond] : State :=
  let r := t.flag p
  let v := t.setFlagRec p { flags := if beyond then r.flags ||| 1 else r.flags, mask := r.mask, due := 0 }
  if r.due ≠ 0 ∨ beyond ∧ r.flags.getLsbD 0 = false ∧ r.mask.getLsbD 0 = true then v.latched 6 else v

theorem State.raisedWith_setFlagRec (t : State) (p : Port) (raised flags mask : BitVec 5) (x : FlagRec) :
    (t.setFlagRec p x).raisedWith p raised flags mask = (t.raisedWith p raised flags mask).setFlagRec p x :=
  (Apart.setFlagRec p x).event t _ _

theorem State.setFlagRec_setFlagRec (t : State) (p : Port) (a b : FlagRec) :
    (t.setFlagRec p a).setFlagRec p b = t.setFlagRec p b := by cases p <;> rfl

theorem State.latched_latch (t : State) {n : Nat} (h : n < 12) : (t.latched n).attention.latches.getLsbD n = true :=
  (Attention.withLatch_latches _ _ _ h).mpr (.inr rfl)

theorem or_eq_zero_iff (a b : BitVec 5) : a ||| b = 0 ↔ a = 0 ∧ b = 0 := BitVec.or_eq_zero_iff

/-- The first write of a SAMPLE, beyond the range. -/
theorem State.flagsWritten_first (t : State) (p : Port) : t.flagsWritten p true =
    let r := t.flag p
    let raised := r.due ||| if r.flags.getLsbD 0 = false ∧ r.mask.getLsbD 0 = true then 1 else 0
    let v := t.sampledFlags p True
    if raised ≠ 0 then v.raisedWith p raised (r.flags ||| 1) r.mask else v := by
  have flags : (t.flag p).afterWrite true = { flags := (t.flag p).flags ||| 1, mask := (t.flag p).mask, due := 0 } := rfl
  have raises : (t.flag p).raisedByWrite true = (t.flag p).due |||
      if (t.flag p).flags.getLsbD 0 = false ∧ (t.flag p).mask.getLsbD 0 = true then 1 else 0 := by
    cases hf : (t.flag p).flags.getLsbD 0 <;> cases hm : (t.flag p).mask.getLsbD 0 <;>
      rw [FlagRec.raisedByWrite, flagRange, hf, hm] <;> rfl
  have raised_zero : ((t.flag p).due ||| if (t.flag p).flags.getLsbD 0 = false ∧ (t.flag p).mask.getLsbD 0 = true then 1 else 0) = 0 ↔
      ¬ ((t.flag p).due ≠ 0 ∨ True ∧ (t.flag p).flags.getLsbD 0 = false ∧ (t.flag p).mask.getLsbD 0 = true) := by
    rw [or_eq_zero_iff]
    by_cases h : (t.flag p).flags.getLsbD 0 = false ∧ (t.flag p).mask.getLsbD 0 = true
    · rw [if_pos h]
      exact ⟨fun e => absurd e.2 (by decide), fun e => (e (.inr ⟨trivial, h⟩)).elim⟩
    · rw [if_neg h]
      refine ⟨?_, fun e => ⟨not_not.mp fun d => e (.inl d), rfl⟩⟩
      rintro ⟨d, -⟩ (n | n)
      · exact n d
      · exact h n.2
  unfold State.flagsWritten State.sampledFlags
  dsimp only
  rw [raises, flags, if_pos trivial]
  by_cases zero : ((t.flag p).due |||
      if (t.flag p).flags.getLsbD 0 = false ∧ (t.flag p).mask.getLsbD 0 = true then 1 else 0) = 0
  · rw [if_pos zero, if_neg (not_not.mpr zero), if_neg (raised_zero.mp zero)]
  · rw [if_neg zero, if_pos zero, if_pos (not_not.mp (mt raised_zero.mpr zero)), State.flagEvent]
    have record := State.flag_setFlagRec_same t p { flags := (t.flag p).flags ||| 1, mask := (t.flag p).mask, due := 0 }
    rw [(State.latched_poolOnly ..).flag, record]
    rfl

theorem State.flagEvent_eq {raised : BitVec 5} {r : FlagRec} (h : t.flag p = r) :
    t.flagEvent p raised = t.raisedWith p raised r.flags r.mask := by
  subst h
  rfl

/-- A latch that is set before an event is set after it. -/
theorem State.raisedWith_latched {raised flags mask : BitVec 5} {n : Nat} (h : t.attention.latches.getLsbD n = true) :
    (t.raisedWith p raised flags mask).latched n = t.raisedWith p raised flags mask :=
  State.latched_of_set (State.event_latch t _ _ h)

/-- The writes of a SAMPLE whose first value lies within the range. -/
theorem State.flagsWritten_later (t : State) (p : Port) (beyond : Prop) [Decidable beyond] :
    (if beyond then (t.flagsWritten p false).flagReported p 0 else t.flagsWritten p false) =
    let r := t.flag p
    let v := t.sampledFlags p beyond
    let w := if r.due ≠ 0 then v.raisedWith p r.due r.flags r.mask else v
    if beyond ∧ r.flags.getLsbD 0 = false ∧ r.mask.getLsbD 0 = true then w.raisedWith p 1 (r.flags ||| 1) r.mask else w := by
  have raises : (t.flag p).raisedByWrite false = (t.flag p).due := by simp [FlagRec.raisedByWrite]
  have flags : (t.flag p).afterWrite false = { flags := (t.flag p).flags, mask := (t.flag p).mask, due := 0 } := rfl
  have first : t.flagsWritten p false = if (t.flag p).due ≠ 0 then
      ((t.setFlagRec p { flags := (t.flag p).flags, mask := (t.flag p).mask, due := 0 }).latched 6).raisedWith p (t.flag p).due
        (t.flag p).flags (t.flag p).mask
      else t.setFlagRec p { flags := (t.flag p).flags, mask := (t.flag p).mask, due := 0 } := by
    unfold State.flagsWritten
    dsimp only
    rw [raises, flags]
    by_cases due : (t.flag p).due = 0
    · rw [if_pos due, if_neg (not_not.mpr due)]
    · have record := State.flag_setFlagRec_same t p { flags := (t.flag p).flags, mask := (t.flag p).mask, due := 0 }
      rw [if_neg due, if_pos due, State.flagEvent, (State.latched_poolOnly ..).flag, record]
      rfl
  have flag : (t.flagsWritten p false).flag p = { flags := (t.flag p).flags, mask := (t.flag p).mask, due := 0 } := by
    rw [(t.flagsWritten_poolOnly p false).flag, State.flag_setFlagRec_same, flags]
  by_cases b : beyond
  · rw [if_pos b]
    cases hf : (t.flag p).flags.getLsbD 0 with
    | true =>
      have same : (t.flag p).flags ||| 1 = (t.flag p).flags := or_flagBit_of_set (j := 0) hf
      rw [State.flagReported_set (by rw [flag]; exact hf), first]
      simp only [State.sampledFlags, hf, same, ite_self, b, Bool.true_eq_false, false_and, and_false, or_false, if_false]
      split <;> rfl
    | false =>
      have set : (t.flagsWritten p false).setFlagRec p
          { (t.flagsWritten p false).flag p with flags := ((t.flagsWritten p false).flag p).flags ||| flagBit 0 } =
          (if (t.flag p).due ≠ 0 then
            ((t.setFlagRec p { flags := (t.flag p).flags ||| 1, mask := (t.flag p).mask, due := 0 }).latched 6).raisedWith p
              (t.flag p).due (t.flag p).flags (t.flag p).mask
          else t.setFlagRec p { flags := (t.flag p).flags ||| 1, mask := (t.flag p).mask, due := 0 }) := by
        rw [flag, first]
        split
        · rw [← State.raisedWith_setFlagRec]
          congr 1
          exact congrArg (State.latched · 6) (State.setFlagRec_setFlagRec ..)
        · exact State.setFlagRec_setFlagRec ..
      cases hm : (t.flag p).mask.getLsbD 0 with
      | false =>
        rw [State.flagReported_masked (by rw [flag]; exact hf) (by rw [flag]; exact hm), set]
        simp only [State.sampledFlags, hf, hm, b, Bool.false_eq_true, and_false, or_false, if_false, if_true]
        split <;> rfl
      | true =>
        rw [State.flagReported_raised (by rw [flag]; exact hf) (by rw [flag]; exact hm), set]
        simp only [State.sampledFlags, hf, hm, b, and_self, or_true, if_true]
        have record := State.flag_setFlagRec_same t p { flags := (t.flag p).flags ||| 1, mask := (t.flag p).mask, due := 0 }
        split
        · rw [State.raisedWith_latched (State.latched_latch _ (by decide))]
          refine State.flagEvent_eq (raised := 1)
            (r := { flags := (t.flag p).flags ||| 1, mask := (t.flag p).mask, due := 0 }) ?_
          rw [State.raisedWith, (State.event_poolOnly ..).flag, (State.latched_poolOnly ..).flag, record]
        · refine State.flagEvent_eq (raised := 1)
            (r := { flags := (t.flag p).flags ||| 1, mask := (t.flag p).mask, due := 0 }) ?_
          rw [(State.latched_poolOnly ..).flag, record]
  · rw [if_neg b, first]
    simp only [State.sampledFlags, b, false_and, or_false, if_false]
    split <;> rfl

/-! ## The statement -/

/-- The raw values of a SAMPLE that fits, in the terms of the statements (R71, R201). -/
theorem sampleValues_some {r : PortRec} {mode : Mode} {bytes : List Byte} {size : Nat} {raw : Nat → Int}
    (hm : r.currentMode = some mode) (hsize : mode.format.size = size) (hl : bytes.length = mode.valueCount * size)
    (hraw : ∀ i, mode.format.valueAt (BitVec.ofNat 8 r.selectedMode :: bytes) (1 + i * size) = raw i) :
    sampleValues r (BitVec.ofNat 8 r.selectedMode :: bytes) = some ((List.range mode.valueCount).map raw) := by
  have fits : (decide (BitVec.ofNat 8 r.selectedMode = u8 r.selectedMode) &&
      decide ((BitVec.ofNat 8 r.selectedMode :: bytes).length = 1 + mode.valueCount * mode.format.size)) = true := by
    rw [hsize, List.length_cons, hl, Nat.add_comm]
    simp [u8]
  simp only [sampleValues, hm]
  rw [if_pos fits, hsize]
  simp only [hraw]

/-- A raw value of the three formats (R71). -/
theorem valueAt_eq (f : RawFormat) (b : Byte) (bytes : List Byte) (i : Nat) :
    f.valueAt (b :: bytes) (1 + i * f.size) =
      match f with
      | .int8 =>
        let n := (bytes.getD (1 * i + 0) 0).toNat
        if n < 128 then (n : Int) else (n : Int) - 256
      | .int16 =>
        let n := (bytes.getD (2 * i + 0) 0).toNat + 256 * (bytes.getD (2 * i + 1) 0).toNat
        if n < 32768 then (n : Int) else (n : Int) - 65536
      | .int32 =>
        let n := (bytes.getD (4 * i + 0) 0).toNat + 256 * (bytes.getD (4 * i + 1) 0).toNat +
          65536 * (bytes.getD (4 * i + 2) 0).toNat + 16777216 * (bytes.getD (4 * i + 3) 0).toNat
        if n < 2147483648 then (n : Int) else (n : Int) - 4294967296 := by
  have small (j : Nat) : (bytes.getD j 0).toNat < 256 := (bytes.getD j 0).isLt
  have at0 (n k : Nat) : num8 (b :: bytes) (1 + i * n + k) = (bytes.getD (n * i + k) 0).toNat := by
    rw [show 1 + i * n + k = n * i + k + 1 by rw [Nat.mul_comm]; omega, num8_cons_succ]
  cases f with
  | int8 =>
    show (byteAt (b :: bytes) (1 + i * 1)).toInt = _
    rw [byte_toInt]
    have := at0 1 0
    rw [num8, Nat.add_zero] at this
    simp only [this]
  | int16 =>
    show (word16 (b :: bytes) (1 + i * 2)).toInt = _
    have h0 := at0 2 0
    have h1 := at0 2 1
    have s0 := small (2 * i + 0)
    have s1 := small (2 * i + 1)
    rw [word16, ← Nat.add_zero (1 + i * 2), h0, Nat.add_zero, h1, word16_toInt (by omega)]
  | int32 =>
    show (word32 (b :: bytes) (1 + i * 4)).toInt = _
    have h0 := at0 4 0
    have h1 := at0 4 1
    have h2 := at0 4 2
    have h3 := at0 4 3
    have s0 := small (4 * i + 0)
    have s1 := small (4 * i + 1)
    have s2 := small (4 * i + 2)
    have s3 := small (4 * i + 3)
    rw [word32, ← Nat.add_zero (1 + i * 4), h0, Nat.add_zero, h1, h2, h3, word32_toInt (by omega)]

end Sys2Proof.Machine
end

section
/-! O44: the statement. -/
namespace Sys2Proof.Machine

variable {s t : State} {p : Port}

theorem PerPort.set_get {α : Type} (x : PerPort α) (p : Port) : x.set p (x.get p) = x := by cases p <;> rfl
theorem PerPort.get_set {α : Type} (x : PerPort α) (p : Port) (a : α) : (x.set p a).get p = a := by cases p <;> rfl
theorem PerPort.set_set {α : Type} (x : PerPort α) (p : Port) (a b : α) : (x.set p a).set p b = x.set p b := by cases p <;> rfl

theorem cellIndices_nodup : cellIndices.Nodup := by decide

theorem cellRead_cells (m : Mode) (g : PortSettings) (q : Quad Cell) (i : Fin 4) (x : Int) (t : State) :
    ({ t with cells := t.cells.set p q } : State).cellRead p m g (i, x) =
      { t with
        cells := t.cells.set p (q.set i ((q.get i).written t.hubTime (m.reads g x).1 (m.reads g x).2 .sensor)) } := by
  simp only [State.cellRead, State.setCell, State.cell, PerPort.get_set, PerPort.set_set]

/-- The cells of a SAMPLE with its raw values (R71). -/
theorem cellsRead_eq (m : Mode) (g : PortSettings) (raws : List Int) (hl : raws.length ≤ 4) (t : State) :
    (cellIndices.zip raws).foldl (State.cellRead · p m g) t =
      { t with
        cells :=
          let read (i : Fin 4) : Cell := match raws[i.val]? with
            | some x => (t.cell (.port p i)).written t.hubTime (m.reads g x).1 (m.reads g x).2 .sensor
            | none => t.cell (.port p i)
          t.cells.set p { q0 := read 0, q1 := read 1, q2 := read 2, q3 := read 3 } } := by
  have start : t = { t with cells := t.cells.set p (t.cells.get p) } := by rw [PerPort.set_get]
  conv_lhs => rw [start]
  match raws, hl with
  | [], _ => rfl
  | [_], _ => rw [cellIndices]; simp only [List.zip_cons_cons, List.zip_nil_right, List.foldl_cons, List.foldl_nil, cellRead_cells]; rfl
  | [_, _], _ => simp only [cellIndices, List.zip_cons_cons, List.zip_nil_right, List.foldl_cons, List.foldl_nil, cellRead_cells]; rfl
  | [_, _, _], _ =>
    simp only [cellIndices, List.zip_cons_cons, List.zip_nil_right, List.foldl_cons, List.foldl_nil, cellRead_cells]; rfl
  | [_, _, _, _], _ =>
    simp only [cellIndices, List.zip_cons_cons, List.zip_nil_right, List.foldl_cons, List.foldl_nil, cellRead_cells]; rfl

/-- All that a SAMPLE with a value raises, once its cells are written: by whether its first value lies beyond the range, and
whether any does. -/
theorem State.flagsWritten_all (t : State) (p : Port) (first : Bool) (rest : List Bool) :
    (first :: rest).foldl (fun t r => t.flagsWritten p r) t =
    let r := t.flag p
    let beyond := first = true ∨ true ∈ rest
    let unmasks := r.flags.getLsbD 0 = false ∧ r.mask.getLsbD 0 = true
    let raised := r.due ||| if first = true ∧ unmasks then 1 else 0
    let v := t.sampledFlags p beyond
    let w := if raised ≠ 0 then v.raisedWith p raised (if first then r.flags ||| 1 else r.flags) r.mask else v
    if ¬ first = true ∧ beyond ∧ unmasks then w.raisedWith p 1 (r.flags ||| 1) r.mask else w := by
  have due : ((t.flagsWritten p first).flag p).due = 0 := by
    rw [(t.flagsWritten_poolOnly p first).flag, State.flag_setFlagRec_same]
    rfl
  rw [List.foldl_cons, State.flagsWritten_rest due]
  cases first with
  | true =>
    have set : ((t.flagsWritten p true).flag p).flags.getLsbD 0 = true := by
      rw [(t.flagsWritten_poolOnly p true).flag, State.flag_setFlagRec_same]
      simp [FlagRec.afterWrite, flagRange, flagBit, BitVec.getLsbD_or]
    rw [State.flagReported_set set, ite_self, State.flagsWritten_first]
    simp only [true_and, true_or, not_true, false_and, if_false, if_true]
  | false =>
    rw [State.flagsWritten_later]
    simp only [Bool.false_eq_true, false_and, false_or, not_false_eq_true, true_and, if_false
      , show ∀ x : BitVec 5, x ||| 0 = x from fun _ => BitVec.or_zero]

/-- The cells of `p` at `q`. -/
def State.withPortCells (t : State) (p : Port) (q : Quad Cell) : State := { t with cells := t.cells.set p q }

/-- The acquisition of a port whose POLL was answered (R69, R71). -/
def Acquisition.answered (a : Acquisition) (now : Time) : Acquisition :=
  { a with missCount := 0, watchdog := some now, pollWindow := none }

theorem State.raisedWith_of {raised flags mask : BitVec 5} (port : t.port p = s.port p) (time : t.hubTime = s.hubTime) :
    t.raisedWith p raised flags mask = t.event (s.port p).settings.eventRoute
      ([2, BitVec.ofNat 8 p.code, raised.zeroExtend 8, flags.zeroExtend 8, mask.zeroExtend 8] ++ le32 s.hubTime) := by
  rw [State.raisedWith, port, time]

theorem State.raisedWith_port {raised flags mask : BitVec 5} : (t.raisedWith p raised flags mask).port p = t.port p :=
  (State.event_poolOnly ..).port p

theorem State.raisedWith_hubTime {raised flags mask : BitVec 5} : (t.raisedWith p raised flags mask).hubTime = t.hubTime :=
  (State.event_poolOnly ..).hubTime

theorem State.sampledFlags_port (beyond : Prop) [Decidable beyond] : (t.sampledFlags p beyond).port p = t.port p := by
  unfold State.sampledFlags
  dsimp only
  split <;> rfl

theorem State.sampledFlags_hubTime (beyond : Prop) [Decidable beyond] : (t.sampledFlags p beyond).hubTime = t.hubTime := by
  unfold State.sampledFlags
  dsimp only
  split <;> rfl

/-- The state of a SAMPLE before its events, as its fields. -/
theorem State.sampledFlags_eq (a : Acquisition) (q : Quad Cell) (beyond : Prop) [Decidable beyond] :
    ((s.setAcq p a).withPortCells p q).sampledFlags p beyond =
      { s with
        cells := s.cells.set p q
        flags := s.flags.set p
          { flags := if beyond then (s.flag p).flags ||| 1 else (s.flag p).flags, mask := (s.flag p).mask, due := 0 }
        attention :=
          if (s.flag p).due ≠ 0 ∨ beyond ∧ (s.flag p).flags.getLsbD 0 = false ∧ (s.flag p).mask.getLsbD 0 = true then
            s.attention.withLatch 6 else s.attention
        acq := s.acq.set p a } := by
  unfold State.sampledFlags
  dsimp only
  have flag : ((s.setAcq p a).withPortCells p q).flag p = s.flag p := rfl
  simp only [flag]
  split <;> rfl

/-- `s` with the cells, the flags and the acquisition record that a SAMPLE leaves, in the terms of the statements. -/
def State.sampledWith (s : State) (p : Port) (a : Acquisition) (q : Quad Cell) (beyond : Prop) [Decidable beyond] : State :=
  { s with
    cells := s.cells.set p q
    flags := s.flags.set p
      { flags := if beyond then (s.flag p).flags ||| 1 else (s.flag p).flags, mask := (s.flag p).mask, due := 0 }
    attention :=
      if (s.flag p).due ≠ 0 ∨ beyond ∧ (s.flag p).flags.getLsbD 0 = false ∧ (s.flag p).mask.getLsbD 0 = true then
        s.attention.withLatch 6 else s.attention
    acq := s.acq.set p a }

/-- `t` with the event of the flags `raised` on `p`, by the records of `s`. -/
def State.raisesFrom (s : State) (p : Port) (raised flags : BitVec 5) (t : State) : State :=
  t.event (s.port p).settings.eventRoute
    ([2, BitVec.ofNat 8 p.code, raised.zeroExtend 8, flags.zeroExtend 8, (s.flag p).mask.zeroExtend 8] ++ le32 s.hubTime)

/-- `t` with the event of the first write of a SAMPLE, by the records of `s`. -/
def State.firstRaise (s : State) (p : Port) (atFirst : Prop) [Decidable atFirst] (t : State) : State :=
  let raised := (s.flag p).due |||
    if atFirst ∧ (s.flag p).flags.getLsbD 0 = false ∧ (s.flag p).mask.getLsbD 0 = true then 1 else 0
  if raised ≠ 0 then s.raisesFrom p raised (if atFirst then (s.flag p).flags ||| 1 else (s.flag p).flags) t else t

theorem State.firstRaise_poolOnly (s : State) (p : Port) (atFirst : Prop) [Decidable atFirst] (t : State) :
    PoolOnly t (s.firstRaise p atFirst t) := by
  by_cases raised : ((s.flag p).due |||
      if atFirst ∧ (s.flag p).flags.getLsbD 0 = false ∧ (s.flag p).mask.getLsbD 0 = true then 1 else 0) ≠ 0
  · simp only [State.firstRaise, if_pos raised]
    exact State.event_poolOnly ..
  · simp only [State.firstRaise, if_neg raised]
    exact .refl t

/-- All that a SAMPLE with a value raises, in the terms of the statements (R89-R91). -/
theorem State.flagsWritten_sampled (s : State) (p : Port) (a : Acquisition) (q : Quad Cell) (first : Bool) (rest : List Bool)
    {atFirst beyond : Prop} [Decidable atFirst] [Decidable beyond] (hf : atFirst ↔ first = true)
    (hb : beyond ↔ first = true ∨ true ∈ rest) :
    (first :: rest).foldl (fun t r => t.flagsWritten p r) ((s.setAcq p a).withPortCells p q) =
    let written := s.firstRaise p atFirst (s.sampledWith p a q beyond)
    if ¬ atFirst ∧ beyond ∧ (s.flag p).flags.getLsbD 0 = false ∧ (s.flag p).mask.getLsbD 0 = true then
      s.raisesFrom p 1 ((s.flag p).flags ||| 1) written
    else written := by
  have flag : ((s.setAcq p a).withPortCells p q).flag p = s.flag p := rfl
  have fields : ((s.setAcq p a).withPortCells p q).sampledFlags p (first = true ∨ true ∈ rest) =
      s.sampledWith p a q beyond := by
    rw [State.sampledFlags_eq, State.sampledWith]
    simp only [hb]
  have keeps := s.firstRaise_poolOnly p atFirst (s.sampledWith p a q beyond)
  rw [State.flagsWritten_all]
  dsimp only
  rw [flag, fields]
  simp only [← hb]
  simp only [← hf]
  show (if _ then (s.firstRaise p atFirst (s.sampledWith p a q beyond)).raisedWith p 1 _ _ else _) = _
  rw [State.raisedWith_of (keeps.port p) keeps.hubTime]
  rfl

theorem map_zip_fst_take {α β : Type} (as : List α) (bs : List β) : (as.zip bs).map Prod.fst = as.take bs.length := by
  induction as generalizing bs with
  | nil => simp
  | cons a as ih => cases bs <;> simp [ih]

theorem map_zip_snd_of_le {α β γ : Type} (f : β → γ) (as : List α) (bs : List β) (h : bs.length ≤ as.length) :
    ((as.zip bs).map fun e => f e.2) = bs.map f := by
  conv_rhs => rw [← List.map_snd_zip h, List.map_map]
  rfl

/-- Settles O44. -/
theorem goodSampleWritesItsCells : Obligations.GoodSampleWritesItsCells := by
  intro p m d mode bytes w s h hw hp deaf short good hd hmode hm size hlen hcount rises lo lo' hi hi' raw raws r cell beyond atFirst
    unmasks sampled raises raised written
  have current : (s.port p).currentMode = some mode := by simp [PortRec.currentMode, hd, hmode]
  have hsize : mode.format.size = size := by
    show mode.format.size = match mode.format with
      | .int8 => 1
      | .int16 => 2
      | .int32 => 4
    cases mode.format <;> rfl
  have hraw (i : Nat) : mode.format.valueAt (BitVec.ofNat 8 (s.port p).selectedMode :: bytes) (1 + i * size) = raw i := by
    rw [← hsize, valueAt_eq]
    simp only [raw, ← hsize]
    cases mode.format <;> rfl
  have values : sampleValues (s.port p) m.payload = some raws := by
    rw [hm]
    exact sampleValues_some current hsize hlen hraw
  have count : raws.length ≤ 4 := by simpa [raws] using hcount
  have opened : PortActs s.reports .alone s p ((cellIndices.zip raws).length + 0) _ _ :=
    (PortActs.of_calm h).setAcq ((s.acquisition p).answered s.hubTime)
  have wrote := opened.writeSamples (g := (s.port p).settings) rises lo lo' hi hi' (es := cellIndices.zip raws)
    (by rw [map_zip_fst_take]; exact cellIndices_nodup.sublist (List.take_sublist ..)) fun e _ => by simp
  have model : sampleArrives p m s = (cellIndices.zip raws).foldl
      (fun u e => writeConverted p e.1 (mode.convert (s.port p).settings e.2) u)
      (s.setAcq p ((s.acquisition p).answered s.hubTime)) := by
    rw [sampleArrives, pollOpen_of_some hp, if_pos rfl, kindSample, good, if_pos rfl, current, values]
    show goodSample p mode raws s = _
    rfl
  rw [← model] at wrote
  refine (run_onLine h.1 hw hp deaf short wrote).trans (congrArg (fun t => Host.Outcome.next (State.noted t s)) ?_)
  rw [State.cellSampled_foldl, cellsRead_eq _ _ _ count]
  set X : State := (s.setAcq p ((s.acquisition p).answered s.hubTime)).withPortCells p
    { q0 := cell 0, q1 := cell 1, q2 := cell 2, q3 := cell 3 } with hX
  show ((cellIndices.zip raws).map fun e => decide (mode.beyond e.2)).foldl (fun t r => t.flagsWritten p r) X = _
  have ranges : ((cellIndices.zip raws).map fun e => decide (mode.beyond e.2)) = raws.map fun x => decide (mode.beyond x) :=
    map_zip_snd_of_le (fun x => decide (mode.beyond x)) _ _ count
  rw [ranges]
  by_cases none : raws = []
  · have flat : X = sampled := by
      show X = { s with cells := _, flags := _, attention := _, acq := _ }
      have keeps : s.flags.set p (s.flag p) = s.flags := PerPort.set_get ..
      have never : ¬ beyond := by simp [beyond, none]
      rw [if_pos none, if_neg never, if_neg fun h => h.1 none, keeps]
      rfl
    have never : ¬ (¬ atFirst ∧ beyond ∧ unmasks) := by simp [beyond, none]
    have nothing : written = sampled := if_neg fun h => h.1 none
    rw [if_neg never, nothing, ← flat, none]
    rfl
  · obtain ⟨x, rest, some⟩ := List.exists_cons_of_ne_nil none
    have first : atFirst ↔ decide (mode.beyond x) = true := by simp [atFirst, some]
    have any : beyond ↔ decide (mode.beyond x) = true ∨ true ∈ rest.map fun x => decide (mode.beyond x) := by
      show (∃ x ∈ raws, mode.beyond x) ↔ _
      simp only [some, List.mem_cons, List.mem_map, decide_eq_true_eq, exists_eq_or_imp]
    have flat : s.sampledWith p ((s.acquisition p).answered s.hubTime)
        { q0 := cell 0, q1 := cell 1, q2 := cell 2, q3 := cell 3 } beyond = sampled := by
      show _ = { s with cells := _, flags := _, attention := _, acq := _ }
      rw [if_neg none, if_congr (and_iff_right none) rfl rfl]
      rfl
    have event : s.firstRaise p atFirst sampled = written := (if_congr (and_iff_right none) rfl rfl).symm
    have list : raws.map (fun x => decide (mode.beyond x)) =
        decide (mode.beyond x) :: rest.map fun x => decide (mode.beyond x) := by rw [some, List.map_cons]
    rw [list, State.flagsWritten_sampled s p _ _ _ _ first any, flat]
    dsimp only
    rw [event]
    rfl

end Sys2Proof.Machine
end

section
/-!
PORT_CONTROL on a port whose cells nothing acts on (R58, R60 to R62, R190).
-/
namespace Sys2Proof.Machine

variable {c : Prop} {o : Phase} {k : Nat} {s t u : State} {p : Port}

/-! ## Reset -/

/-- The record of a port that PORT_CONTROL RESET has detached (R62). -/
def PortRec.bare (r : PortRec) : PortRec :=
  { r with cls := .noClass, band := 7, faultReason := .noReason, debounce := none, bandWatch := none, recovery := none }

/-- A port without a fault reason. -/
def PortRec.reasonless (r : PortRec) : PortRec := { r with faultReason := .noReason }

theorem Cell.drained_drained (x : Cell) (now : Time) : (x.drained now).drained now = x.drained now := by
  unfold Cell.drained
  split
  · rfl
  · rfl

theorem Cell.drained_tag (x : Cell) (now : Time) : (x.drained now).tag = .empty := by
  unfold Cell.drained
  split
  · assumption
  · rfl

theorem State.detached_cell_tag (t : State) (p : Port) (i : Fin 4) : ((t.detached p).cell (.port p i)).tag = .empty := by
  have cell : (t.detached p).cell (.port p i) = (t.cell (.port p i)).drained t.hubTime := by
    cases p <;> fin_cases i <;> rfl
  rw [cell, Cell.drained_tag]

/-- A port is detached once. -/
theorem State.detached_detached (t : State) (p : Port) : ((t.detached p).setPort p ((t.detached p).port p).bare).detached p =
    (t.detached p).setPort p ((t.detached p).port p).bare := by
  have cells : ((t.cells.get p).map fun c => c.drained t.hubTime).map (fun c => c.drained t.hubTime) =
      (t.cells.get p).map fun c => c.drained t.hubTime := by
    simp only [Quad.map, Cell.drained_drained]
  have cells' : ((t.detached p).cells.get p).map (fun c => c.drained t.hubTime) = (t.cells.get p).map fun c => c.drained t.hubTime := by
    rw [← cells]
    cases p <;> rfl
  have drained : (t.detached p).cells.set p (((t.detached p).cells.get p).map fun c => c.drained t.hubTime) = (t.detached p).cells := by
    rw [cells']
    cases p <;> rfl
  show State.mk _ _ _ _ _ _ _ _ ((t.detached p).cells.set p (((t.detached p).cells.get p).map fun c => c.drained t.hubTime))
    _ _ _ _ _ _ _ _ _ _ _ _ _ _ _ _ _ _ _ = _
  rw [drained]
  cases p <;> rfl

theorem State.detached_motor (t : State) (p : Port) : (t.detached p).motor p = none := by cases p <;> rfl

theorem Apart.setPort (p : Port) (x : PortRec) : Apart (State.setPort · p x) :=
  ⟨fun _ => rfl, fun _ => rfl, fun _ _ _ => rfl, fun _ _ => rfl, fun _ _ => rfl⟩

/-- The event of an entry to EMPTY names no fault reason. -/
theorem State.portReported_reasonless {E : PortRec} (h : E.state = .empty) :
    (t.setPort p E.reasonless).portReported p = ((t.setPort p E).portReported p).setPort p E.reasonless := by
  have same : t.setPort p E.reasonless = (t.setPort p E).setPort p E.reasonless := (State.setPort_setPort ..).symm
  have late := (Apart.setPort p E.reasonless).event ((t.setPort p E).latched p.code) E.settings.eventRoute
  unfold State.portReported
  simp only [State.port_setPort_same, h, PortRec.reasonless] at late ⊢
  rw [← late]
  simp only [reduceCtorEq, if_false]
  congr 1
  cases p <;> rfl

/-- A port without a device enters EMPTY again (R62). -/
theorem State.portEmptied_bare (t : State) (p : Port) :
    ((t.detached p).setPort p ((t.detached p).port p).bare).portEmptied p =
      (t.portEmptied p).setPort p ((t.detached p).port p).emptied.reasonless := by
  unfold State.portEmptied
  dsimp only
  rw [State.detached_detached, State.port_setPort_same, State.setPort_setPort]
  exact State.portReported_reasonless (t := t.detached p) (E := ((t.detached p).port p).emptied) rfl

theorem PortActs.resetPort {band : Band} (h : PortActs c o s p (k + 1) t u) (hs : t.silentPort p) (fresh : t.unwritten s p) :
    PortActs c o s p k (t.portResetTo p band) (Machine.resetPort p band u) := by
  have bare := (h.detach hs fresh).mapPort (f := PortRec.bare) fun _ => rfl
  have model : Machine.resetPort p band u =
      Machine.detectFrom p band ((Machine.detach p u).setPort p ((Machine.detach p u).port p).bare) := rfl
  rw [model, detectFrom]
  by_cases seven : band = 7
  · have silent : ((t.detached p).setPort p ((t.detached p).port p).bare).silentPort p := by
      rw [State.silentPort, State.motor_setPort, State.detached_motor]
      rfl
    have empty := bare.enterEmpty silent fun i => .inl (by rw [State.cell_setPort]; exact t.detached_cell_tag p i)
    rw [if_pos seven, State.portResetTo, if_pos seven]
    rw [State.portEmptied_bare] at empty
    exact empty
  · rw [if_neg seven, State.portResetTo, if_neg seven]
    have found := (bare.enterDetecting (band := band)).less
    rw [State.setPort_setPort, State.port_setPort_same] at found
    exact found

/-! ## Suspension and resumption -/

/-- The record of a port that enters SUSPENDED (R60). -/
def PortRec.halted (r : PortRec) : PortRec := { r with state := .suspended, window := none, modeChange := none }

/-- The hub of a port whose sampling a SUSPEND has stopped (R60). -/
def State.portHalted (t : State) (p : Port) : State := (t.setPort p (t.port p).halted).setAcq p (t.acquisition p).stop

theorem Reporting.portHalted {r : Vector Reflex 16} (h : Reporting c o r k t u) :
    Reporting c o r k (t.portHalted p) (u.portHalted p) := by
  unfold State.portHalted
  rw [h.port, h.acquisition]
  exact (h.setPort p _).setAcq p _

theorem PortActs.portHalted (h : PortActs c o s p k t u) : PortActs c o s p k (t.portHalted p) (u.portHalted p) := by
  unfold State.portHalted
  rw [h.acts.acquisition]
  exact (h.mapPort (f := PortRec.halted) fun _ => rfl).setAcq _

theorem suspendPort_motor {m : MotorClass} (h : (u.port p).cls = .motor m) :
    Machine.suspendPort p u = Machine.suspendMotor p (u.portHalted p) := by
  have cls : ((u.portHalted p).port p).cls = .motor m := by
    rw [State.portHalted, State.port_setAcq, State.port_setPort_same]
    exact h
  show (match ((u.portHalted p).port p).cls with
    | .motor _ => Machine.suspendMotor p (u.portHalted p)
    | _ => Machine.staleCells p 4 (u.portHalted p)) = _
  rw [cls]

theorem suspendPort_other (h : ∀ m, (u.port p).cls ≠ .motor m) :
    Machine.suspendPort p u = Machine.staleCells p 4 (u.portHalted p) := by
  have cls : ((u.portHalted p).port p).cls = (u.port p).cls := by
    rw [State.portHalted, State.port_setAcq, State.port_setPort_same]
    rfl
  show (match ((u.portHalted p).port p).cls with
    | .motor _ => Machine.suspendMotor p (u.portHalted p)
    | _ => Machine.staleCells p 4 (u.portHalted p)) = _
  rw [cls]
  split
  · next m e => exact absurd e (h m)
  · rfl

theorem State.cellsBy_four (t : State) (p : Port) (f : Time → Cell → Cell) :
    (t.cellsBy p fun i now x => if i.val < 4 then f now x else x) = t.cellsBy p fun _ now x => f now x := rfl

theorem State.cellsBy_map (t : State) (p : Port) (f : Time → Cell → Cell) :
    (t.cellsBy p fun _ now x => f now x) = { t with cells := t.cells.set p ((t.cells.get p).map (f t.hubTime)) } := rfl

theorem PortActs.suspendPort (h : PortActs c o s p k t u) (hs : t.silentPort p) (due : (t.flag p).due = 0)
    (fresh : t.unwritten s p) : PortActs c o s p k (t.portSuspended p) (Machine.suspendPort p u) := by
  have halted := h.portHalted
  by_cases motor : ∃ m, (t.port p).cls = .motor m
  · obtain ⟨m, hm⟩ := motor
    have moved := halted.setMotor ((t.motor p).map fun m => m.stoppedIn .idle .coast)
    have silent : (u.portHalted p).silentPort p := halted.silent hs
    have same : (u.portHalted p).motor p = t.motor p := halted.acts.motor p
    have cls : (u.port p).cls = .motor m := by rw [h.acts.port, hm]
    rw [suspendPort_motor cls, suspendMotor_silent silent, same, State.portSuspended, hm]
    exact moved
  · have other (m : MotorClass) : (t.port p).cls ≠ .motor m := fun e => motor ⟨m, e⟩
    have stale := halted.staleCells (n := 4) due fun i => by simpa [State.portHalted] using fresh i
    rw [suspendPort_other fun m => by rw [h.acts.port]; exact other m, State.portSuspended]
    rw [State.cellsBy_four] at stale
    split
    · next m e => exact absurd e (other m)
    · exact stale

/-- A motor port comes back (R61, R112). -/
theorem PortActs.resumeMotor {m : Motor} (h : PortActs c o s p (k + 1) t u) (hs : t.silentPort p) (hm : t.motor p = some m) :
    PortActs c o s p k ((t.portActive p).setMotor p (some (m.stoppedIn .idle .coast)))
      (Machine.enterActive p (Machine.suspendMotor p u)) := by
  rw [suspendMotor_silent (h.silent hs), h.acts.motor, hm, ← State.portActive_setMotor]
  exact (h.setMotor _).enterActive

theorem resumePort_smart {raw : RawSample} (h : (u.port p).cls = .smart) :
    resumePort p raw u = Machine.enterConfiguring p (u.port p).lineRate (u.port p).selectedMode u := by
  unfold resumePort
  simp only [h]

/-- A port with a mode change recorded (R58). -/
def PortRec.changing (r : PortRec) (mode : Nat) : PortRec := { r with modeChange := some mode }

theorem PortActs.recordMode {mode : Nat} (h : PortActs c o s p k t u) :
    PortActs c o s p k (t.setPort p ((t.port p).changing mode)) (u.setPort p ((u.port p).changing mode)) :=
  h.mapPort (f := (PortRec.changing · mode)) fun _ => rfl

theorem lineFree_iff : lineFree p u = true ↔ (u.port p).window = none ∧ (u.acquisition p).pollWindow = none := by
  simp [lineFree, pollOpen]

theorem deferredSelect_due {mode : Nat} (hm : (u.port p).modeChange = some mode) (hs : (u.port p).state = .active)
    (hw : (u.port p).window = none) (hp : (u.acquisition p).pollWindow = none) :
    deferredSelect p u = Machine.sendSelect p mode u := by
  simp only [deferredSelect, hm, hs, lineFree_iff.mpr ⟨hw, hp⟩, decide_true, Bool.and_self, if_true]

theorem deferredSelect_busy (h : ¬ ((u.port p).window = none ∧ (u.acquisition p).pollWindow = none)) : deferredSelect p u = u := by
  have busy : lineFree p u = false := by rwa [← Bool.not_eq_true, lineFree_iff]
  unfold deferredSelect
  simp only [busy, Bool.and_false, Bool.false_eq_true, if_false]
  split <;> rfl

/-- SELECT_MODE while an exchange is open (R58). -/
theorem PortActs.takeSelectMode_busy {mode : Nat} (h : PortActs c o s p k t u)
    (busy : (t.port p).window.isSome ∨ (t.acquisition p).pollWindow.isSome) :
    PortActs c o s p k (t.setPort p ((t.port p).changing mode)) (takeSelectMode p mode u) := by
  have recorded := h.recordMode (mode := mode)
  have stands : deferredSelect p (u.setPort p ((u.port p).changing mode)) = u.setPort p ((u.port p).changing mode) := by
    refine deferredSelect_busy fun ⟨hw, hp⟩ => ?_
    rw [State.port_setPort_same, h.acts.port] at hw
    rw [State.acquisition_setPort, h.acts.acquisition] at hp
    have hw : (t.port p).window = none := hw
    simp [hw, hp] at busy
  rw [← stands] at recorded
  exact recorded

/-- SELECT_MODE on a free line (R58). -/
theorem PortActs.takeSelectMode_free {mode : Nat} (h : PortActs c o s p k t u) (hs : (t.port p).state = .active)
    (hw : (t.port p).window = none) (hp : (t.acquisition p).pollWindow = none) (due : (t.flag p).due = 0)
    (fresh : t.unwritten s p) : PortActs c o s p k (t.selectSent p mode) (takeSelectMode p mode u) := by
  have recorded := h.recordMode (mode := mode)
  have port : (u.setPort p ((u.port p).changing mode)).port p = (t.port p).changing mode :=
    (recorded.acts.port p).trans (State.port_setPort_same ..)
  have sends := deferredSelect_due (p := p) (u := u.setPort p ((u.port p).changing mode)) (mode := mode) (by rw [port]; rfl)
    (by rw [port]; exact hs) (by rw [port]; exact hw) (by rw [State.acquisition_setPort, h.acts.acquisition]; exact hp)
  have sent := recorded.sendSelect (by rw [State.port_setPort_same]; rfl) due fun i => by simpa using fresh i
  rw [← sends] at sent
  have result : (t.setPort p ((t.port p).changing mode)).selectSent p mode = t.selectSent p mode := by
    unfold State.selectSent PortRec.changing
    cases p <;> rfl
  rw [← result]
  exact sent

/-! ## Requests -/

/-- The effect of a PORT_CONTROL request whose operation is known. -/
theorem Request.effect_portControl {op mode : Byte} {x : PortOperation} {band : Band} {raw : RawSample}
    (hx : PortOperation.ofCode op.toNat = some x) :
    (Request.portControl (BitVec.ofNat 8 p.code) op mode).effect band raw u = portControlEffect x p mode.toNat band raw u := by
  simp only [Request.effect, hx, toNat_portCode, portIndex_code]

theorem Request.check_portControl {op mode : Byte} {x : PortOperation} (hx : PortOperation.ofCode op.toNat = some x) :
    (Request.portControl (BitVec.ofNat 8 p.code) op mode).check u = portControlCheck x mode.toNat (u.port p) := by
  simp only [Request.check, hx, toNat_portCode, portOfCode_code]

/-- The effect of a request on a port begins. -/
theorem PortActs.of_begun {x : Origin} {b : State} (hq : s.quiet) (h : Awaits (s.begun x 1) b)
    (hd : ∀ i, s.dormant (.port p i)) (hr : (s.port p).settings.eventRoute = none ∨ c)
    (hc : c → s.mgmt.inProgress = none ∧ k + 1 ≤ s.free ∧ (s.link x.link).urgent.length + k < 8) :
    PortActs c (.direct x) s p k s b where
  acts := by
    rw [State.noted_self]
    exact .of_begun hq h hc
  reflexes := rfl
  subs := rfl
  system _ _ _ := rfl
  dormant := hd
  route := hr

theorem State.answered_cell (t : State) (x : Origin) (payload : List Byte) {d : CellId} (h : d ≠ .sys 3) :
    (t.answered x payload).cell d = t.cell d := by
  cases d with
  | port q i => rfl
  | sys i => exact Quad.get_set_other t.sys (i := 3) _ fun e => h (congrArg _ e.symm)

/-- What a request notes stands beside its answer. -/
theorem State.answered_noted {x : Origin} {payload : List Byte} (hr : t.reflexes = s.reflexes)
    (hw : ∀ i, (s.reflex i).cell ≠ .sys 3) :
    (t.answered x payload).noted s = (t.withReflexes (t.noted s).reflexes).answered x payload := by
  have reflexes := noted_reflexes_congr (s := s) (t := t) (t' := t.answered x payload) rfl fun i => by
    have apart : (t.reflex i).cell ≠ .sys 3 := by
      rw [State.reflex, hr]
      exact hw i
    exact State.answered_cell t x payload apart
  show { t.answered x payload with reflexes := ((t.answered x payload).noted s).reflexes } = _
  rw [reflexes]
  rfl

/-- A PORT_CONTROL request on a port whose cells nothing acts on is answered. -/
theorem run_portControl {x : Origin} {op mode : Byte} {y : PortOperation} {band : Band} {raw : RawSample}
    (hy : PortOperation.ofCode op.toNat = some y) (hq : s.quiet) (hp : s.calmPort p) (ha : s.canAnswer x 2)
    (hr : (s.port p).settings.eventRoute = none ∨ 2 ≤ s.free ∧ (s.link x.link).urgent.length < 7)
    (ok : portControlCheck y mode.toNat (s.port p) = .ok)
    (effect : ∀ c o u, PortActs c o s p 1 s u → PortActs c o s p 0 t (portControlEffect y p mode.toNat band raw u)) :
    run (directRequest x (.portControl (BitVec.ofNat 8 p.code) op mode) band raw) s =
      .next ((t.answered x [4, 0]).noted s) := by
  have acts (b : State) (hb : Awaits (s.begun x 1) b) := effect _ _ _ (PortActs.of_begun (p := p) (k := 1)
    (c := s.reports ∧ 2 ≤ s.free ∧ (s.link x.link).urgent.length < 7) hq hb hp.2.1
    (by
      obtain none | room := hr
      · exact .inl none
      · exact hp.2.2.2.imp_right fun reports => ⟨reports, room⟩)
    fun h => ⟨h.1.2, h.2.1, Nat.succ_lt_succ h.2.2⟩)
  have answered := directRequest_reports (q := .portControl (BitVec.ofNat 8 p.code) op mode) (band := band) (raw := raw)
    (t := t) (r := (t.noted s).reflexes) hq (by simp) (by rw [Request.check_portControl hy, ok]) rfl ha fun b hb =>
      ⟨_, _, by rw [Request.effect_portControl hy]; exact (acts b hb).acts⟩
  rw [answered, State.answered_noted (acts _ (.of_nil hq.1.2)).reflexes fun i => hq.2.2.1 i]
  rfl

theorem ended_length_le (m : Motor) (a : SegOutcome) : (if m.executing then endedAll m.queue a else []).length ≤ m.queue.length := by
  split
  · cases h : m.queue <;> simp [endedAll]
  · simp

/-- Settles O35. -/
theorem portControlActsOnThePort : Obligations.PortControlActsOnThePort := by
  refine ⟨fun x p s hq hp ha due hr => ?silent, fun x p cls m s hrep ha hs hc hm hfree hroom => ?reported⟩
  case silent =>
    have fresh : s.unwritten s p := State.unwritten_of_cells rfl
    refine ⟨fun band => ?reset, fun hs => ?suspend, fun raw hs hc => ?touch, fun raw hs hc hn => ?light, fun raw c m hs hc hm => ?motor,
      fun raw hs hc => ?smart, fun mode d hs hc hn hd hl => ⟨fun busy => ?deferred, fun hw hpw => ?sent⟩⟩
    case reset =>
      exact run_portControl (y := .reset) rfl hq hp ha hr rfl fun _ _ _ h => h.resetPort hp.2.2.1 fresh
    case suspend =>
      exact run_portControl (y := .suspend) (band := 7) (raw := 0) rfl hq hp ha hr (by simp [portControlCheck, hs]) fun _ _ _ h =>
        h.less.suspendPort hp.2.2.1 due fresh
    case touch =>
      refine run_portControl (y := .resume) rfl hq hp ha hr (by simp [portControlCheck, hs]) fun _ _ _ h => ?_
      have resumed := h.enterSampled (raw := raw) (v := if 2048 < raw.val then 1 else 0)
        (fun x hx _ => convertAnalog_touch (hx.trans hc)) (by split <;> decide) (by split <;> decide) due rfl
      simpa only [portControlEffect, resumePort, h.acts.port, hc] using resumed
    case light =>
      refine run_portControl (y := .resume) rfl hq hp ha hr (by simp [portControlCheck, hs]) fun _ _ _ h => ?_
      have small := raw.isLt
      have resumed := h.enterSampled (raw := raw) (v := raw.val)
        (fun x hx hg => convertAnalog_light (hx.trans hc) (by rw [hg, hn])) (by omega) (by omega) due rfl
      simpa only [portControlEffect, resumePort, h.acts.port, hc] using resumed
    case motor =>
      refine run_portControl (y := .resume) rfl hq hp ha hr (by simp [portControlCheck, hs]) fun _ _ _ h => ?_
      simpa only [portControlEffect, resumePort, h.acts.port, hc] using h.resumeMotor hp.2.2.1 hm
    case smart =>
      refine run_portControl (y := .resume) rfl hq hp ha hr (by simp [portControlCheck, hs]) fun _ _ _ h => ?_
      have entered := (h.enterConfiguring (rate := (s.port p).lineRate) (mode := (s.port p).selectedMode) due fresh).less
      rw [portControlEffect, resumePort_smart (by rw [h.acts.port, hc]), h.acts.port]
      exact entered
    case deferred =>
      exact run_portControl (y := .selectMode) (band := 7) (raw := 0) rfl hq hp ha hr
        (by simp [portControlCheck, selectModeCheck, hs, hc, hn, hd, hl]) fun _ _ _ h => h.less.takeSelectMode_busy busy
    case sent =>
      exact run_portControl (y := .selectMode) (band := 7) (raw := 0) rfl hq hp ha hr
        (by simp [portControlCheck, selectModeCheck, hs, hc, hn, hd, hl]) fun _ _ _ h =>
          h.less.takeSelectMode_free hs hw hpw due fresh
  case reported =>
    have key := directRequest_reports (q := .portControl (BitVec.ofNat 8 p.code) 1 0) (band := 7) (raw := 0)
      (t := (s.portHalted p).motorMoved p m (m.stoppedIn .idle .coast) (if m.executing then segmentsEnd 10 m.queue else []))
      (r := s.reflexes) hrep.1 (by simp)
      (by rw [Request.check_portControl (x := .suspend) rfl, portControlCheck, if_pos hs]) rfl ha fun b hb => by
        have begun := Reporting.of_begun (k := (if m.executing then endedAll m.queue .suspended else []).length + 1)
          hrep.1 hb (c := True) fun _ => by
            have := ended_length_le m .suspended
            exact ⟨hrep.2, by omega, by omega⟩
        have halted := begun.portHalted (p := p)
        have moved := halted.moveMotor (k := 0) (p := p) (m := m) (after := m.stoppedIn .idle .coast)
          (ended := if m.executing then endedAll m.queue .suspended else []) (.inr trivial) (by simp only [Motor.stoppedIn, true_or, if_true, Nat.add_zero])
        refine ⟨True, 0, ?_⟩
        have codes : coded (if m.executing then endedAll m.queue .suspended else []) =
            if m.executing then segmentsEnd 10 m.queue else [] := by
          split
          · exact coded_endedAll ..
          · rfl
        have motor : (b.portHalted p).motor p = some m := (begun.motor p).trans hm
        rw [codes] at moved
        rw [Request.effect_portControl (x := .suspend) rfl, portControlEffect, suspendPort_motor (by rw [begun.port, hc]), suspendMotor, motor]
        exact moved
    have kept : ((s.portHalted p).motorMoved p m (m.stoppedIn .idle .coast)
        (if m.executing then segmentsEnd 10 m.queue else [])).reflexes = s.reflexes :=
      (State.motorMoved_poolOnly ..).reflexes
    rw [State.withReflexes_of_eq kept] at key
    exact key

end Sys2Proof.Machine
end

section
/-!
The head of the management queue (R186, R187): it is discarded, waits, or is carried out in its own chain (O25).
-/
namespace Sys2Proof.Machine

variable {e : MgmtEntry} {rest : List MgmtEntry} {s t u : State} {band : Band} {raw : RawSample} {p : Port}

/-! ## Considerations -/

/-- What the request of an entry says of where it comes from. -/
def MgmtEntry.origin (e : MgmtEntry) : Origin := { link := e.link, channel := e.frame.channel, tag := e.frame.tag }

/-- `s` after the head of the management queue has left, with the entries `rest` behind it. -/
def State.dequeued (s : State) (rest : List MgmtEntry) : State :=
  { s with mgmt := { s.mgmt with queue := rest, inProgress := none } }

/-- A hub whose management queue has a head that is to be considered. -/
structure Due (e : MgmtEntry) (rest : List MgmtEntry) (s : State) : Prop where
  quiet : s.quiet
  taken : s.mgmt.resetTaken = none
  queue : s.mgmt.queue = e :: rest
  awake : s.mgmt.headWaits = false

theorem Due.considers (h : Due e rest s) : considerHead band raw s =
    consider e.origin (commandCode e.frame.payload) (requestOf e.frame.payload) e.frame.pages band raw leaveQueue waitAtHead s := by
  rw [considerHead, h.queue]
  simp only [h.awake, Bool.false_eq_true, if_false]
  rfl

theorem Due.small (h : Due e rest s) : s.free + e.frame.pages ≤ 128 := by
  have conserved : s.poolTotal = 128 := h.quiet.2.1
  have pages : e.frame.pages ≤ s.storedPages := by
    simp only [State.storedPages, h.queue, List.map_cons, pagesOfAll_cons]
    omega
  rw [State.poolTotal] at conserved
  omega

/-- A request that is carried out waits for nothing (R186 step 2). -/
theorem Due.carries {payload : List Byte} (h : Due e rest s) (up : (s.link e.link).up = true)
    (room : (s.link e.link).urgent.length < 8) (hne : requestOf e.frame.payload ≠ some .hubReset)
    (hp : requestReply (commandCode e.frame.payload) (requestOf e.frame.payload) s = payload)
    (free : pagesOf payload.length ≤ s.free + e.frame.pages) :
    considerHead band raw s = carryOut e.origin (commandCode e.frame.payload) (requestOf e.frame.payload) e.frame.pages band raw
      leaveQueue s := by
  have waits : replyWaits e.link e.frame.pages (pagesOf payload.length) s = false := by
    simp only [replyWaits, Bool.or_eq_false_iff, decide_eq_false_iff_not]
    omega
  have up : (s.link e.origin.link).up = true := up
  have waits : replyWaits e.origin.link e.frame.pages (pagesOf payload.length) s = false := waits
  rw [h.considers]
  simp only [consider, h.taken, Option.isSome_none, Bool.false_eq_true, if_false, up, Bool.not_true, hne, hp, waits]

/-- A request in its own chain: the reply of `payload` with the pages that its chain has beyond the reply's. -/
def State.replied (s : State) (e : MgmtEntry) (rest : List MgmtEntry) (payload : List Byte) : State :=
  let u := (s.dequeued rest).withUrgent e.link (replyTo e.origin payload)
  if e.frame.pages ≤ pagesOf payload.length then u else u.afterRelease (e.frame.pages - pagesOf payload.length)

/-- A request is carried out in its own chain (R186 step 3). -/
theorem Due.run_carried {payload : List Byte} (h : Due e rest s) (up : (s.link e.link).up = true)
    (room : (s.link e.link).urgent.length < 8) (hne : requestOf e.frame.payload ≠ some .hubReset)
    (hp : requestReply (commandCode e.frame.payload) (requestOf e.frame.payload) s = payload)
    (free : pagesOf payload.length ≤ s.free + e.frame.pages)
    (effect : ∀ b, Awaits ((s.extended (pagesOf payload.length - e.frame.pages)).underway e.origin) b →
      drain (madeEffect (requestOf e.frame.payload) band raw s b) = t.underway e.origin)
    (hu : t.unobserved = []) (hi : t.ignores (.sys 3)) (mgmt : t.mgmt = s.mgmt) (small : t.free ≤ 128) :
    run (considerHead band raw) s = .next (t.replied e rest payload) := by
  have left : leaveQueue (endProgress (t.underway e.origin)) = t.dequeued rest := by
    have queue : t.mgmt.queue.tail = rest := by rw [mgmt, h.queue]; rfl
    have awake : t.mgmt.headWaits = false := by rw [mgmt, h.awake]
    have same : ({ t.mgmt with queue := t.mgmt.queue.tail, headWaits := false, inProgress := none } : Mgmt) =
        { t.mgmt with queue := rest, inProgress := none } := by
      simp only [queue, awake]
    exact congrArg (fun m => { t with mgmt := m }) same
  have out := (h.carries (band := band) (raw := raw) up room hne hp free).trans
    (carryOut_eq (leave := leaveQueue) h.quiet.1.2 (by have := h.small; omega) hp effect)
  rw [left] at out
  by_cases own : e.frame.pages ≤ pagesOf payload.length
  · rw [Nat.sub_eq_zero_of_le own] at out
    rw [State.replied, if_pos own]
    exact run_eq_of_nil h.quiet.1 out hu
  · rw [State.replied, if_neg own]
    have pages := h.small
    have put : Awaits ((t.dequeued rest).withUrgent e.link (replyTo e.origin payload))
      (pushUrgent e.link (replyTo e.origin payload) (t.dequeued rest)) := Awaits.of_nil hu
    exact (put.release (n := e.frame.pages - pagesOf payload.length) (by omega)
      (show t.free + (e.frame.pages - pagesOf payload.length) ≤ _ by omega)).run_released out h.quiet.1 hu hi

theorem requestOf_code {bs : List Byte} {q : Request} (h : requestOf bs = some q) : commandCode bs = q.code := by
  cases bs with
  | nil =>
    have none : requestOf [] = none := rfl
    rw [none] at h
    cases h
  | cons b bs =>
    have code : b = BitVec.ofNat 8 (num8 (b :: bs) 0) := by simp [num8, byteAt]
    rw [commandCode, code]
    unfold requestOf at h
    generalize num8 (b :: bs) 0 = n at h
    split at h
    case h_2 =>
      split at h <;> cases h
      rfl
    case h_13 => cases h
    all_goals
      cases h
      rfl

/-! ## Waits, discards and refusals -/

theorem considerHead_asleep (hq : s.quiet) (queue : s.mgmt.queue = e :: rest) (asleep : s.mgmt.headWaits = true) :
    run (considerHead band raw) s = .next s := by
  refine run_of_same hq.1 ?_
  rw [considerHead, queue]
  exact if_pos asleep

/-- A request of a DOWN link is discarded (R186 step 1). -/
theorem Due.down (h : Due e rest s) (down : (s.link e.link).up = false) : run (considerHead band raw) s =
    .next (({ s with mgmt := { s.mgmt with queue := rest } } : State).afterRelease e.frame.pages) := by
  have down : (s.link e.origin.link).up = false := down
  have left : leaveQueue s = { s with mgmt := { s.mgmt with queue := rest } } := by
    have same : ({ s.mgmt with queue := s.mgmt.queue.tail, headWaits := false } : Mgmt) = { s.mgmt with queue := rest } := by
      simp only [h.queue, h.awake, List.tail_cons]
    exact congrArg (fun m => { s with mgmt := m }) same
  have out : considerHead band raw s = release e.frame.pages ({ s with mgmt := { s.mgmt with queue := rest } }) := by
    rw [h.considers]
    simp only [consider, h.taken, Option.isSome_none, Bool.false_eq_true, if_false, down, Bool.not_false, if_true, left]
  have pages := h.small
  have pos : e.frame.pages ≠ 0 := Nat.ne_of_gt (pagesOf_pos _)
  have put : Awaits ({ s with mgmt := { s.mgmt with queue := rest } } : State) { s with mgmt := { s.mgmt with queue := rest } } :=
    .of_nil h.quiet.1.2
  exact (put.release pos (show s.free + _ ≤ _ by omega)).run_released out h.quiet.1 h.quiet.1.2 h.quiet.2.2

/-- A request that waits (R186 step 2). -/
theorem Due.waits (h : Due e rest s) (up : (s.link e.link).up = true) (hne : requestOf e.frame.payload ≠ some .hubReset)
    (waits : replyWaits e.link e.frame.pages
      (pagesOf (requestReply (commandCode e.frame.payload) (requestOf e.frame.payload) s).length) s = true) :
    run (considerHead band raw) s = .next { s with mgmt := { s.mgmt with headWaits := true } } := by
  have up : (s.link e.origin.link).up = true := up
  have waits : replyWaits e.origin.link e.frame.pages
      (pagesOf (requestReply (commandCode e.frame.payload) (requestOf e.frame.payload) s).length) s = true := waits
  refine run_eq_of_nil h.quiet.1 ?_ h.quiet.1.2
  refine h.considers.trans (?_ : _ = waitAtHead s)
  simp only [consider, h.taken, Option.isSome_none, Bool.false_eq_true, if_false, up, Bool.not_true, hne, waits, if_true]

/-- HUB_RESET is taken (R19, R192). -/
theorem Due.reset (h : Due e rest s) (up : (s.link e.link).up = true) (hr : e.frame.payload = [12]) :
    run (considerHead band raw) s = .next { s with mgmt := { s.mgmt with resetTaken := some e.origin } } := by
  have up : (s.link e.origin.link).up = true := up
  have request : requestOf e.frame.payload = some .hubReset := by rw [hr]; rfl
  refine run_eq_of_nil h.quiet.1 ?_ h.quiet.1.2
  rw [h.considers]
  simp only [consider, h.taken, Option.isSome_none, Bool.false_eq_true, if_false, up, Bool.not_true, request, if_true]

theorem State.replied_one {payload : List Byte} (one : pagesOf payload.length = 1) : t.replied e rest payload =
    let u := (t.dequeued rest).withUrgent e.link (replyTo e.origin payload)
    if e.frame.pages = 1 then u else u.afterRelease (e.frame.pages - 1) := by
  have pos : 1 ≤ e.frame.pages := pagesOf_pos _
  rw [State.replied, one]
  dsimp only
  by_cases own : e.frame.pages = 1
  · rw [if_pos own, if_pos (by omega)]
  · rw [if_neg own, if_neg (by omega)]

/-- A request whose checks do not hold changes nothing (R187). -/
theorem Due.fails {payload : List Byte} (h : Due e rest s) (up : (s.link e.link).up = true)
    (room : (s.link e.link).urgent.length < 8) (hne : requestOf e.frame.payload ≠ some .hubReset)
    (hp : requestReply (commandCode e.frame.payload) (requestOf e.frame.payload) s = payload) (one : pagesOf payload.length = 1)
    (fails : ∀ b, madeEffect (requestOf e.frame.payload) band raw s b = b) :
    run (considerHead band raw) s = .next (s.replied e rest payload) := by
  have pos : 1 ≤ e.frame.pages := pagesOf_pos _
  have pages := h.small
  refine h.run_carried up room hne hp (by omega) (fun b hb => ?_) h.quiet.1.2 h.quiet.2.2 rfl (by omega)
  rw [one, Nat.sub_eq_zero_of_le pos] at hb
  rw [fails]
  exact hb.drain h.quiet.1.2 h.quiet.2.2

/-- A request whose checks hold, and whose reply fits one page, is carried out. -/
theorem Due.takes {q : Request} {result : List Byte} (h : Due e rest s) (up : (s.link e.link).up = true)
    (room : (s.link e.link).urgent.length < 8) (hreq : requestOf e.frame.payload = some q) (hne : q ≠ .hubReset)
    (ok : q.check s = .ok) (hr : q.result s = result) (short : result.length ≤ 26)
    (effect : ∀ b, Awaits (s.underway e.origin) b → drain (q.effect band raw b) = t.underway e.origin)
    (hu : t.unobserved = []) (hi : t.ignores (.sys 3)) (mgmt : t.mgmt = s.mgmt) (small : t.free ≤ 128) :
    run (considerHead band raw) s = .next (t.replied e rest (q.code :: 0 :: result)) := by
  have one : pagesOf (q.code :: 0 :: result).length = 1 := by
    rw [pagesOf, List.length_cons, List.length_cons]
    omega
  have pos : 1 ≤ e.frame.pages := pagesOf_pos _
  refine h.run_carried up room (by rw [hreq]; simpa using hne)
    (by rw [hreq, requestOf_code hreq, requestReply_ok ok, hr]) (by omega) (fun b hb => ?_) hu hi mgmt small
  rw [one, Nat.sub_eq_zero_of_le pos] at hb
  simp only [hreq, madeEffect, ok, if_true]
  exact effect b hb

/-- A request whose effect makes no write. -/
theorem Due.takes_plain {q : Request} {result : List Byte} (h : Due e rest s) (up : (s.link e.link).up = true)
    (room : (s.link e.link).urgent.length < 8) (hreq : requestOf e.frame.payload = some q) (hne : q ≠ .hubReset)
    (ok : q.check s = .ok) (hr : q.result s = result) (short : result.length ≤ 26)
    (effect : ∀ ws, q.effect band raw ((s.underway e.origin).withWrites ws) = (t.underway e.origin).withWrites ws)
    (hu : t.unobserved = []) (hi : t.ignores (.sys 3)) (mgmt : t.mgmt = s.mgmt) (small : t.free ≤ 128) :
    run (considerHead band raw) s = .next (t.replied e rest (q.code :: 0 :: result)) := by
  refine h.takes up room hreq hne ok hr short (fun b hb => ?_) hu hi mgmt small
  have made : Awaits (t.underway e.origin) (q.effect band raw b) := by
    obtain ⟨ws, hw, rfl⟩ := hb
    exact ⟨ws, hw, effect ws⟩
  exact made.drain hu hi

theorem requestOf_load (table index : Byte) (bs : List Byte) :
    requestOf (2 :: table :: index :: bs) = some (.load table index bs) := by
  have code : num8 (2 :: table :: index :: bs) 0 = 2 := rfl
  unfold requestOf
  rw [code]
  simp

/-- A LOAD whose checks hold. -/
theorem Due.loads {table index : Byte} {bs : List Byte} {x : Load} (h : Due e rest s) (up : (s.link e.link).up = true)
    (room : (s.link e.link).urgent.length < 8) (hload : Loads s table index bs x)
    (hp : e.frame.payload = 2 :: table :: index :: bs)
    (effect : ∀ b, Awaits (s.seen (.queued e.origin)) b → Awaits (t.seen (.queued e.origin)) (x.effect b))
    (hu : t.unobserved = []) (hi : t.ignores (.sys 3)) (mgmt : t.mgmt = s.mgmt) (small : t.free ≤ 128) :
    run (considerHead band raw) s = .next (t.replied e rest [2, 0, table, index]) := by
  have request : requestOf e.frame.payload = some (.load table index bs) := by
    rw [hp, requestOf_load]
  refine h.takes (q := .load table index bs) (result := [table, index]) up room request (by simp) hload.ok rfl (by simp)
    (fun b hb => ?_) hu hi mgmt small
  rw [hload.effect]
  exact (effect b hb).drain hu hi

/-- A LOAD that changes parts of the hub that the request in progress has no part in. -/
theorem seen_of_same {o : Phase} {f : State → State} (hf : ∀ ws, f ((s.seen o).withWrites ws) = (t.seen o).withWrites ws) (b : State)
    (hb : Awaits (s.seen o) b) : Awaits (t.seen o) (f b) := by
  obtain ⟨ws, hw, rfl⟩ := hb
  exact ⟨ws, hw, hf ws⟩

/-! ## READ -/

/-- A READ whose reply is longer than its request extends the chain, or waits (R14). -/
theorem Due.reads {table index : Byte} {tab : Table} {bs : List Byte} (h : Due e rest s) (up : (s.link e.link).up = true)
    (room : (s.link e.link).urgent.length < 8) (hp : e.frame.payload = [3, table, index])
    (ht : Table.ofCode table.toNat = some tab) (hv : tab ≠ .voice) (hm : tab ≠ .mixer) (hi : index.toNat < tab.entries)
    (hr : readTable tab index.toNat s = some bs) :
    let more := (4 + (2 + bs.length) + 31) / 32 - 1
    run (considerHead band raw) s = .next
      (if more = 0 then (s.dequeued rest).withUrgent e.link (replyTo e.origin (3 :: 0 :: bs))
      else if s.free < more then { s with mgmt := { s.mgmt with headWaits := true } }
      else ((s.dequeued rest).withFree (s.free - more)).withUrgent e.link (replyTo e.origin (3 :: 0 :: bs))) := by
  intro more
  have clears (b : State) : clearRead tab index.toNat b = b := by
    cases tab with
    | voice => exact absurd rfl hv
    | mixer => exact absurd rfl hm
    | _ => rfl
  have request : requestOf e.frame.payload = some (.read table index) := by rw [hp]; rfl
  have code : commandCode e.frame.payload = 3 := by rw [hp]; rfl
  have ok := Request.check_read ht hi hr
  have reply : requestReply (commandCode e.frame.payload) (requestOf e.frame.payload) s = 3 :: 0 :: bs := by
    rw [request, code]
    exact (requestReply_ok ok).trans (by rw [Request.result_read ht hr]; rfl)
  have own : e.frame.pages = 1 := by rw [Frame.pages, hp]; simp [pagesOf]
  have pages : pagesOf (3 :: 0 :: bs).length = more + 1 := by
    show (4 + (bs.length + 1 + 1) + 31) / 32 = (4 + (2 + bs.length) + 31) / 32 - 1 + 1
    omega
  have hne : requestOf e.frame.payload ≠ some .hubReset := by rw [request]; simp
  by_cases short : s.free < more
  · rw [if_neg (by omega), if_pos short]
    refine h.waits up hne ?_
    simp only [replyWaits, Bool.or_eq_true, decide_eq_true_eq]
    rw [reply, pages, own]
    exact .inl (by omega)
  · have carried := h.run_carried (t := s.extended more) (band := band) (raw := raw) up room hne reply (by omega)
      (fun b hb => by
        rw [pages, own, Nat.add_sub_cancel] at hb
        simp only [request, madeEffect, ok, if_true, Request.effect_read ht, clears]
        exact hb.drain (by rw [State.extended]; split <;> exact h.quiet.1.2) (by rw [State.extended]; split <;> exact h.quiet.2.2))
      (by rw [State.extended]; split <;> exact h.quiet.1.2) (by rw [State.extended]; split <;> exact h.quiet.2.2)
      (by rw [State.extended]; split <;> rfl)
      (by have := h.small; rw [State.extended]; split; omega; exact (Nat.sub_le ..).trans (by omega))
    rw [State.replied, if_pos (by omega)] at carried
    rw [carried, if_neg short, State.extended]
    split <;> rfl

end Sys2Proof.Machine
end

section
/-!
O25: the statement.
-/
namespace Sys2Proof.Machine

variable {e : MgmtEntry} {rest : List MgmtEntry} {s t u : State} {band : Band} {raw : RawSample} {p : Port}

/-! ## PORT_CONTROL of a port without a route -/

theorem State.portReported_silent (h : (t.port p).settings.eventRoute = none) : t.portReported p = t.latched p.code := by
  unfold State.portReported
  dsimp only
  rw [h]
  rfl

/-- A change of a port, an acquisition record, a motor and the cells of a port, beside the attention record. -/
structure PortOnly (f : State → State) (s : State) (rest : List MgmtEntry) : Prop where
  dequeued : f (s.dequeued rest) = (f s).dequeued rest
  mgmt : (f s).mgmt = s.mgmt
  free : (f s).free = s.free

theorem portOnly_resetTo (h : (s.port p).settings.eventRoute = none) : PortOnly (State.portResetTo · p band) s rest := by
  have silent (s : State) (h : (s.port p).settings.eventRoute = none) : s.portResetTo p band =
      if band = 7 then (((s.detached p).setPort p ((s.detached p).port p).emptied).latched p.code).setPort p
        ((s.detached p).port p).emptied.reasonless
      else (s.detached p).setPort p { ((s.detached p).port p).emptied.reasonless with
        state := .detecting, debounce := some { band := band, start := s.hubTime } } := by
    unfold State.portResetTo State.portEmptied
    dsimp only
    rw [State.portReported_silent (by rw [State.port_setPort_same, State.detached_port]; exact h)]
    rfl
  have silent' : (s.dequeued rest).portResetTo p band = _ := silent (s.dequeued rest) h
  refine ⟨?_, ?_, ?_⟩
  · rw [silent', silent s h]
    split <;> rfl
  · show (s.portResetTo p band).mgmt = _
    rw [silent s h]
    split <;> rfl
  · show (s.portResetTo p band).free = _
    rw [silent s h]
    split <;> rfl

theorem portOnly_suspended : PortOnly (State.portSuspended · p) s rest := by
  have same : ((s.dequeued rest).port p).cls = (s.port p).cls := rfl
  refine ⟨?_, ?_, ?_⟩
  · show (s.dequeued rest).portSuspended p = (s.portSuspended p).dequeued rest
    simp only [State.portSuspended, same]
    cases (s.port p).cls <;> rfl
  · show (s.portSuspended p).mgmt = _
    simp only [State.portSuspended]
    cases (s.port p).cls <;> rfl
  · show (s.portSuspended p).free = _
    simp only [State.portSuspended]
    cases (s.port p).cls <;> rfl

theorem portOnly_sampled {v : Int} (h : (s.port p).settings.eventRoute = none) :
    PortOnly (fun s => (s.portActive p).firstSample p v) s rest := by
  have silent (s : State) (h : (s.port p).settings.eventRoute = none) :
      s.portActive p = (s.setPort p (s.port p).activated).latched p.code :=
    State.portReported_silent (t := s.setPort p (s.port p).activated) (by rw [State.port_setPort_same]; exact h)
  have silent' : (s.dequeued rest).portActive p = _ := silent (s.dequeued rest) h
  refine ⟨?_, ?_, ?_⟩
  · show ((s.dequeued rest).portActive p).firstSample p v = ((s.portActive p).firstSample p v).dequeued rest
    rw [silent', silent s h]
    rfl
  · show (s.portActive p).mgmt = _
    rw [silent s h]
    rfl
  · show (s.portActive p).free = _
    rw [silent s h]
    rfl

theorem resumePort_touch (h : (u.port p).cls = .touch) : resumePort p raw u = startAnalog p raw (Machine.enterActive p u) := by
  unfold resumePort
  simp only [h]

/-- A PORT_CONTROL request of the management queue, on a port that changes in silence. -/
theorem Due.controls {op mode : Byte} {y : PortOperation} {f : State → State} (h : Due e rest s) (up : (s.link e.link).up = true)
    (room : (s.link e.link).urgent.length < 8) (hp : e.frame.payload = [4, BitVec.ofNat 8 p.code, op, mode])
    (hy : PortOperation.ofCode op.toNat = some y) (hs : s.stillPort p) (ok : portControlCheck y mode.toNat (s.port p) = .ok)
    (hf : PortOnly f s rest)
    (effect : ∀ c o u, PortActs c o s p 1 s u → PortActs c o s p 0 (f s) (portControlEffect y p mode.toNat band raw u)) :
    run (considerHead band raw) s = .next (((f s).noted s).replied e rest [4, 0]) := by
  have begun (b : State) (hb : Awaits (s.underway e.origin) b) : PortActs False (.queued e.origin) s p 1 s b := by
    refine ⟨?_, rfl, rfl, fun _ _ _ => rfl, hs.2.1, .inl hs.2.2.1⟩
    rw [State.noted_self]
    exact .of_underway h.quiet hb
  have acts (b : State) (hb : Awaits (s.underway e.origin) b) := (effect _ _ _ (begun b hb)).acts
  have first := acts _ (.of_nil h.quiet.1.2)
  have request : requestOf e.frame.payload = some (.portControl (BitVec.ofNat 8 p.code) op mode) := by rw [hp]; rfl
  refine h.takes (q := .portControl (BitVec.ofNat 8 p.code) op mode) (t := (f s).noted s) (result := []) up room request (by simp)
    (by rw [Request.check_portControl hy, ok]) rfl (by simp) (fun b hb => ?_) first.settled (first.unwatched (.inr (by simp)))
    hf.mgmt (by show (f s).free ≤ _; rw [hf.free]; have := h.small; omega)
  rw [Request.effect_portControl hy]
  exact (acts b hb).drain

/-! ## The statement -/

theorem requestOf_setAttention (mask : BitVec 16) (mode : Byte) :
    requestOf (9 :: (le16 mask.toNat ++ [mode])) = some (.setAttention mask mode) := by
  have word : word16 (le16 mask.toNat ++ [mode]) 0 = mask := by rw [word16_le16, BitVec.ofNat_toNat, BitVec.setWidth_eq]
  have request : requestOf (9 :: (le16 mask.toNat ++ [mode])) =
      some (.setAttention (word16 (le16 mask.toNat ++ [mode]) 0) mode) := rfl
  rw [request, word]

/-- A LOAD of a table that takes none, or that is not listed (R189). -/
theorem check_load_unlisted {table index : Byte} {bs : List Byte} (h : 13 ≤ table.toNat) :
    (Request.load table index bs).check s = .badTable := by
  unfold Request.check
  dsimp only
  split
  · rfl
  · next t ht =>
    have unloaded : t.loads = false := by
      by_contra loads
      generalize table.toNat = n at h ht
      cases t <;> simp [Table.loads] at loads <;> unfold Table.ofCode at ht <;> split at ht <;> simp at ht <;> omega
    rw [unloaded]
    rfl

theorem LinkCounters.bytes_length (c : LinkCounters) : c.bytes.length = 18 := rfl

/-- Settles O25. -/
theorem queuedRequestIsConsidered : Obligations.QueuedRequestIsConsidered := by
  intro band raw e rest s hq taken queue o considered left waits
  refine ⟨fun asleep => considerHead_asleep hq queue asleep, fun awake => ?_⟩
  have h : Due e rest s := ⟨hq, taken, queue, awake⟩
  have own : pagesOf 2 = 1 ∧ pagesOf 4 = 1 := by decide
  have hu := hq.1.2
  have hi := hq.2.2
  have small : s.free ≤ 128 := hq.2.1.free_le
  refine ⟨h.down, fun up full hne => ?full, fun up room => ?carried, fun up hp => h.reset up hp⟩
  case full =>
    refine h.waits up hne ?_
    simp only [replyWaits, Bool.or_eq_true, decide_eq_true_eq]
    exact .inr full
  case carried =>
    have one {payload : List Byte} {t : State} (answer : considered = .next (t.replied e rest payload))
        (fits : payload.length ≤ 28) :
        considered = .next (let u := (t.dequeued rest).withUrgent e.link (replyTo o payload)
          if e.frame.pages = 1 then u else u.afterRelease (e.frame.pages - 1)) := by
      rw [answer, State.replied_one (by rw [pagesOf]; omega)]
      rfl
    have plain {q : Request} {result payload : List Byte} {t : State} (hp : requestOf payload = some q) (hne : q ≠ .hubReset)
        (ok : q.check s = .ok) (hr : q.result s = result) (short : result.length ≤ 26)
        (effect : ∀ ws, q.effect band raw ((s.underway o).withWrites ws) = (t.underway o).withWrites ws)
        (hu : t.unobserved = []) (hi : t.ignores (.sys 3)) (mgmt : t.mgmt = s.mgmt) (small : t.free ≤ 128)
        (hpay : e.frame.payload = payload) :
        considered = .next (let u := (t.dequeued rest).withUrgent e.link (replyTo o (q.code :: 0 :: result))
          if e.frame.pages = 1 then u else u.afterRelease (e.frame.pages - 1)) :=
      one (h.takes_plain up room (by rw [hpay, hp]) hne ok hr short effect hu hi mgmt small) (by simp; omega)
    have load {table index : Byte} {bs : List Byte} {x : Load} {t : State} (hload : Loads s table index bs x)
        (effect : ∀ b, Awaits (s.seen (.queued o)) b → Awaits (t.seen (.queued o)) (x.effect b))
        (hu : t.unobserved = []) (hi : t.ignores (.sys 3)) (mgmt : t.mgmt = s.mgmt) (small : t.free ≤ 128)
        (hp : e.frame.payload = 2 :: table :: index :: bs) :
        considered = .next (let u := (t.dequeued rest).withUrgent e.link (replyTo o [2, 0, table, index])
          if e.frame.pages = 1 then u else u.afterRelease (e.frame.pages - 1)) :=
      one (h.loads up room hload hp effect hu hi mgmt small) (by simp)
    refine ⟨fun table index t bs hp ht hv hm hx hr => h.reads up room hp ht hv hm hx hr, fun hn code more hp => ?unparsed
      , fun q hp bad => ?refused, ?identify, fun table index record hl hp => ?unloaded, fun l c r => ?routes
      , fun i c k hc c0 c1 r0 r1 p i' f free => ?classes, fun p m g hm hg => ?motors, fun p g a0 a1 poll mode keep => ?ports
      , fun i t l0 l1 rise vals free => ?tables, fun i w range => ?waves, fun i k a d su r => ?envelopes
      , fun i bs r hr hc => ?reflexes, fun i bs b hlen hb hc => ?subs, fun g l0 l1 c0 c1 hy n0 n1 => ?supply
      , fun g hg hidle => ?sound, fun a b a0 a1 b0 b1 lowA lowB sameA sameB => ?ceilings, fun r => ?events
      , fun v bs hr => ?voice, fun bs hr => ?mixer, fun p mode hs due => ?control, fun p m hm hk silent => ?unlock
      , fun i => ?arm, fun p mask => ⟨?readFlags, fun hmask => ?setMask⟩, ⟨?readAttention, fun mask mode hmask => ?setAttention⟩
      , fun l => ?counters⟩
    case unparsed =>
      have reply : requestReply (commandCode e.frame.payload) (requestOf e.frame.payload) s = [code, 1] := by rw [hn, hp]; rfl
      exact one (h.fails up room (by simp [hn]) reply own.1 fun b => by rw [hn]; rfl) (by simp)
    case refused =>
      have hne : q ≠ .hubReset := fun same => bad (by rw [same]; rfl)
      have reply : requestReply (commandCode e.frame.payload) (requestOf e.frame.payload) s =
          [q.code, BitVec.ofNat 8 (q.check s).code] := by
        rw [hp, requestOf_code hp]
        simp only [requestReply, requestStatus, replyPayload, bad, if_false]
        rfl
      exact one (h.fails up room (by simpa [hp] using hne) reply own.1 fun b => by simp only [hp, madeEffect, bad, if_false]) (by simp)
    case identify =>
      exact plain (q := .identify) (t := s) rfl (by simp) rfl (show identifyBytes = _ by decide) (by simp) (fun _ => rfl) hu hi rfl
        small
    case unloaded =>
      have check : (Request.load table index record).check s = .badTable := check_load_unlisted hl
      have reply : requestReply (commandCode e.frame.payload) (requestOf e.frame.payload) s = [2, 2] := by
        rw [hp, requestOf_load]
        simp only [requestReply, requestStatus, replyPayload, check]
        rfl
      exact one (h.fails up room (by rw [hp, requestOf_load]; simp) reply own.1 fun b => by
        rw [hp, requestOf_load]
        simp only [madeEffect, check, reduceCtorEq, if_false]) (by simp)
    case routes => exact load (t := s.setRoute l c r) (loads_route s l c r) (seen_of_same fun _ => rfl) hu hi rfl small
    case classes =>
      exact load (t := { s with classes := s.classes.set c k }) (loads_motorClass hc c0 c1 r0 r1 p i' f free)
        (seen_of_same fun _ => rfl) hu hi rfl small
    case motors =>
      refine load (t := s.setMotor p (some { m with loaded := some g })) (loads_motorSettings hm hg) (seen_of_same fun ws => ?_)
        hu hi rfl small
      exact onMotor_some (f := fun m s => s.setMotor p (some { m with loaded := some g })) (s := (s.underway o).withWrites ws) hm
    case ports =>
      exact load (t := s.setPort p { s.port p with settings := g }) (loads_portSettings a0 a1 poll mode keep)
        (seen_of_same fun _ => rfl) hu hi rfl small
    case tables =>
      exact load (t := { s with calibration := s.calibration.set i.val t i.isLt }) (loads_calibration l0 l1 rise vals free)
        (seen_of_same fun _ => rfl) hu hi rfl small
    case waves =>
      exact load (t := { s with wavetables := s.wavetables.set i w }) (loads_wavetable range) (seen_of_same fun _ => rfl)
        hu hi rfl small
    case envelopes =>
      exact load (t := { s with envelopes := s.envelopes.set i.val k i.isLt }) (loads_envelope a d su r)
        (seen_of_same fun _ => rfl) hu hi rfl small
    case reflexes =>
      exact load (t := s.setReflex i { r with lastValue := (s.cell r.cell).value, lastTag := (s.cell r.cell).tag })
        (loads_reflex hr) (fun _ hx => loadReflex_effect hc hx) hu (hi.setReflex i hc) rfl small
    case subs =>
      have loads := loads_subscription (s := s) (i := i) hlen hb
      refine ⟨fun off => ?_, fun on down => ?_, fun on up' free room' => ?_⟩
      · exact load (t := s.setSub i (b.loaded (s.cell b.cell) s.hubTime)) loads
          (fun _ hx => loadSubscription_stores_effect off hc hx) hu (hi.setSub i hc) rfl small
      · exact load (t := s.setSub i { b.loaded (s.cell b.cell) s.hubTime with skipped := 1 }) loads
          (fun _ hx => loadSubscription_skips_effect hb on down hc hx) hu (hi.setSub i hc) rfl small
      · exact load (t := s.reportedOnLoad i b) loads
          (fun _ hx => loadSubscription_builds_effect hb on up' room' free small hc hx) hu
          (State.ignores.setSub (s := (s.withFree (s.free - 1)).withNormal b.target.link
            (reportFrame i (b.loaded (s.cell b.cell) s.hubTime) (s.cell b.cell) s.hubTime)) hi i hc) rfl
          ((Nat.sub_le ..).trans small)
    case supply =>
      exact load (t := { s with supply := { s.supply with settings := g } }) (loads_supply l0 l1 c0 c1 hy n0 n1)
        (seen_of_same fun _ => rfl) hu hi rfl small
    case sound =>
      intro hp
      have answer := load (t := if s.amp = .on ∧ timerReached s.hubTime s.idleTimer g.idleOff = true
        then { s with sound := g, amp := .off, idleTimer := none, speaker := 0 } else { s with sound := g })
        (loads_sound hg hidle) (fun _ hx => loadSound_effect hx) (by split <;> exact hu) (by split <;> exact hi)
        (by split <;> rfl) (by split <;> exact small) hp
      refine answer.trans ?_
      split <;> rfl
    case ceilings =>
      refine load (t := s.withCeilings a b) (loads_ceilings a0 a1 b0 b1 lowA lowB) (fun x hx => ?_) hu hi rfl small
      obtain ⟨ws, hw, rfl⟩ := hx
      refine ⟨ws, hw, (loadCeilings_eq a b _).trans ?_⟩
      refine (if_neg (Nat.not_lt.mpr sameA)).trans ((if_neg (Nat.not_lt.mpr sameB)).trans rfl)
    case events =>
      exact load (t := { s with supply := { s.supply with eventRoute := r } }) (loads_eventRoute r) (seen_of_same fun _ => rfl)
        hu hi rfl small
    case voice =>
      have fin := finOf_ofNat v (by decide)
      have index : (BitVec.ofNat 8 v.val).toNat = v.val := toNat_index v.isLt (by decide)
      have reads : readTable .voice (BitVec.ofNat 8 v.val).toNat s = some bs := by rw [index, hr]
      have length : bs.length = 12 := by
        simp only [readTable, finOf_of_lt v.isLt, Option.map_some, Option.some.injEq] at hr
        rw [← hr, Voice.bytes_length]
      refine plain (q := .read 15 (BitVec.ofNat 8 v.val))
        (t := s.setVoice v { s.voice v with overflows := 0, underruns := 0, formatErrors := 0 }) rfl (by simp)
        (Request.check_read (tab := .voice) rfl (by rw [index]; exact v.isLt) reads) (Request.result_read (tab := .voice) rfl reads)
        (by omega) (fun ws => ?_) hu hi rfl small
      rw [Request.effect_read (tab := .voice) rfl, clearRead, fin]
      rfl
    case mixer =>
      have length : bs.length = 5 := by
        simp only [readTable, Option.some.injEq] at hr
        rw [← hr]
        rfl
      exact plain (q := .read 16 0) (t := { s with clips := 0 }) rfl (by simp) (Request.check_read (tab := .mixer) rfl (by decide) hr)
        (Request.result_read (tab := .mixer) rfl hr) (by omega) (fun _ => rfl) hu hi rfl small
    case control =>
      intro r a controls
      have fresh : s.unwritten s p := State.unwritten_of_cells rfl
      have done {op : Byte} {y : PortOperation} {f : State → State} (hy : PortOperation.ofCode op.toNat = some y)
          (ok : portControlCheck y mode.toNat (s.port p) = .ok) (hf : PortOnly f s rest)
          (effect : ∀ c o u, PortActs c o s p 1 s u → PortActs c o s p 0 (f s) (portControlEffect y p mode.toNat band raw u)) :
          controls op (f left) := by
        intro hp
        have answer := one (h.controls up room hp hy hs ok hf effect) (by simp)
        have same : ((f s).noted s).dequeued rest = (f left).noted s :=
          congrArg (State.noted · s) hf.dequeued.symm
        rw [same] at answer
        exact answer
      refine ⟨done (y := .reset) (f := (State.portResetTo · p band)) rfl rfl (portOnly_resetTo hs.2.2.1) fun _ _ _ h => h.resetPort hs.2.2.2 fresh
        , fun ha => done (y := .suspend) (f := (State.portSuspended · p)) rfl (if_pos ha) portOnly_suspended fun _ _ _ h => h.less.suspendPort hs.2.2.2 due fresh
        , fun ha hc => done (y := .resume) (f := fun s => (s.portActive p).firstSample p (if 2048 < raw.val then 1 else 0)) rfl
          (if_pos ha) (portOnly_sampled hs.2.2.1) fun _ _ _ h => ?_
        , fun d ha hc hn hd hl => ⟨fun busy => ?_, fun hw hpw => ?_⟩⟩
      · have resumed := h.enterSampled (raw := raw) (v := if 2048 < raw.val then 1 else 0)
          (fun x hx _ => convertAnalog_touch (hx.trans hc)) (by split <;> decide) (by split <;> decide) due rfl
        rw [portControlEffect, resumePort_touch (by rw [h.acts.port]; exact hc)]
        exact resumed
      · exact done (op := 3) (y := .selectMode) (f := fun s => s.setPort p ((s.port p).changing mode.toNat)) rfl
          (by simp [portControlCheck, selectModeCheck, show (s.port p).state = _ from ha, show (s.port p).cls = _ from hc
            , show (s.port p).modeChange = _ from hn, show (s.port p).description = _ from hd, hl]) ⟨rfl, rfl, rfl⟩ fun _ _ _ h =>
            h.less.takeSelectMode_busy busy
      · exact done (op := 3) (y := .selectMode) (f := fun s => s.selectSent p mode.toNat) rfl
          (by simp [portControlCheck, selectModeCheck, show (s.port p).state = _ from ha, show (s.port p).cls = _ from hc
            , show (s.port p).modeChange = _ from hn, show (s.port p).description = _ from hd, hl]) ⟨rfl, rfl, rfl⟩ fun _ _ _ h =>
            h.less.takeSelectMode_free ha hw hpw due fresh
    case unlock =>
      refine plain (q := .motorUnlock (BitVec.ofNat 8 p.code)) (result := []) (t := s.setMotor p (some { m with state := .idle })) rfl
        (by simp) (by simp only [Request.check, toNat_portCode, portOfCode_code, unlockCheck, hm, hk, if_true]) rfl (by simp)
        (fun ws => ?_) hu hi rfl small
      simp only [Request.effect, toNat_portCode, portIndex_code]
      refine (onMotor_some (s := (s.underway o).withWrites ws) hm).trans ?_
      exact moveMotor_silent (by simp) silent.1
    case arm =>
      have fin := finOf_ofNat i (by decide)
      have index : (BitVec.ofNat 8 i.val).toNat < 16 := by rw [toNat_index i.isLt (by decide)]; exact i.isLt
      refine plain (q := .reflexArm (BitVec.ofNat 8 i.val)) (result := []) (t := s.setReflex i { s.reflex i with state := .armed }) rfl (by simp)
        (if_pos index) rfl (by simp) (fun ws => ?_) hu (hi.setReflex i (hi.1 i)) rfl small
      simp only [Request.effect, fin]
      rfl
    case readFlags =>
      have check : (Request.readFlags (BitVec.ofNat 8 p.code)).check s = .ok := by
        simp only [Request.check, toNat_portCode, portCode_lt, if_true]
      refine plain (q := .readFlags (BitVec.ofNat 8 p.code)) (t := s.setFlagRec p { s.flag p with flags := 0, due := 0 })
        (result := [(s.flag p).flags.zeroExtend 8, (s.flag p).mask.zeroExtend 8]) rfl (by simp) check ?_ (by simp) (fun ws => ?_) hu hi rfl
        small
      · show [(s.flag (portIndex (BitVec.ofNat 8 p.code).toNat)).flags.zeroExtend 8, _] = _
        rw [toNat_portCode, portIndex_code]
      · simp only [Request.effect, toNat_portCode, portIndex_code]
        rfl
    case setMask =>
      have check : (Request.setFlagMask (BitVec.ofNat 8 p.code) mask).check s = .ok := by
        simp only [Request.check, toNat_portCode, if_neg (Nat.not_le.mpr (portCode_lt p)), hmask, if_true]
      refine plain (q := .setFlagMask (BitVec.ofNat 8 p.code) mask) (result := []) (t := s.setFlagRec p { s.flag p with
        mask := mask.truncate 5
        due := ((s.flag p).due &&& mask.truncate 5) ||| ((s.flag p).flags &&& mask.truncate 5 &&& ~~~(s.flag p).mask) })
        rfl (by simp) check rfl (by simp) (fun ws => ?_) hu hi rfl small
      simp only [Request.effect, toNat_portCode, portIndex_code]
      rfl
    case readAttention =>
      exact plain (q := .readAttention) (t := { s with attention := { s.attention with latches := 0 } }) rfl (by simp) rfl rfl
        (by simp) (fun _ => rfl) hu hi rfl small
    case setAttention =>
      have code : LineMode.ofCode (BitVec.ofNat 8 mode.code).toNat = some mode := by cases mode <;> rfl
      refine plain (q := .setAttention mask (BitVec.ofNat 8 mode.code)) (result := [])
        (t := { s with attention :=
            if s.attention.mode = .pulse ∧ mode = .level then
              { s.attention with
                mask := mask.truncate 12, mode := mode, pulse := if s.attention.pulse = .low then .gap else s.attention.pulse
                owed := 0 }
            else { s.attention with mask := mask.truncate 12, mode := mode } })
        (requestOf_setAttention ..) (by simp) ?_ rfl (by simp) (fun ws => ?_) hu hi rfl small
      · simp only [Request.check, code, hmask, decide_true, Option.isSome_some, Bool.and_self, if_true]
      · simp only [Request.effect, code, Attention.configured, Bool.and_eq_true, decide_eq_true_eq]
        rfl
    case counters =>
      have check : (Request.readCounters (BitVec.ofNat 8 l.code)).check s = .ok := by cases l <;> rfl
      refine plain (q := .readCounters (BitVec.ofNat 8 l.code)) (result := (s.link l).counters.bytes)
        (t := s.setLink l { s.link l with counters := LinkCounters.zero }) rfl (by simp) check ?_
        (by rw [LinkCounters.bytes_length]; decide) (fun ws => ?_) hu hi rfl small
      · show (match Link.ofCode (BitVec.ofNat 8 l.code).toNat with
          | some l => (s.link l).counters.bytes
          | none => []) = _
        rw [toNat_linkCode, linkOfCode_code]
      · simp only [Request.effect, toNat_linkCode, linkOfCode_code]
        rfl

end Sys2Proof.Machine
end

section
/-!
Segments and notes as they are checked and stored (R96, R139): O47.
-/
namespace Sys2Proof.Machine

/-! ## Codes -/

theorem segmentKind_ofCode (n : Nat) : SegmentKind.ofCode n =
    [SegmentKind.runSpeed, .runTo, .runBy, .runDuty][n]? := by
  match n with
  | 0 | 1 | 2 | 3 => rfl
  | n + 4 => rfl

theorem segmentKind_ofCode_none {n : Nat} : SegmentKind.ofCode n = none ↔ 3 < n := by
  rw [segmentKind_ofCode, List.getElem?_eq_none_iff, List.length_cons, List.length_cons, List.length_cons, List.length_cons
    , List.length_nil]
  omega

theorem segmentKind_moves {n : Nat} {k : SegmentKind} (h : SegmentKind.ofCode n = some k) :
    (k = .runTo ∨ k = .runBy) ↔ (n = 1 ∨ n = 2) := by
  match n with
  | 0 | 1 | 2 | 3 =>
    cases h
    simp
  | n + 4 => cases h

theorem endAction_ofCode_none {n : Nat} : EndAction.ofCode n = none ↔ 2 < n := by
  refine ⟨fun h => ?_, endActionOfCode_none⟩
  by_contra hn
  have cases3 : n = 0 ∨ n = 1 ∨ n = 2 := by omega
  obtain rfl | rfl | rfl := cases3 <;> cases h

theorem endAction_code {n : Nat} {a : EndAction} (h : EndAction.ofCode n = some a) : a.code = n := by
  match n with
  | 0 | 1 | 2 =>
    cases h
    rfl
  | n + 3 => cases h

theorem link_code {n : Nat} {l : Link} (h : Link.ofCode n = some l) : l.code = n := by
  match n with
  | 0 | 1 =>
    cases h
    rfl
  | n + 2 => cases h

theorem link_ofCode_none {n : Nat} : Link.ofCode n = none ↔ 1 < n := by
  refine ⟨fun h => ?_, linkOfCode_none⟩
  by_contra hn
  have cases2 : n = 0 ∨ n = 1 := by omega
  obtain rfl | rfl := cases2 <;> cases h

theorem noteKind_ofCode_none {n : Nat} : NoteKind.ofCode n = none ↔ 2 < n := by
  match n with
  | 0 | 1 | 2 => simp [NoteKind.ofCode]
  | n + 3 => simp [NoteKind.ofCode]

theorem noteKind_code {n : Nat} {k : NoteKind} (h : NoteKind.ofCode n = some k) : k.code = n := by
  match n with
  | 0 | 1 | 2 =>
    cases h
    rfl
  | n + 3 => cases h

theorem segmentRoute_none {l c : Byte} : segmentRoute l c = none ↔ 1 < l.toNat ∧ l ≠ 255 := by
  unfold segmentRoute
  split
  · next h => simp [h]
  · next h => rw [Option.map_eq_none_iff, link_ofCode_none, and_iff_left h]

/-! ## Segments -/

theorem parseSegment_eq_none_iff (r : RawSegment) : parseSegment r = none ↔
    3 < r.kind.toNat ∨ 2 < r.endAction.toNat ∨ (1 < r.routeLink.toNat ∧ r.routeLink ≠ 255) ∨
      ((r.kind = 1 ∨ r.kind = 2) ∧ r.speed = 0) := by
  have one : r.kind = 1 ↔ r.kind.toNat = 1 := BitVec.toNat_inj.symm
  have two : r.kind = 2 ↔ r.kind.toNat = 2 := BitVec.toNat_inj.symm
  unfold parseSegment
  split
  · next kind endAction route hk he hr =>
    have listed : ¬ 3 < r.kind.toNat := fun h => by rw [segmentKind_ofCode_none.mpr h] at hk; cases hk
    have ends : ¬ 2 < r.endAction.toNat := fun h => by rw [endAction_ofCode_none.mpr h] at he; cases he
    have routed : ¬ (1 < r.routeLink.toNat ∧ r.routeLink ≠ 255) := fun h => by rw [segmentRoute_none.mpr h] at hr; cases hr
    rw [one, two, ← segmentKind_moves hk]
    simp only [listed, ends, routed, false_or, Bool.and_eq_true, Bool.or_eq_true, decide_eq_true_eq]
    split
    · next h => simp only [h, true_iff, and_self]
    · next h => simp only [h, reduceCtorEq]
  · next absent =>
    refine ⟨fun _ => ?_, fun _ => rfl⟩
    by_contra listed
    simp only [not_or] at listed
    obtain ⟨hk, he, hr, -⟩ := listed
    obtain ⟨k, hk⟩ := Option.ne_none_iff_exists'.mp (mt segmentKind_ofCode_none.mp hk)
    obtain ⟨a, he⟩ := Option.ne_none_iff_exists'.mp (mt endAction_ofCode_none.mp he)
    obtain ⟨x, hr⟩ := Option.ne_none_iff_exists'.mp (mt segmentRoute_none.mp hr)
    exact absent _ _ _ hk he hr

theorem segmentRoute_some {l c : Byte} {x : Option Endpoint} (h : segmentRoute l c = some x) : (x = none ↔ l = 255) ∧
    ∀ e, x = some e → e.link.code = l.toNat ∧ (c.toNat < 16 → e.channel.val = c.toNat) := by
  unfold segmentRoute at h
  split at h
  · next hl =>
    cases h
    exact ⟨by simp [hl], by simp⟩
  · next hl =>
    obtain ⟨k, hk, rfl⟩ := Option.map_eq_some_iff.mp h
    refine ⟨⟨fun absent => absurd absent (Option.some_ne_none _), fun same => absurd same hl⟩, fun e he => ?_⟩
    cases he
    refine ⟨link_code hk, fun hc => ?_⟩
    rw [dif_pos hc]

/-! ## Notes -/

/-- Two bytes that name a route or its absence. -/
theorem routeOf_none_iff {l c : Byte} : routeOf l c = none ↔ l ≠ 255 ∧ (1 < l.toNat ∨ 15 < c.toNat) := by
  unfold routeOf
  split
  · next hl => simp [hl]
  · next hl =>
    split
    · next k hk =>
      have listed : ¬ 1 < l.toNat := fun h => by rw [link_ofCode_none.mpr h] at hk; cases hk
      split
      · next hc => simp only [reduceCtorEq, listed, false_or, false_iff, not_and]; omega
      · next hc => simp only [true_iff, ne_eq, hl, not_false_eq_true, true_and]; omega
    · next hk => simp only [true_iff, ne_eq, hl, not_false_eq_true, true_and, link_ofCode_none.mp hk, true_or]

theorem routeOf_some {l c : Byte} {x : Option Endpoint} (h : routeOf l c = some x) : (x = none ↔ l = 255) ∧
    ∀ e, x = some e → e.link.code = l.toNat ∧ e.channel.val = c.toNat := by
  unfold routeOf at h
  split at h
  · next hl =>
    cases h
    exact ⟨by simp [hl], by simp⟩
  · next hl =>
    split at h
    · next k hk =>
      split at h
      · next hc =>
        cases h
        refine ⟨⟨fun absent => absurd absent (Option.some_ne_none _), fun same => absurd same hl⟩, fun e he => ?_⟩
        cases he
        exact ⟨link_code hk, rfl⟩
      · cases h
    · cases h

theorem parseNote_eq_none_iff (r : RawNote) : parseNote r = none ↔
    2 < r.kind.toNat ∨ (r.kind = 0 ∧ (3 < r.wavetable.toNat ∨ 7 < r.envelope.toNat)) ∨ (r.kind ≠ 1 ∧ r.duration = 0) ∨
      (r.routeLink ≠ 255 ∧ (1 < r.routeLink.toNat ∨ 15 < r.routeChannel.toNat)) := by
  have zero : r.kind = 0 ↔ r.kind.toNat = 0 := BitVec.toNat_inj.symm
  have one : r.kind = 1 ↔ r.kind.toNat = 1 := BitVec.toNat_inj.symm
  unfold parseNote
  split
  · next kind route hk hr =>
    have listed : ¬ 2 < r.kind.toNat := fun h => by rw [noteKind_ofCode_none.mpr h] at hk; cases hk
    have routed : ¬ (r.routeLink ≠ 255 ∧ (1 < r.routeLink.toNat ∨ 15 < r.routeChannel.toNat)) :=
      fun h => by rw [routeOf_none_iff.mpr h] at hr; cases hr
    have tone : kind = .tone ↔ r.kind = 0 := by
      rw [zero, ← noteKind_code hk]
      cases kind <;> simp [NoteKind.code]
    have stream : kind = .stream ↔ r.kind = 1 := by
      rw [one, ← noteKind_code hk]
      cases kind <;> simp [NoteKind.code]
    simp only [listed, routed, false_or, or_false, ← tone, ne_eq, ← stream, Bool.and_eq_true, decide_eq_true_eq]
    by_cases brief : ¬ kind = .stream ∧ r.duration = 0
    · rw [if_pos brief]
      exact ⟨fun _ => .inr brief, fun _ => rfl⟩
    · rw [if_neg brief]
      by_cases sounds : kind = .tone
      · rw [if_pos sounds]
        split
        · next fits =>
          refine iff_of_false (Option.some_ne_none _) ?_
          rintro (⟨-, wide⟩ | short)
          · omega
          · exact brief short
        · next wide => exact iff_of_true rfl (.inl ⟨sounds, by omega⟩)
      · rw [if_neg sounds]
        refine iff_of_false (Option.some_ne_none _) ?_
        rintro (⟨tone, -⟩ | short)
        · exact sounds tone
        · exact brief short
  · next absent =>
    refine ⟨fun _ => ?_, fun _ => rfl⟩
    by_contra listed
    simp only [not_or] at listed
    obtain ⟨hk, -, -, hr⟩ := listed
    obtain ⟨k, hk⟩ := Option.ne_none_iff_exists'.mp (mt noteKind_ofCode_none.mp hk)
    obtain ⟨x, hr⟩ := Option.ne_none_iff_exists'.mp (mt routeOf_none_iff.mp hr)
    exact absent _ _ hk hr

/-- Settles O47. -/
theorem segmentsAreCheckedAndClamped : Obligations.SegmentsAreCheckedAndClamped := by
  refine ⟨fun g rated => rfl, fun r => ⟨parseSegment_eq_none_iff r, fun g hg => ?segment⟩
    , fun r => ⟨parseNote_eq_none_iff r, fun n hn => ?note⟩⟩
  case segment =>
    unfold parseSegment at hg
    split at hg
    · next kind endAction route hk he hr =>
      split at hg
      · cases hg
      · cases hg
        obtain ⟨absent, present⟩ := segmentRoute_some hr
        exact ⟨by rw [← segmentKind_ofCode, hk], endAction_code he, rfl, rfl, rfl, rfl, rfl, rfl, absent, present⟩
    · cases hg
  case note =>
    unfold parseNote at hn
    split at hn
    · next kind route hk hr =>
      obtain ⟨absent, present⟩ := routeOf_some hr
      dsimp only at hn
      split at hn
      · cases hn
      · split at hn
        · next sounds =>
          split at hn
          · cases hn
            exact ⟨noteKind_code hk, rfl, rfl, rfl, fun _ => ⟨rfl, rfl, rfl⟩, absent, present⟩
          · cases hn
        · next sounds =>
          cases hn
          exact ⟨noteKind_code hk, rfl, rfl, rfl, fun tone => absurd tone sounds, absent, present⟩
    · cases hn

end Sys2Proof.Machine
end

section
/-!
Refused commands (R97, R141): O48.
-/
namespace Sys2Proof.Machine

variable {s : State} {o : Origin} {p : Port} {v : VoiceId}

/-! ## The REFUSED notice -/

theorem State.handed_room {l : Link} {f : Frame} (up : (s.link l).up = true) (free : 1 ≤ s.free)
    (room : (s.link l).urgent.length < 8) : s.handed l f = (s.withFree (s.free - 1)).withUrgent l f := by
  rw [State.handed, if_neg (by simp [up]), if_neg (by omega)]

/-- A command that is turned away sends its REFUSED notice and changes nothing else. -/
theorem run_refuses {f : State → State} {target : Nat} {command : Byte} {st : Status} (hq : s.quiet)
    (up : (s.link o.link).up = true) (free : 1 ≤ s.free) (room : (s.link o.link).urgent.length < 8)
    (idle : s.mgmt.inProgress = none) (hf : f s = sendRefused o target command st s) :
    run f s = .next ((s.withFree (s.free - 1)).withUrgent o.link (refusedNotice o target command st.code s.hubTime)) := by
  have small : s.free ≤ 128 := hq.2.1.free_le
  have sent : Awaits ((s.withFree (s.free - 1)).withUrgent o.link (refusedNotice o target command st.code s.hubTime))
      (sendRefused o target command st s) := by
    rw [← State.handed_room up free room]
    exact (Awaits.of_nil hq.1.2).placeUrgent idle (by omega)
  exact sent.run_eq hf hq.1 hq.1.2 hq.2.2

/-! ## Motor commands -/

theorem lossHolds_iff (m : Motor) (s : State) : lossHolds m s = true ↔ m.settings.lossAction ≠ .noAction ∧
    ((s.link .radio).up = false ∧ m.settings.watched ≠ .controller ∨
      (s.link .controller).up = false ∧ m.settings.watched ≠ .radio) := by
  simp only [lossHolds, Bool.and_eq_true, decide_eq_true_eq]
  refine and_congr_right fun _ => ?_
  cases m.settings.watched <;> simp

theorem linkMotorCommand_refused {code : Byte} {r : MotionRequest} {m : Motor} {st : Status} (hm : s.motor p = some m)
    (h : motionRefusal p r m s = some st) : linkMotorCommand p o code (some r) s = sendRefused o p.code code st s := by
  simp only [linkMotorCommand, hm, h]

theorem linkMotorCommand_absent {code : Byte} {r : MotionRequest} (hm : s.motor p = none) :
    linkMotorCommand p o code (some r) s = sendRefused o p.code code .noDevice s := by
  simp only [linkMotorCommand, hm]

theorem motionRefusal_locked {r : MotionRequest} {m : Motor} (h : m.state = .locked) : motionRefusal p r m s = some .locked :=
  if_pos h

theorem motionRefusal_wrongState {r : MotionRequest} {m : Motor} (h : m.state ≠ .locked)
    (hs : (s.port p).state = .suspended ∨ s.supply.state = .critical ∨ lossHolds m s = true) :
    motionRefusal p r m s = some .wrongState := by
  have stopped : (decide ((s.port p).state = .suspended) || decide (s.supply.state = .critical) || lossHolds m s) = true := by
    simpa only [Bool.or_eq_true, decide_eq_true_eq, or_assoc] using hs
  unfold motionRefusal
  rw [if_neg h, if_pos stopped]

theorem takesMotion_passes {r : MotionRequest} {m : Motor} (h : s.takesMotion p m) : motionRefusal p r m s = match r with
    | .append _ => if 4 ≤ m.queue.length then some .full else none
    | .zero => if m.executing then some .wrongState else none
    | _ => none := by
  obtain ⟨-, unlocked, running, supplied, linked⟩ := h
  have moves : ¬ (decide ((s.port p).state = .suspended) || decide (s.supply.state = .critical) || lossHolds m s) = true := by
    simp only [Bool.or_eq_true, decide_eq_true_eq, running, supplied, linked, Bool.false_eq_true, or_self, not_false_eq_true]
  unfold motionRefusal
  exact (if_neg unlocked).trans ((if_neg moves).trans rfl)

/-! ## Sound commands -/

theorem linkSoundCommand_refused {code : Byte} {r : SoundRequest} {st : Status} (h : soundRefusal v r s = some st) :
    linkSoundCommand v o code (some r) s = sendRefused o (16 + v.val) code st s := by
  simp only [linkSoundCommand, h]

/-- Settles O48. -/
theorem refusedCommandsSendANotice : Obligations.RefusedCommandsSendANotice := by
  intro o s hq up free room idle refuses
  have refused {c : Instr} {f : State → State} {target : Nat} {command : Byte} {st : Status} (hc : exec c s = run f s)
      (hf : f s = sendRefused o target command st s) : refuses c target command st.code :=
    hc.trans (run_refuses hq up free room idle hf)
  have malformed {p : Port} {c : MotorCommand} (h : c.request = none) :
      linkMotorCommand p o c.code c.request s = sendRefused o p.code c.code .badFormat s := by rw [h]; rfl
  have refusesEvery {p : Port} {st : Status}
      (h : ∀ code r, linkMotorCommand p o code (some r) s = sendRefused o p.code code st s) :
      (∀ raw : RawSegment, parseSegment raw ≠ none →
        refuses (.append p o raw) p.code 1 st.code ∧ refuses (.replace p o raw) p.code 2 st.code) ∧
      (∀ a : Byte, a.toNat < 3 → refuses (.abort p o a) p.code 3 st.code) ∧ refuses (.zero p o) p.code 4 st.code := by
    refine ⟨fun raw hraw => ?_, fun a ha => ?_, refused rfl (h 4 .zero)⟩
    · obtain ⟨g, hg⟩ := Option.ne_none_iff_exists'.mp hraw
      exact ⟨refused (f := linkMotorCommand p o 1 ((parseSegment raw).map .append)) rfl (by rw [hg]; exact h 1 _)
        , refused (f := linkMotorCommand p o 2 ((parseSegment raw).map .replace)) rfl (by rw [hg]; exact h 2 _)⟩
    · obtain ⟨b, hb⟩ := Option.ne_none_iff_exists'.mp (mt endAction_ofCode_none.mp (Nat.not_lt.mpr (Nat.le_of_lt_succ ha)))
      exact refused (f := linkMotorCommand p o 3 ((EndAction.ofCode a.toNat).map .abort)) rfl (by rw [hb]; exact h 3 _)
  refine ⟨fun p raw h => ⟨?_, ?_⟩, fun p a h => ?_, fun p hm => refusesEvery fun _ _ => linkMotorCommand_absent hm
    , fun p m hm hk => refusesEvery fun _ _ => linkMotorCommand_refused hm (motionRefusal_locked hk)
    , fun p m hm hk hs => refusesEvery fun _ _ => linkMotorCommand_refused hm
        (motionRefusal_wrongState hk (hs.imp_right fun h => h.imp_right fun h => (lossHolds_iff m s).mpr h))
    , fun p m hm hx => ?zero, fun p m raw g hm hl hg => ?full, fun v raw hn => ⟨?_, ?_⟩, fun v raw n hn hs => ⟨?_, ?_⟩
    , fun v raw n hn hs hl => ?nine, fun v g hv => ?gain⟩
  · exact refused rfl (malformed (c := .append raw) (by simp [MotorCommand.request, h]))
  · exact refused rfl (malformed (c := .replace raw) (by simp [MotorCommand.request, h]))
  · exact refused rfl (malformed (c := .abort a) (by simp [MotorCommand.request, endActionOfCode_none h]))
  case zero =>
    exact refused (st := .wrongState) rfl (linkMotorCommand_refused (r := .zero) hm.1 ((takesMotion_passes hm).trans (if_pos hx)))
  case full =>
    refine refused (st := .full) (f := linkMotorCommand p o 1 ((parseSegment raw).map .append)) rfl ?_
    rw [hg]
    exact linkMotorCommand_refused (r := .append g) hm.1 ((takesMotion_passes hm).trans (if_pos hl))
  · exact refused (st := .badFormat) (f := linkSoundCommand v o 1 ((parseNote raw).map .queue)) rfl (by rw [hn]; rfl)
  · exact refused (st := .badFormat) (f := linkSoundCommand v o 2 ((parseNote raw).map .play)) rfl (by rw [hn]; rfl)
  · refine refused (st := .wrongState) (f := linkSoundCommand v o 1 ((parseNote raw).map .queue)) rfl ?_
    rw [hn]
    exact linkSoundCommand_refused (r := .queue n) (if_pos hs)
  · refine refused (st := .wrongState) (f := linkSoundCommand v o 2 ((parseNote raw).map .play)) rfl ?_
    rw [hn]
    exact linkSoundCommand_refused (r := .play n) (if_pos hs)
  case nine =>
    refine refused (st := .full) (f := linkSoundCommand v o 1 ((parseNote raw).map .queue)) rfl ?_
    rw [hn]
    exact linkSoundCommand_refused (r := .queue n) ((if_neg hs).trans (if_pos hl))
  case gain =>
    exact refused (st := .wrongState) rfl (linkSoundCommand_refused (r := .setGain (min 256 g.toNat)) (if_pos hv))

end Sys2Proof.Machine
end

section
/-!
Motor commands and encoder steps on a motor that takes them (R98 to R102, R107 to R109, R115): O46.
-/
namespace Sys2Proof.Machine

variable {s : State} {o : Origin} {p : Port} {m after : Motor}

/-- A command that moves a motor, with its notices. -/
theorem run_moveMotor {f : State → State} {ended : List (Segment × SegOutcome)} (hs : s.settled)
    (hc : after.SilentEnd ended ∨ s.reports) (hf : f s = moveMotor p m after ended s) :
    run f s = .next (s.motorMoved p m after (coded ended)) := by
  have moved := (Reporting.of_settled (k := _) hs id).moveMotor (p := p) (m := m) (k := 0) hc rfl
  rw [← hf] at moved
  have kept : (s.motorMoved p m after (coded ended)).reflexes = s.reflexes := (State.motorMoved_poolOnly ..).reflexes
  rw [moved.run hs, State.withReflexes_of_eq kept]

/-- A motor command whose request passes its checks. -/
theorem run_takesMotion {code : Byte} {request : Option MotionRequest} {r : MotionRequest}
    {ended : List (Segment × SegOutcome)} (hs : s.settled) (hr : request = some r) (h : s.takesMotion p m)
    (hl : ∀ g, r = .append g → m.queue.length < 4) (hz : r = .zero → m.executing = false)
    (ht : m.take (s.classes.get m.cls).ratedMax r = (after, ended)) (hc : after.SilentEnd ended ∨ s.reports) :
    run (linkMotorCommand p o code request) s = .next (s.motorMoved p m after (coded ended)) := by
  refine run_moveMotor hs hc ?_
  subst hr
  simp only [linkMotorCommand, h.1, motionRefusal_none h hl hz, takeMotion, ht]

/-- The segments of a silent motor end in silence. -/
theorem Motor.silent.silentEnd {a : SegOutcome} {b : Bool} (h : m.silent) (hr : after.settings = m.settings) :
    after.SilentEnd (if b then endedAll m.queue a else []) := by
  refine ⟨by rw [hr]; exact h.1, ?_⟩
  split
  · exact endedAll_silent h.2
  · simp

theorem Motor.silent.silentMove (h : m.silent) (hr : after.settings = m.settings) : after.SilentEnd [] :=
  ⟨by rw [hr]; exact h.1, by simp⟩

/-- A quadrature step, in the terms of the statements (R115). -/
theorem Motor.encoderStep_eq (m : Motor) {forward : Bool} {n : Int} (hn : n = if forward then m.encoder + 1 else m.encoder - 1) :
    m.encoderStep forward = if n.natAbs ≤ 2147000000 ∧ (n - m.offset).natAbs ≤ 2147000000 then { m with encoder := n }
      else { m with discardNoted := true } := by
  rw [Motor.encoderStep]
  rw [← hn]
  have bound : (positionBound < n.natAbs ∨ positionBound < (n - m.offset).natAbs) ↔
      ¬ (n.natAbs ≤ 2147000000 ∧ (n - m.offset).natAbs ≤ 2147000000) := by
    clear hn
    unfold positionBound
    omega
  simp only [Bool.or_eq_true, decide_eq_true_eq, bound, ite_not]

/-- Settles O46. -/
theorem motorCommandsActOnTheMotor : Obligations.MotorCommandsActOnTheMotor := by
  refine ⟨fun p o m s ht hcon hsil => ?_, by decide, by decide, by decide, by decide, by decide, by decide, by decide, by decide
    , by decide⟩
  intro rated ends becomes
  have hs : s.settled := hsil.elim (fun h => h.1) fun h => h.1.1
  have emptied (hx : m.executing = false) : m.queue = [] := by
    by_contra some
    rw [hcon.1.mpr some] at hx
    cases hx
  refine ⟨fun raw g hg => ?segments, fun a => ?aborts, fun hx => ?zeroes, fun forward => ?steps⟩
  case segments =>
    intro h
    have append {after : Motor} (hl : m.queue.length < 4) (hset : after.settings = m.settings)
        (hmove : m.take rated (.append g) = (after, [])) : becomes (.append p o raw) after := by
      have hr : (parseSegment raw).map MotionRequest.append = some (.append g) := by rw [hg]; rfl
      exact run_takesMotion (code := 1) hs hr ht (fun _ _ => hl) (by simp) hmove
        (hsil.imp_left fun h => h.2.silentMove hset)
    have replace {after : Motor} {ended : List (Segment × SegOutcome)} (hset : after.SilentEnd ended ∨ s.reports)
        (hmove : m.take rated (.replace g) = (after, ended)) : ends (.replace p o raw) after (coded ended) := by
      have hr : (parseSegment raw).map MotionRequest.replace = some (.replace g) := by rw [hg]; rfl
      exact run_takesMotion (code := 2) hs hr ht (by simp) (by simp) hmove hset
    have rests (hx : m.executing = false) : m.queue.length < 4 := by rw [emptied hx]; decide
    refine ⟨fun hx hl => append hl rfl ?_, fun hx hh => append (rests hx) rfl ?_, fun hh => ?_, fun hx => ?_, fun hx hh => ?_⟩
    · simp only [Motor.take, hx, if_true]
      rfl
    · simp only [Motor.take, hx, hh, decide_false, Bool.false_eq_true, if_false, Motor.start_measured]
      rfl
    · have hx : m.executing = false := by simp [Motor.executing, hh]
      refine append (rests hx) rfl ?_
      simp only [Motor.take, hx, hh, decide_true, Bool.false_eq_true, if_false, Motor.start_continuous]
      rfl
    · have moves : m.take rated (.replace g) = (m.startingContinuous rated [h] h,
          if m.executing then endedAll m.queue .superseded else []) := by
        have continuous : (m.executing || decide (m.state = .holding)) = true := by simpa using hx
        simp only [Motor.take, continuous, Motor.start_continuous]
        rfl
      have ended : coded (if m.executing then endedAll m.queue .superseded else []) = segmentsEnd 1 m.queue := by
        cases x : m.executing with
        | true => exact coded_endedAll ..
        | false => rw [emptied x]; rfl
      rw [← ended]
      exact replace (hsil.imp_left fun h => h.2.silentEnd rfl) moves
    · refine replace (ended := []) (hsil.imp_left fun h => h.2.silentMove rfl) ?_
      simp only [Motor.take, hx, hh, decide_false, Bool.or_self, Bool.false_eq_true, if_false, Motor.start_measured]
      rfl
  case aborts =>
    intro c
    have code : EndAction.ofCode (BitVec.ofNat 8 a.code).toNat = some a := by cases a <;> rfl
    have abort {after : Motor} {ended : List (Segment × SegOutcome)} (hset : after.SilentEnd ended ∨ s.reports)
        (hmove : m.take rated (.abort a) = (after, ended)) : ends c after (coded ended) := by
      have hr : (EndAction.ofCode (BitVec.ofNat 8 a.code).toNat).map MotionRequest.abort = some (.abort a) := by rw [code]; rfl
      exact run_takesMotion (code := 3) hs hr ht (by simp) (by simp) hmove hset
    refine ⟨fun g rest hx hq => ?_, fun hx hh => ?_, fun hh ha => ?_, fun hx hh ha => ?_⟩
    · rw [← show coded (endedAll m.queue .aborted) = segmentsEnd 3 m.queue from coded_endedAll ..]
      refine abort (hsil.imp_left fun h => ⟨by rw [← Motor.endWith_eq, Motor.endWith_settings]; exact h.2.1, endedAll_silent h.2.2⟩) ?_
      have accel : m.headAccel = g.accel := by rw [Motor.headAccel, hq]
      simp only [Motor.take, hx, if_true, accel, Motor.endWith_eq]
    · have silent {after : Motor} (hset : after.settings = m.settings) : after.SilentEnd [] ∨ s.reports :=
        hsil.imp_left fun h => h.2.silentMove hset
      cases a with
      | hold => exact absurd rfl hh
      | coast =>
        refine abort (after := m.endedWith .coast 0) (ended := []) (silent rfl) ?_
        simp only [Motor.take, hx, Bool.false_eq_true, if_false]
        rfl
      | brake =>
        refine abort (after := m.endedWith .brake 0) (ended := []) (silent rfl) ?_
        simp only [Motor.take, hx, Bool.false_eq_true, if_false]
        rfl
    · subst ha
      have hx : m.executing = false := by simp [Motor.executing, hh]
      refine abort (hsil.imp_left fun h => h.2.silentMove rfl) ?_
      simp only [Motor.take, hx, Bool.false_eq_true, if_false, hh, if_true]
    · subst ha
      refine abort (after := m.holdMeasured rated) (ended := []) (hsil.imp_left fun h => h.2.silentMove rfl) ?_
      simp only [Motor.take, hx, Bool.false_eq_true, if_false, hh]
  case zeroes =>
    exact run_takesMotion (code := 4) (r := .zero) (ended := []) hs rfl ht (by simp) (fun _ => hx) rfl
      (hsil.imp_left fun h => h.2.silentMove rfl)
  case steps =>
    intro n
    have counted := m.encoderStep_eq (forward := forward) (n := n) rfl
    have acts : onMotor p (fun m s => s.setMotor p (some (m.encoderStep forward))) s = s.setMotor p (some (m.encoderStep forward)) :=
      onMotor_some ht.1
    have same : s.motorMoved p m (m.encoderStep forward) [] = s.setMotor p (some (m.encoderStep forward)) := by
      have state : m.state = (m.encoderStep forward).state := by rw [counted]; split <;> rfl
      rw [State.motorMoved_eq]
      exact if_pos state
    rw [← counted]
    exact (run_eq_of_nil hs acts hs.2).trans (congrArg _ same.symm)

end Sys2Proof.Machine
end

section
/-!
The voice unit (chapter 09): the start and the end of a note, the release of a stream queue and the notices of the notes that
end, beside the writes of S3 that wait.
-/
namespace Sys2Proof.Machine

variable {s t u : State} {k : Nat} {v : VoiceId} {n : Note} {rest : List Note}

/-! ## Voices and the pool -/

theorem State.setVoice_setVoice (t : State) (v : VoiceId) (r r' : Voice) : (t.setVoice v r).setVoice v r' = t.setVoice v r' := by
  have : ∀ i : Fin 4, (t.voices.set i r).set i r' = t.voices.set i r'
    | 0 | 1 | 2 | 3 => rfl
  simp only [State.setVoice, this]

theorem State.setVoice_voice (t : State) (v : VoiceId) : t.setVoice v (t.voice v) = t := by
  have : ∀ i : Fin 4, t.voices.set i (t.voices.get i) = t.voices
    | 0 | 1 | 2 | 3 => rfl
  show { t with voices := t.voices.set v (t.voices.get v) } = t
  rw [this]

theorem State.handed_setVoice (t : State) (v : VoiceId) (r : Voice) (l : Link) (f : Frame) :
    (t.setVoice v r).handed l f = (t.handed l f).setVoice v r := by
  unfold State.handed
  dsimp only
  rw [apply_ite (State.setVoice · v r), apply_ite (State.setVoice · v r)]
  rfl

theorem State.notice_setVoice (t : State) (v : VoiceId) (r : Voice) (route : Option Endpoint) (tag : Byte) (p : List Byte) :
    (t.setVoice v r).notice route tag p = (t.notice route tag p).setVoice v r := by
  cases route with
  | none => rfl
  | some e => exact t.handed_setVoice ..

theorem State.notesReported_setVoice (v w : VoiceId) (r : Voice) (ended : List (Note × Byte)) (t : State) :
    (t.setVoice v r).notesReported w ended = (t.notesReported w ended).setVoice v r := by
  induction ended generalizing t with
  | nil => rfl
  | cons e ended ih =>
    have first := t.notice_setVoice v r e.1.route e.1.tag ([5, BitVec.ofNat 8 w.val, e.1.tag, e.2] ++ le32 t.hubTime)
    rw [show (t.setVoice v r).notesReported w (e :: ended) = ((t.setVoice v r).notice e.1.route e.1.tag
      ([5, BitVec.ofNat 8 w.val, e.1.tag, e.2] ++ le32 t.hubTime)).notesReported w ended from rfl, first, ih]
    rfl

theorem State.notesReported_poolOnly (w : VoiceId) (ended : List (Note × Byte)) (t : State) :
    PoolOnly t (t.notesReported w ended) := by
  induction ended generalizing t with
  | nil => exact .refl t
  | cons e ended ih => exact (t.notice_poolOnly ..).trans (ih _)

theorem State.notesReported_voice (w v : VoiceId) (ended : List (Note × Byte)) (t : State) :
    (t.notesReported w ended).voice v = t.voice v := by
  obtain ⟨_, _, _, _, e⟩ := t.notesReported_poolOnly w ended
  rw [e]
  rfl

/-- `t` after the frames `fs` of a voice were freed as one release (R15). -/
def State.framesFreed (t : State) (fs : List Frame) : State :=
  if fs = [] then t else t.afterRelease (fs.map Frame.pages).sum

theorem State.framesFreed_setVoice (t : State) (v : VoiceId) (r : Voice) (fs : List Frame) :
    (t.setVoice v r).framesFreed fs = (t.framesFreed fs).setVoice v r := by
  unfold State.framesFreed
  split <;> rfl

theorem State.framesFreed_voice (t : State) (v : VoiceId) (fs : List Frame) : (t.framesFreed fs).voice v = t.voice v := by
  unfold State.framesFreed
  split <;> rfl

theorem pagesOfAll_ne_zero {fs : List Frame} (h : fs ≠ []) : pagesOfAll fs ≠ 0 := by
  cases fs with
  | nil => exact absurd rfl h
  | cons f fs =>
    have := pagesOf_pos f.payload.length
    rw [pagesOfAll_cons]
    show f.pages + _ ≠ 0
    unfold Frame.pages
    omega

/-- The frames of a stream queue and free are at most 128 pages. -/
theorem State.conserved.free_add_stream_le (hc : s.conserved) (v : VoiceId) : s.free + pagesOfAll (s.voice v).stream ≤ 128 := by
  have all : ∀ w : Fin 4, pagesOfAll (s.voice w).stream ≤ pagesOfAll (s.voice 0).stream + pagesOfAll (s.voice 1).stream +
      pagesOfAll (s.voice 2).stream + pagesOfAll (s.voice 3).stream := by
    rw [Fin.forall_fin_succ, Fin.forall_fin_succ, Fin.forall_fin_two]
    simp only [Fin.succ_zero_eq_one, Fin.succ_one_eq_two]
    refine ⟨by omega, by omega, by omega, ?_⟩
    show pagesOfAll (s.voice 3).stream ≤ _
    omega
  have := all v
  simp only [State.conserved, State.poolTotal, State.storedPages] at hc
  omega

/-! ## The start of a note (R142, R159, R160) -/

theorem Voice.startNote_enterPlaying {r : Voice} (h : r.notes = n :: rest) (envs : Vector Envelope 8) (now : Time) :
    r.startNote.enterPlaying envs now = r.playing (n :: rest) n (envs.get n.envelope) now := by
  cases hk : n.kind with
  | rest => simp [Voice.startNote, Voice.enterPlaying, Voice.playing, h, hk]
  | stream => simp [Voice.startNote, Voice.enterPlaying, Voice.playing, h, hk]
  | tone =>
    by_cases ha : (envs.get n.envelope).attack = 0
    · by_cases hd : (envs.get n.envelope).decay = 0 <;>
        simp [Voice.startNote, Voice.enterPlaying, Voice.playing, Voice.enterDecay, Envelope.sustainLevel, fullLevel,
          toneIncrement, h, hk, ha, hd]
    · simp [Voice.startNote, Voice.enterPlaying, Voice.playing, toneIncrement, h, hk, ha]

theorem Voice.startNote_waiting {r : Voice} (h : r.notes = n :: rest) :
    { r.startNote with state := .waitingAmp } = r.awaiting (n :: rest) n := by
  cases hk : n.kind <;> simp [Voice.startNote, Voice.awaiting, Voice.playing, toneIncrement, h, hk]

theorem startNote_eq (h : (t.voice v).notes = n :: rest) : startNote v t = t.noteStarted v (n :: rest) n := by
  rw [startNote, Voice.startNote_enterPlaying h, Voice.startNote_waiting h, State.noteStarted]
  cases ha : t.amp with
  | on => rfl
  | off =>
    simp only [reduceCtorEq, if_false, askWarmup, State.setVoice_amp, ha, State.setVoice_supply]
    by_cases hc : t.supply.state = .critical
    · simp only [hc, if_true, ← ha]
    · simp only [hc, if_false]
      rfl
  | warming w => simp only [reduceCtorEq, if_false, askWarmup, State.setVoice_amp, ha]

/-- What a voice held as notes has no part in the start of another queue. -/
theorem State.noteStarted_setVoice (t : State) (v : VoiceId) (r : Voice) (q q' : List Note) (n : Note) :
    (t.setVoice v { r with notes := q }).noteStarted v q' n = (t.setVoice v r).noteStarted v q' n := by
  have playing (e : Envelope) : ({ r with notes := q } : Voice).playing q' n e t.hubTime = r.playing q' n e t.hubTime := rfl
  have awaiting : ({ r with notes := q } : Voice).awaiting q' n = r.awaiting q' n := rfl
  unfold State.noteStarted
  rw [State.setVoice_amp, State.setVoice_amp, State.voice_setVoice_same, State.voice_setVoice_same, State.setVoice_hubTime,
    State.setVoice_hubTime, State.setVoice_envelopes, State.setVoice_envelopes, State.setVoice_supply, State.setVoice_supply,
    playing, awaiting, State.setVoice_setVoice, State.setVoice_setVoice, State.setVoice_setVoice, State.setVoice_setVoice]

theorem State.noteStarted_withWrites (t : State) (ws : List Write) (v : VoiceId) (q : List Note) (n : Note) :
    (t.withWrites ws).noteStarted v q n = (t.noteStarted v q n).withWrites ws := by
  simp only [State.noteStarted, show (t.withWrites ws).amp = t.amp from rfl]
  split <;> rfl

theorem State.noteStarted_keeps (t : State) (v : VoiceId) (q : List Note) (n : Note) :
    ∃ voices timer amp, t.noteStarted v q n = { t with voices := voices, idleTimer := timer, amp := amp } := by
  unfold State.noteStarted
  split
  · exact ⟨_, _, t.amp, rfl⟩
  · exact ⟨_, _, _, rfl⟩
  · exact ⟨_, _, t.amp, rfl⟩

/-! ## A voice that rests (R149, R160) -/

theorem allIdle_iff : allIdle t = true ↔ ∀ w : VoiceId, (t.voice w).state = .idle := by
  simp only [allIdle, allVoices, List.all_eq_true, decide_eq_true_eq]
  exact ⟨fun h w => h w (by revert w; decide), fun h w _ => h w⟩

theorem becomeIdle_eq (v : VoiceId) (t : State) : becomeIdle v t = t.voiceRests v (t.voice v) := by
  simp only [becomeIdle, startIdleTimer, State.voiceRests, Bool.and_eq_true, decide_eq_true_eq, allIdle_iff]
  rfl

/-- What a voice held as notes and in what state it was has no part in its rest. -/
theorem State.voiceRests_setVoice (t : State) (v : VoiceId) (r r' : Voice) :
    (t.setVoice v r).voiceRests v r' = t.voiceRests v r' := by
  simp only [State.voiceRests, State.setVoice_setVoice]

theorem State.voiceRests_withWrites (t : State) (ws : List Write) (v : VoiceId) (r : Voice) :
    (t.withWrites ws).voiceRests v r = (t.voiceRests v r).withWrites ws := by
  unfold State.voiceRests
  dsimp only
  rw [apply_ite (State.withWrites · ws), apply_ite (State.withWrites · ws)]
  rfl

theorem State.voiceRests_keeps (t : State) (v : VoiceId) (r : Voice) :
    ∃ voices timer amp speaker,
      t.voiceRests v r = { t with voices := voices, idleTimer := timer, amp := amp, speaker := speaker } := by
  unfold State.voiceRests
  dsimp only
  split
  · split
    · exact ⟨_, _, _, _, rfl⟩
    · exact ⟨_, _, t.amp, t.speaker, rfl⟩
  · exact ⟨_, t.idleTimer, t.amp, t.speaker, rfl⟩

/-! ## Within a command -/

/-- `u` is `t` with writes of S3 that wait, within a command that began at `s`; where `s` is quiet `k` pages more fit into free. -/
structure Sounding (s : State) (k : Nat) (t u : State) : Prop where
  awaits : Awaits t u
  still : ¬ s.quiet → u = t
  room : s.quiet → t.free + k ≤ 128
  progress : t.mgmt.inProgress = s.mgmt.inProgress
  reflexes : t.reflexes = s.reflexes
  subs : t.subs = s.subs
  settled : t.unobserved = []

theorem Sounding.of_settled (hs : s.settled) (hk : s.conserved → s.free + k ≤ 128) : Sounding s k s s where
  awaits := .of_nil hs.2
  still _ := rfl
  room hq := hk hq.2.1
  progress := rfl
  reflexes := rfl
  subs := rfl
  settled := hs.2

/-- A command that frees no frame. -/
theorem Sounding.begins (hs : s.settled) : Sounding s 0 s s := .of_settled hs fun hc => hc.free_le

/-- An operation on the voices and the amplifier alone. -/
theorem Sounding.map {f : State → State} (h : Sounding s k t u) (hf : ∀ ws, f (t.withWrites ws) = (f t).withWrites ws)
    (keeps : ∃ voices timer amp speaker,
      f t = { t with voices := voices, idleTimer := timer, amp := amp, speaker := speaker }) : Sounding s k (f t) (f u) := by
  obtain ⟨voices, timer, amp, speaker, e⟩ := keeps
  refine ⟨h.awaits.map hf, fun hn => congrArg f (h.still hn), ?_, ?_, ?_, ?_, ?_⟩
  all_goals rw [e]
  exacts [h.room, h.progress, h.reflexes, h.subs, h.settled]

theorem Sounding.setVoice (h : Sounding s k t u) (v : VoiceId) (r : Voice) : Sounding s k (t.setVoice v r) (u.setVoice v r) :=
  h.map (f := (State.setVoice · v r)) (fun _ => rfl) ⟨_, t.idleTimer, t.amp, t.speaker, rfl⟩

theorem Sounding.voice (h : Sounding s k t u) (v : VoiceId) : u.voice v = t.voice v := by
  obtain ⟨ws, -, rfl⟩ := h.awaits
  rfl

theorem Sounding.hubTime (h : Sounding s k t u) : u.hubTime = t.hubTime := by
  obtain ⟨ws, -, rfl⟩ := h.awaits
  rfl

theorem Sounding.startNote (h : Sounding s k t u) (hn : (t.voice v).notes = n :: rest) :
    Sounding s k (t.noteStarted v (n :: rest) n) (Machine.startNote v u) := by
  rw [startNote_eq ((congrArg Voice.notes (h.voice v)).trans hn)]
  obtain ⟨voices, timer, amp, e⟩ := t.noteStarted_keeps v (n :: rest) n
  exact h.map (f := (State.noteStarted · v (n :: rest) n)) (fun _ => State.noteStarted_withWrites ..)
    ⟨voices, timer, amp, t.speaker, e⟩

theorem Sounding.becomeIdle (h : Sounding s k t u) (v : VoiceId) :
    Sounding s k (t.voiceRests v (t.voice v)) (Machine.becomeIdle v u) := by
  rw [becomeIdle_eq, h.voice]
  exact h.map (f := (State.voiceRests · v (t.voice v))) (fun _ => State.voiceRests_withWrites ..) (t.voiceRests_keeps ..)

theorem Sounding.sendNotice {route : Option Endpoint} {tag : Byte} {p : List Byte} (h : Sounding s k t u)
    (hc : route = none ∨ s.reports) : Sounding s k (t.notice route tag p) (Machine.sendNotice route tag p u) := by
  cases route with
  | none => exact h
  | some e =>
    obtain ⟨hq, idle⟩ := hc.resolve_left (by simp)
    have room := h.room hq
    obtain ⟨mgmt, subs, unobserved, le, -, -⟩ := t.handed_keeps e.link
      { channel := e.channel, kind := .notice, flags := 1, tag := tag, payload := p }
    exact ⟨h.awaits.placeUrgent (h.progress.trans idle) (by omega), fun hn => absurd hq hn
      , fun _ => Nat.le_trans (Nat.add_le_add_right le k) room, (congrArg _ mgmt).trans h.progress
      , (t.handed_poolOnly ..).reflexes.trans h.reflexes, subs.trans h.subs, unobserved.trans h.settled⟩

/-- Ended notes with the codes of their outcomes (R149, R199). -/
def notesCoded (ended : List (Note × SegOutcome)) : List (Note × Byte) := ended.map fun e => (e.1, u8 e.2.code)

theorem notesCoded_endedNotes (q : List Note) (o : SegOutcome) : notesCoded (endedNotes q o) = notesEnd (u8 o.code) q := by
  cases q with
  | nil => rfl
  | cons n rest =>
    simp only [notesCoded, endedNotes, notesEnd, List.map_cons, List.map_map]
    rfl

theorem Sounding.reportNotes {ended : List (Note × SegOutcome)} (hc : (∀ e ∈ ended, e.1.route = none) ∨ s.reports)
    (h : Sounding s k t u) : Sounding s k (t.notesReported v (notesCoded ended)) (Machine.reportNotes v ended u) := by
  induction ended generalizing t u with
  | nil => exact h
  | cons e ended ih =>
    have told := h.sendNotice (route := e.1.route) (tag := e.1.tag) (p := noteEndPayload v e.1.tag e.2 t.hubTime)
      (hc.imp_left fun hs => hs e (by simp))
    have behind := ih (hc.imp_left fun hs e he => hs e (by simp [he])) told
    rw [show Machine.reportNotes v (e :: ended) u = Machine.reportNotes v ended
      (Machine.sendNotice e.1.route e.1.tag (noteEndPayload v e.1.tag e.2 u.hubTime) u) from rfl, h.hubTime]
    exact behind

theorem State.reviewBoth_free_le (t : State) : (reviewBoth t).free ≤ t.free :=
  Nat.le_trans (Nat.sub_le ..) (Nat.sub_le ..)

theorem Sounding.release {fs : List Frame} (h : Sounding s (pagesOfAll fs + k) t u) (hq : fs = [] ∨ s.quiet) :
    Sounding s k (t.framesFreed fs) (Machine.release (pagesOfAll fs) u) := by
  by_cases he : fs = []
  · subst he
    exact ⟨h.awaits, h.still, fun hq => Nat.le_trans (by show t.free + k ≤ _; omega) (h.room hq), h.progress, h.reflexes, h.subs
      , h.settled⟩
  · have quiet := hq.resolve_left he
    have room := h.room quiet
    rw [State.framesFreed, if_neg he, show (fs.map Frame.pages).sum = pagesOfAll fs from rfl]
    refine ⟨h.awaits.release (pagesOfAll_ne_zero he) (by omega), fun hn => absurd quiet hn, fun _ => ?_, h.progress, h.reflexes
      , h.subs, h.settled⟩
    have : ((t.afterRelease (pagesOfAll fs)).free) ≤ t.free + pagesOfAll fs := State.reviewBoth_free_le (t.withPages _)
    show (t.afterRelease (pagesOfAll fs)).free + k ≤ 128
    omega

/-- The frames of a stream queue behind the first `i` are freed (R144 to R146). -/
theorem Sounding.freeStream {i : Nat} (h : Sounding s (pagesOfAll ((t.voice v).stream.drop i) + k) t u)
    (hq : (t.voice v).stream = [] ∨ s.quiet) :
    Sounding s k ((t.framesFreed ((t.voice v).stream.drop i)).setVoice v
      { t.voice v with stream := (t.voice v).stream.take i }) (Machine.freeStream i v u) := by
  rw [Machine.freeStream, h.voice, ← State.framesFreed_setVoice]
  exact (h.setVoice v _).release (hq.imp_left fun e => by rw [e, List.drop_nil])

/-! ## The end of a note (R148, R149) -/

/-- `t` after the current note `n` of a voice ended with the notes `rest` behind it: it goes to the tail of its queue, or is
reported with a code. -/
def State.noteEnded (t : State) (v : VoiceId) (n : Note) (rest : List Note) (again : Bool) (code : Byte) : State :=
  if again then t.pastNote v (rest ++ [n]) else (t.notesReported v [(n, code)]).pastNote v rest

theorem State.pastNote_eq (t : State) (v : VoiceId) (r : Voice) (hn : q = n :: rest) :
    (t.setVoice v r).pastNote v q = (t.setVoice v r).noteStarted v (n :: rest) n := by subst hn; rfl

theorem Sounding.pastNote_start {q : List Note} (h : Sounding s k t u) (hq : q ≠ []) :
    Sounding s k (t.pastNote v q) (Machine.startNote v (u.setVoice v { u.voice v with notes := q })) := by
  obtain ⟨n, rest, rfl⟩ := List.exists_cons_of_ne_nil hq
  have started := (h.setVoice v { t.voice v with notes := n :: rest }).startNote (v := v) (n := n) (rest := rest)
    (by rw [State.voice_setVoice_same])
  rw [State.noteStarted_setVoice, State.setVoice_voice] at started
  rw [h.voice]
  exact started

theorem Sounding.endNote {o : SegOutcome} (h : Sounding s k t u) (hn : (t.voice v).notes = n :: rest)
    (hc : n.route = none ∨ s.reports) :
    Sounding s k (t.noteEnded v n rest (decide (o = .completed) && (t.voice v).loopOn) (u8 o.code)) (Machine.endNote v o u) := by
  have hn' : (u.voice v).notes = n :: rest := (congrArg Voice.notes (h.voice v)).trans hn
  simp only [Machine.endNote, hn', State.noteEnded]
  rw [h.voice]
  by_cases again : (decide (o = .completed) && (t.voice v).loopOn) = true
  · rw [if_pos again, if_pos again, ← h.voice v]
    exact h.pastNote_start (by simp)
  · rw [if_neg again, if_neg again]
    have told := (h.setVoice v { t.voice v with notes := rest }).reportNotes (v := v) (ended := [(n, o)])
      (hc.imp_left fun e => by simpa using e)
    by_cases last : rest = []
    · subst last
      rw [if_pos rfl]
      have idle := told.becomeIdle v
      rw [State.notesReported_setVoice, State.voice_setVoice_same, State.voiceRests_setVoice] at idle
      have keeps : (t.notesReported v (notesCoded [(n, o)])).voiceRests v { t.voice v with notes := [] } =
          (t.notesReported v [(n, u8 o.code)]).pastNote v [] := by
        rw [State.pastNote, State.notesReported_voice]
        rfl
      rw [keeps] at idle
      exact idle
    · rw [if_neg last]
      obtain ⟨m, more, rfl⟩ := List.exists_cons_of_ne_nil last
      have started := told.startNote (v := v) (n := m) (rest := more)
        (by rw [State.notesReported_voice, State.voice_setVoice_same])
      rw [State.notesReported_setVoice, State.noteStarted_setVoice, ← State.notesReported_setVoice, State.setVoice_voice] at started
      exact started

/-! ## The end of a command -/

theorem Sounding.run {f : State → State} (h : Sounding s k t (f s)) (hs : s.settled) : run f s = .next t := by
  by_cases hq : s.quiet
  · refine h.awaits.run hs h.settled ?_
    have := hq.2.2
    simpa only [State.ignores, State.reflex, State.sub, h.reflexes, h.subs] using this
  · exact run_eq_of_nil hs (h.still hq) h.settled

theorem Sounding.run_eq {f : State → State} {x : State} (h : Sounding s k t u) (hf : f s = u) (hs : s.settled) (ht : t = x) :
    Machine.run f s = .next x := by
  subst ht
  exact Sounding.run (by rw [hf]; exact h) hs

end Sys2Proof.Machine
end

section
/-!
The sound commands (O54, O55): QUEUE, PLAY, the stops, SET_GAIN and SET_LOOP.
-/
namespace Sys2Proof.Machine

variable {s t u : State} {k : Nat} {v : VoiceId} {o : Origin} {n : Note} {rest : List Note}

/-! ## Commands that pass their checks -/

theorem linkSoundCommand_taken {code : Byte} {q : SoundRequest} (h : soundRefusal v q s = none) :
    linkSoundCommand v o code (some q) s = takeSound v q s := by simp only [linkSoundCommand, h]

/-- Settles O54. -/
theorem queuePlacesOrStartsTheNote : Obligations.QueuePlacesOrStartsTheNote := by
  intro v o raw n s hs hc hn hl
  show run (linkSoundCommand v o 1 ((parseNote raw).map .queue)) s = _
  have taken : linkSoundCommand v o 1 ((parseNote raw).map .queue) s = queueNote v n s := by
    rw [hn]
    exact linkSoundCommand_taken (q := .queue n) (by simp only [soundRefusal, if_neg hc, if_neg (Nat.not_le.mpr hl)])
  by_cases first : (s.voice v).notes = []
  · have started := (Sounding.begins hs).pastNote_start (v := v) (q := [n]) (by simp)
    refine started.run_eq (taken.trans ?_) hs (by rw [if_pos first]; rfl)
    simp only [queueNote, first, if_true, List.nil_append]
  · refine ((Sounding.begins hs).setVoice v _).run_eq (taken.trans ?_) hs (if_neg first).symm
    simp only [queueNote, first, if_false]

/-! ## The notes and the frames of a voice that ends them (R144 to R146) -/

/-- `s` after the notes `ended` of a voice were reported and the frames behind the first `i` of its stream queue freed, with the
voice at `r`. -/
def State.voiceFreed (s : State) (v : VoiceId) (ended : List (Note × Byte)) (i : Nat) (r : Voice) : State :=
  ((s.notesReported v ended).framesFreed (r.stream.drop i)).setVoice v { r with stream := r.stream.take i }

/-- The picture of the statement. -/
theorem State.voiceFreed_eq (s : State) (v : VoiceId) (ended : List (Note × Byte)) (i : Nat) (r : Voice) :
    s.voiceFreed v ended i r =
      (if r.stream.drop i = [] then (s.notesReported v ended).setVoice v { r with stream := r.stream.take i }
        else ((s.notesReported v ended).setVoice v { r with stream := r.stream.take i }).afterRelease
          ((r.stream.drop i).map Frame.pages).sum) := by
  rw [State.voiceFreed, ← State.framesFreed_setVoice]
  rfl

/-- Where a voice stands in the end, only its stream queue has a part in what it frees. -/
theorem State.voiceFreed_setVoice {r r' : Voice} (h : r.stream = r'.stream) (s : State) (v : VoiceId) (i : Nat)
    (ended : List (Note × Byte)) (x : Voice) :
    (s.voiceFreed v ended i r).setVoice v x = (s.voiceFreed v ended i r').setVoice v x := by
  simp only [State.voiceFreed, State.setVoice_setVoice, h]

theorem State.setVoice_voiceFreed (s : State) (v : VoiceId) (ended : List (Note × Byte)) (i : Nat) (r x : Voice) :
    (s.setVoice v x).voiceFreed v ended i r = s.voiceFreed v ended i r := by
  simp only [State.voiceFreed, State.notesReported_setVoice, State.framesFreed_setVoice, State.setVoice_setVoice]

/-- The notes of a voice have no part in the start of another queue. -/
theorem State.voiceFreed_noteStarted (s : State) (v : VoiceId) (ended : List (Note × Byte)) (i : Nat) (r : Voice)
    (q q' : List Note) (n : Note) :
    (s.voiceFreed v ended i { r with notes := q }).noteStarted v q' n = (s.voiceFreed v ended i r).noteStarted v q' n :=
  State.noteStarted_setVoice _ v { r with stream := r.stream.take i } q q' n

theorem endedNotes_silent {q : List Note} (h : ∀ m ∈ q, m.route = none) (x : SegOutcome) :
    ∀ e ∈ endedNotes q x, e.1.route = none := by
  cases q with
  | nil => simp [endedNotes]
  | cons n rest => simpa [endedNotes] using h

/-- The frames behind the first `i` of a voice's stream queue are freed, of a voice that stands at `r`. -/
theorem Sounding.frees {i : Nat} {r : Voice} {ended : List (Note × SegOutcome)}
    (h : Sounding s (pagesOfAll (r.stream.drop i) + k) t u) (hq : r.stream = [] ∨ s.quiet)
    (hc : (∀ e ∈ ended, e.1.route = none) ∨ s.reports) :
    Sounding s k (t.voiceFreed v (notesCoded ended) i r)
      (Machine.freeStream i v (Machine.reportNotes v ended (u.setVoice v r))) := by
  have told := (h.setVoice v r).reportNotes (v := v) hc
  have stands : ((t.setVoice v r).notesReported v (notesCoded ended)).voice v = r := by
    rw [State.notesReported_voice, State.voice_setVoice_same]
  have freed := Sounding.freeStream (v := v) (i := i) (k := k) (by rw [stands]; exact told) (by rw [stands]; exact hq)
  rw [stands, State.notesReported_setVoice, State.framesFreed_setVoice, State.setVoice_setVoice] at freed
  exact freed

/-- Every note of a voice ends and its stream queue is freed (R145, R146, R161). -/
def State.silenced (s : State) (v : VoiceId) (outcome : Byte) (r : Voice) : State :=
  (s.voiceFreed v (notesEnd outcome r.notes) 0 r).voiceRests v { r with stream := [] }

theorem Sounding.silence {x : SegOutcome} (h : Sounding s (pagesOfAll (t.voice v).stream + k) t u)
    (hq : (t.voice v).stream = [] ∨ s.quiet) (hc : (t.voice v).silent ∨ s.reports) :
    Sounding s k (t.silenced v (u8 x.code) { t.voice v with loopOn := false }) (Machine.silence v x u) := by
  have freed := h.frees (i := 0) (v := v) (r := { t.voice v with loopOn := false, notes := [] }) hq
    (hc.imp_left fun hn => endedNotes_silent hn x)
  have idle := freed.becomeIdle v
  rw [← h.voice v] at idle ⊢
  rw [Machine.silence]
  convert idle using 1
  rw [State.silenced, ← notesCoded_endedNotes, State.voiceFreed, State.voiceFreed, State.voice_setVoice_same,
    State.voiceRests_setVoice, State.voiceRests_setVoice]
  rfl

theorem State.setVoice_silenced (s : State) (v : VoiceId) (x r : Voice) (c : Byte) :
    (s.setVoice v x).silenced v c r = s.silenced v c r := by rw [State.silenced, State.setVoice_voiceFreed]; rfl

/-- The notes behind the current one end FLUSHED, and the frames behind the first `i` are freed (R145). -/
theorem Sounding.flushBehind {i : Nat} {f : Voice → Voice} (hf : ∀ r, (f r).stream = r.stream)
    (h : Sounding s (pagesOfAll ((t.voice v).stream.drop i) + k) t u) (hn : (t.voice v).notes = n :: rest)
    (hq : (t.voice v).stream = [] ∨ s.quiet) (hc : (t.voice v).silent ∨ s.reports) :
    Sounding s k (t.voiceFreed v (rest.map fun m => (m, (2 : Byte))) i (f { t.voice v with notes := [n] }))
      (Machine.freeStream i v ((Machine.flushBehind v u).setVoice v (f ((Machine.flushBehind v u).voice v)))) := by
  have silent : (∀ e ∈ rest.map fun m => (m, SegOutcome.flushed), e.1.route = none) ∨ s.reports := by
    refine hc.imp_left fun hs e he => ?_
    obtain ⟨m, hm, rfl⟩ := List.mem_map.mp he
    exact hs m (by rw [hn]; exact List.mem_cons_of_mem _ hm)
  have flushed : Sounding s (pagesOfAll ((t.voice v).stream.drop i) + k)
      ((t.notesReported v (rest.map fun m => (m, (2 : Byte)))).setVoice v { t.voice v with notes := [n] })
      (Machine.flushBehind v u) := by
    have told := (h.setVoice v { t.voice v with notes := [n] }).reportNotes (v := v) silent
    have codes : notesCoded (rest.map fun m => (m, SegOutcome.flushed)) = rest.map fun m => (m, (2 : Byte)) := by
      simp only [notesCoded, List.map_map]
      rfl
    rw [codes, State.notesReported_setVoice] at told
    rw [Machine.flushBehind, h.voice, hn]
    exact told
  have stands := flushed.voice v
  rw [State.voice_setVoice_same] at stands
  rw [stands]
  have next := flushed.setVoice v (f { t.voice v with notes := [n] })
  rw [State.setVoice_setVoice] at next
  have freed := Sounding.freeStream (v := v) (i := i) (k := k) (s := s)
    (t := (t.notesReported v (rest.map fun m => (m, (2 : Byte)))).setVoice v (f { t.voice v with notes := [n] }))
    (by rw [State.voice_setVoice_same, hf]; exact next) (by rw [State.voice_setVoice_same, hf]; exact hq)
  rw [State.voice_setVoice_same, State.framesFreed_setVoice, State.setVoice_setVoice] at freed
  exact freed

/-! ## Commands on a voice -/

/-- STOP_RELEASE (R145) by the state of the voice and its current note. -/
theorem stopReleaseVoice_eq {r marked : Voice} (hr : s.voice v = r)
    (hm : marked = { r with loopOn := false, stopMarker := true }) :
    (r.state = .idle → stopReleaseVoice v s = freeStream 0 v (s.setVoice v marked)) ∧
    (r.state = .waitingAmp ∨ r.state = .starved → stopReleaseVoice v s = silence v .stopped (s.setVoice v marked)) ∧
    ∀ n rest, r.notes = n :: rest →
      (r.state = .playing → n.kind = .rest → stopReleaseVoice v s = silence v .stopped (s.setVoice v marked)) ∧
      (r.state = .playing → n.kind = .tone → stopReleaseVoice v s =
        if r.level = 0 ∨ (s.envelopes.get n.envelope).release = 0 then
          silence v .stopped ((s.setVoice v marked).setVoice v { marked with level := 0, envPhase := .release })
        else freeStream 0 v ((flushBehind v (s.setVoice v marked)).setVoice v
          { (flushBehind v (s.setVoice v marked)).voice v with state := .releasing, envPhase := .release })) ∧
      (r.state = .playing → n.kind = .stream → stopReleaseVoice v s =
        freeStream 1 v ((flushBehind v (s.setVoice v marked)).setVoice v
          { (flushBehind v (s.setVoice v marked)).voice v with state := .releasing })) ∧
      (r.state = .releasing → stopReleaseVoice v s =
        freeStream (if n.kind = .stream then 1 else 0) v (flushBehind v (s.setVoice v marked))) := by
  subst hr hm
  refine ⟨fun hi => ?_, fun hw => ?_, fun n rest hn => ⟨fun hp hk => ?_, fun hp hk => ?_, fun hp hk => ?_, fun hp => ?_⟩⟩
  · simp only [stopReleaseVoice, hi]
  · obtain hw | hw := hw <;> simp only [stopReleaseVoice, hw]
  · simp only [stopReleaseVoice, hp, hn, hk]
  · simp only [stopReleaseVoice, hp, hn, hk, currentEnvelope, State.voice_setVoice_same, State.setVoice_envelopes,
      Bool.or_eq_true, decide_eq_true_eq]
  · simp only [stopReleaseVoice, hp, hn, hk]
  · simp only [stopReleaseVoice, hp, hn]

/-- Settles O55. -/
theorem soundCommandsActOnTheVoice : Obligations.SoundCommandsActOnTheVoice := by
  intro v o s hs hc hq r off marked freed silenced
  have freed_eq (ended : List (Note × Byte)) (i : Nat) (x : Voice) : s.voiceFreed v ended i x = freed ended i x :=
    s.voiceFreed_eq v ended i x
  have silenced_eq (c : Byte) (x : Voice) : s.silenced v c x = silenced c x := by
    rw [State.silenced, freed_eq]
  have begins (i : Nat) : Sounding s (pagesOfAll (r.stream.drop i) + 0) s s :=
    .of_settled hs fun conserved => by
      have all : s.free + pagesOfAll r.stream ≤ 128 := conserved.free_add_stream_le v
      have : pagesOfAll (r.stream.drop i) ≤ pagesOfAll r.stream := by
        conv_rhs => rw [← List.take_append_drop i r.stream, pagesOfAll_append]
        exact Nat.le_add_left ..
      show s.free + (_ + 0) ≤ 128
      omega
  have from_voice {x : Voice} (i : Nat) (e : x.stream = r.stream) :
      Sounding s (pagesOfAll (((s.setVoice v x).voice v).stream.drop i) + 0) (s.setVoice v x) (s.setVoice v x) := by
    rw [State.voice_setVoice_same, e]
    exact (begins i).setVoice v x
  have frees {x : Voice} (i : Nat) (e : x.stream = r.stream) :
      Sounding s 0 (freed [] i x) (freeStream i v (s.setVoice v x)) := by
    have h := Sounding.frees (v := v) (r := x) (i := i) (ended := []) (k := 0) (by rw [e]; exact begins i)
      (e ▸ hq) (.inl (by simp))
    rw [← freed_eq]
    exact h
  have silences {x : Voice} (c : SegOutcome) (e : x.stream = r.stream) (en : x.notes = r.notes) :
      Sounding s 0 (silenced (u8 c.code) { x with loopOn := false }) (silence v c (s.setVoice v x)) := by
    have h := (from_voice 0 e).silence (v := v) (x := c) (by rw [State.voice_setVoice_same, e]; exact hq)
      (by rw [State.voice_setVoice_same, Voice.silent, en]; exact hc)
    rw [State.setVoice_silenced, State.voice_setVoice_same, silenced_eq] at h
    exact h
  have flushes {x : Voice} {n : Note} {rest : List Note} (f : Voice → Voice) (i : Nat) (hf : ∀ r, (f r).stream = r.stream)
      (e : x.stream = r.stream) (en : x.notes = r.notes) (hn : r.notes = n :: rest) :
      Sounding s 0 (freed (rest.map fun m => (m, 2)) i (f { x with notes := [n] }))
        (freeStream i v ((flushBehind v (s.setVoice v x)).setVoice v (f ((flushBehind v (s.setVoice v x)).voice v)))) := by
    have h := (from_voice i e).flushBehind (v := v) hf (by rw [State.voice_setVoice_same, en]; exact hn)
      (by rw [State.voice_setVoice_same, e]; exact hq) (by rw [State.voice_setVoice_same, Voice.silent, en]; exact hc)
    rw [State.setVoice_voiceFreed, State.voice_setVoice_same, freed_eq] at h
    exact h
  obtain ⟨idle, waits, holds⟩ := stopReleaseVoice_eq (s := s) (v := v) (r := r) (marked := marked) rfl rfl
  refine ⟨fun raw n hsup hn => ?play, ?cut, ⟨fun hi => ?_, fun hw => ?_, fun n rest hn => ?holds⟩, fun n rest g hi hn => ?gain
    , fun on => ?loop⟩
  case play =>
    show run (linkSoundCommand v o 2 ((parseNote raw).map .play)) s = _
    have taken : linkSoundCommand v o 2 ((parseNote raw).map .play) s = playNote v n s := by
      rw [hn]
      exact linkSoundCommand_taken (q := .play n) (if_neg hsup)
    have ends := (begins 0).frees (v := v) (r := { off with notes := [n] }) (ended := endedNotes r.notes .superseded) hq
      (hc.imp_left fun h => endedNotes_silent h _)
    have started := ends.startNote (v := v) (n := n) (rest := []) (by rw [State.voiceFreed, State.voice_setVoice_same])
    refine started.run_eq taken hs ?_
    rw [notesCoded_endedNotes, State.voiceFreed_noteStarted, freed_eq]
    rfl
  case cut =>
    show run (linkSoundCommand v o 4 (some .stopCut)) s = _
    have taken : linkSoundCommand v o 4 (some .stopCut) s = stopCutVoice v s := linkSoundCommand_taken rfl
    have same : s.setVoice v r = s := s.setVoice_voice v
    by_cases hi : r.state = .idle
    · rw [if_pos hi]
      have h := frees (x := r) 0 rfl
      rw [same] at h
      exact h.run_eq (taken.trans (if_pos hi)) hs rfl
    · rw [if_neg hi]
      have h := silences (x := r) .cut rfl rfl
      rw [same] at h
      exact h.run_eq (taken.trans (if_neg hi)) hs rfl
  case gain =>
    have taken : linkSoundCommand v o 5 (some (.setGain (min 256 g.toNat))) s = setGainVoice v (min 256 g.toNat) s :=
      linkSoundCommand_taken (q := .setGain _) (if_neg hi)
    refine ((Sounding.begins hs).setVoice v _).run_eq (f := linkSoundCommand v o 5 (some (.setGain (min 256 g.toNat))))
      (taken.trans ?_) hs rfl
    simp only [setGainVoice, show (s.voice v).notes = n :: rest from hn]
    rfl
  case loop =>
    have code : (SoundCommand.setLoop (if on then 1 else 0)).request = some (.setLoop on) := by cases on <;> rfl
    refine ((Sounding.begins hs).setVoice v { r with loopOn := on }).run_eq
      (f := linkSoundCommand v o 6 (SoundCommand.setLoop (if on then 1 else 0)).request) ?_ hs rfl
    rw [code]
    exact linkSoundCommand_taken (q := .setLoop on) rfl
  all_goals have taken : linkSoundCommand v o 3 (some .stopRelease) s = stopReleaseVoice v s := linkSoundCommand_taken rfl
  · exact (frees (x := marked) 0 rfl).run_eq (taken.trans (idle hi)) hs rfl
  · exact (silences (x := marked) .stopped rfl rfl).run_eq (taken.trans (waits hw)) hs rfl
  case holds =>
    obtain ⟨rests, sounds, streams, releases⟩ := holds n rest hn
    intro flushed
    refine ⟨fun hp hk => ?_, fun hp hk => ?_, fun hp hk => ?_, fun hp => ?_⟩
    · exact (silences (x := marked) .stopped rfl rfl).run_eq (taken.trans (rests hp hk)) hs rfl
    · intro e
      have act := taken.trans (sounds hp hk)
      by_cases out : r.level = 0 ∨ (s.envelopes.get n.envelope).release = 0
      · rw [if_pos out] at act ⊢
        rw [State.setVoice_setVoice] at act
        exact (silences (x := { e with level := 0 }) .stopped rfl rfl).run_eq act hs rfl
      · rw [if_neg out] at act ⊢
        exact (flushes (x := marked) (fun x => { x with state := .releasing, envPhase := .release }) 0 (fun _ => rfl) rfl rfl
          hn).run_eq act hs rfl
    · exact (flushes (x := marked) (fun x => { x with state := .releasing }) 1 (fun _ => rfl) rfl rfl hn).run_eq
        (taken.trans (streams hp hk)) hs rfl
    · refine (flushes (x := marked) id (if n.kind = .stream then 1 else 0) (fun _ => rfl) rfl rfl hn).run_eq
        (taken.trans ((releases hp).trans ?_)) hs rfl
      rw [id, State.setVoice_voice]

end Sys2Proof.Machine
end

section
/-!
The amplifier and the envelopes (O56): the warm-up and the idle-off, the steps and the duration of a note, and starvation.
-/
namespace Sys2Proof.Machine

variable {s t u : State} {k : Nat} {v : VoiceId} {n : Note} {rest : List Note}

/-! ## The amplifier (R142, R159, R160) -/

theorem Voice.warmed_of_ne {r : Voice} (h : r.state ≠ .waitingAmp) (envs : Vector Envelope 8) (now : Time) :
    r.warmed envs now = r := if_pos h

theorem Voice.warmed_of_waiting {r : Voice} (h : r.state = .waitingAmp) (envs : Vector Envelope 8) (now : Time) :
    r.warmed envs now = r.enterPlaying envs now := by
  rw [Voice.warmed, if_neg (not_not.mpr h), Voice.enterPlaying]
  cases r.notes with
  | nil => rfl
  | cons n rest =>
    by_cases tone : n.kind = .tone
    · by_cases ha : (envs.get n.envelope).attack = 0
      · by_cases hd : (envs.get n.envelope).decay = 0 <;>
          simp [tone, ha, hd, Voice.enterDecay, Envelope.sustainLevel, fullLevel]
      · simp [tone, ha]
    · simp [tone]

theorem leaveWaiting_eq (t : State) (v : VoiceId) :
    leaveWaiting t v = t.setVoice v ((t.voice v).warmed t.envelopes t.hubTime) := by
  by_cases h : (t.voice v).state = .waitingAmp
  · rw [Voice.warmed_of_waiting h]
    exact if_pos h
  · rw [Voice.warmed_of_ne h, State.setVoice_voice]
    exact if_neg h

/-- Every voice that waited plays (R159). -/
theorem leaveWaiting_all (t : State) :
    allVoices.foldl leaveWaiting t = { t with voices := t.voices.map fun r => r.warmed t.envelopes t.hubTime } := by
  simp only [allVoices, List.foldl_cons, List.foldl_nil, leaveWaiting_eq]
  rfl

theorem Voice.warmed_idle {r : Voice} {envs : Vector Envelope 8} {now : Time} :
    (r.warmed envs now).state = .idle ↔ r.state = .idle := by
  by_cases h : r.state = .waitingAmp
  · rw [Voice.warmed_of_waiting h, h]
    unfold Voice.enterPlaying Voice.enterDecay
    dsimp only
    split
    · split
      · split <;> simp
      · simp
    · simp
  · rw [Voice.warmed_of_ne h]

theorem Quad.forall_get {α : Type} {q : Quad α} {P : α → Prop} :
    (∀ i : Fin 4, P (q.get i)) ↔ P q.q0 ∧ P q.q1 ∧ P q.q2 ∧ P q.q3 :=
  ⟨fun h => ⟨h 0, h 1, h 2, h 3⟩, fun ⟨h0, h1, h2, h3⟩ i => match i with
    | 0 => h0
    | 1 => h1
    | 2 => h2
    | 3 => h3⟩

/-- The warm-up timer reaches 20 ms (R159). -/
theorem warmupEnds_eq {start : Time} (h : s.amp = .warming start) (late : 20 ≤ elapsedSince s.hubTime start) :
    warmupEnds s = startIdleTimer { s with amp := .on, voices := s.voices.map fun r => r.warmed s.envelopes s.hubTime } := by
  simp only [warmupEnds, h, late, if_true, leaveWaiting_all]

theorem allIdle_warmed (envs : Vector Envelope 8) (now : Time) :
    allIdle { s with amp := .on, voices := s.voices.map fun r => r.warmed envs now } = allIdle s := by
  refine Bool.eq_iff_iff.mpr ?_
  rw [allIdle_iff, allIdle_iff]
  refine (Quad.forall_get (q := s.voices.map fun r => r.warmed envs now) (P := fun r : Voice => r.state = .idle)).trans
    (Iff.trans ?_ (Quad.forall_get (q := s.voices) (P := fun r : Voice => r.state = .idle)).symm)
  simp only [Quad.map, Voice.warmed_idle]

/-- With every voice IDLE none waited. -/
theorem Quad.map_warmed_of_idle (h : ∀ w, (s.voice w).state = .idle) (envs : Vector Envelope 8) (now : Time) :
    s.voices.map (fun r => r.warmed envs now) = s.voices := by
  have same (w : VoiceId) : (s.voice w).warmed envs now = s.voice w := Voice.warmed_of_ne (by rw [h w]; simp) ..
  exact congr (congr (congr (congrArg Quad.mk (same 0)) (same 1)) (same 2)) (same 3)

/-! ## The end of a sounding note (R148, R153, R156) -/

/-- `t` after the current note of a voice that its release or its last frame ends: STOPPED where the stop marker is set, else
COMPLETED, and then in loop mode at the tail of its queue. -/
def State.noteSpent (t : State) (v : VoiceId) (n : Note) (rest : List Note) : State :=
  t.noteEnded v n rest ((t.voice v).loopOn && !(t.voice v).stopMarker) (if (t.voice v).stopMarker then 11 else 0)

theorem Sounding.noteSpent (h : Sounding s k t u) (hn : (t.voice v).notes = n :: rest) (hc : n.route = none ∨ s.reports) :
    Sounding s k (t.noteSpent v n rest) (Machine.endNote v (t.voice v).endOutcome u) := by
  have ended := h.endNote (o := (t.voice v).endOutcome) hn hc
  unfold Voice.endOutcome at ended ⊢
  unfold State.noteSpent
  cases hm : (t.voice v).stopMarker
  · rw [hm] at ended
    cases hl : (t.voice v).loopOn <;> rw [hl] at ended <;> exact ended
  · rw [hm] at ended
    cases hl : (t.voice v).loopOn <;> rw [hl] at ended <;> exact ended

/-- `t` after the duration of the TONE of a voice was reached (R153). -/
def State.durationReached (t : State) (v : VoiceId) (n : Note) (rest : List Note) (r : Voice) : State :=
  let released := { r with state := .releasing, envPhase := .release }
  if r.level = 0 ∨ (t.envelopes.get n.envelope).release = 0 then
    (t.setVoice v { released with level := 0 }).noteSpent v n rest
  else t.setVoice v released

theorem Sounding.reachDuration {j : Nat} (h : Sounding s k t u) (hn : (t.voice v).notes = n :: rest) (hk : n.kind = .tone)
    (hc : n.route = none ∨ s.reports) :
    Sounding s k (t.durationReached v n rest { t.voice v with elapsed := j }) (Machine.reachDuration v j u) := by
  have envelope : currentEnvelope v u = t.envelopes.get n.envelope := by
    obtain ⟨ws, -, rfl⟩ := h.awaits
    simp only [currentEnvelope, show ((t.withWrites ws).voice v).notes = n :: rest from hn]
    rfl
  simp only [Machine.reachDuration, h.voice, hn, hk, envelope, Bool.or_eq_true, decide_eq_true_eq]
  unfold State.durationReached
  dsimp only
  by_cases out : (t.voice v).level = 0 ∨ (t.envelopes.get n.envelope).release = 0
  · rw [if_pos out, if_pos out]
    have spent := (h.setVoice v { t.voice v with
      elapsed := j, state := .releasing, envPhase := .release, level := 0 }).noteSpent (v := v) (n := n) (rest := rest)
      (by rw [State.voice_setVoice_same]; exact hn) hc
    rw [State.voice_setVoice_same] at spent
    rw [← hn]
    exact spent
  · rw [if_neg out, if_neg out, ← hn]
    exact h.setVoice v _

/-! ## Steps (R152, R153) -/

theorem stepFalls_idle (h : reached s.hubTime (s.voice v).nextStep = false) : stepFalls v s = s := by
  simp only [stepFalls, h, Bool.and_false, Bool.false_eq_true, if_false]

theorem durationDue_idle (h : reached s.hubTime (s.voice v).nextStep = false) : durationDue v s = s := by
  unfold durationDue
  dsimp only
  split
  · simp only [h, Bool.and_false, Bool.false_eq_true, if_false]
  · rfl

/-- A step that is due (R152). -/
theorem stepFalls_due (hn : (s.voice v).notes = n :: rest) (hk : n.kind ≠ .stream)
    (hs : (s.voice v).state = .playing ∨ (s.voice v).state = .releasing) (due : reached s.hubTime (s.voice v).nextStep = true) :
    stepFalls v s = stepEnvelope v (s.setVoice v { s.voice v with nextStep := (s.voice v).nextStep + 1 }) := by
  have counts : (s.voice v).counts = true := by
    simp only [Voice.counts, hn, Bool.and_eq_true, Bool.or_eq_true, decide_eq_true_eq]
    exact ⟨hs, hk⟩
  simp only [stepFalls, counts, due, Bool.and_self, if_true]

theorem State.durationReached_setVoice (t : State) (v : VoiceId) (x r : Voice) (n : Note) (rest : List Note) :
    (t.setVoice v x).durationReached v n rest r = t.durationReached v n rest r := by
  simp only [State.durationReached, State.setVoice_setVoice, State.setVoice_envelopes]

theorem State.noteSpent_setVoice (t : State) (v : VoiceId) (x : Voice) (n : Note) (rest : List Note) :
    (t.setVoice v x).noteSpent v n rest =
      (t.setVoice v x).noteEnded v n rest (x.loopOn && !x.stopMarker) (if x.stopMarker then 11 else 0) := by
  rw [State.noteSpent, State.voice_setVoice_same]

section Phases

variable (r : Voice) (e : Envelope)

theorem Voice.envelopeStep_attack (h : r.envPhase = .attack) : r.envelopeStep e =
    if e.attack = 0 ∨ 65280 ≤ r.level + (65280 + e.attack - 1) / e.attack then
      if e.decay = 0 then { r with level := 256 * e.sustain, envPhase := .sustain }
      else { r with level := 65280, envPhase := .decay }
    else { r with level := r.level + (65280 + e.attack - 1) / e.attack } := by
  simp only [Voice.envelopeStep, h, Bool.or_eq_true, decide_eq_true_eq]
  rfl

theorem Voice.envelopeStep_decay (h : r.envPhase = .decay) : r.envelopeStep e =
    if r.level ≤ 256 * e.sustain then { r with envPhase := .sustain }
    else if e.decay = 0 ∨ r.level - (65280 - 256 * e.sustain + e.decay - 1) / e.decay ≤ 256 * e.sustain then
      { r with level := 256 * e.sustain, envPhase := .sustain }
    else { r with level := r.level - (65280 - 256 * e.sustain + e.decay - 1) / e.decay } := by
  simp only [Voice.envelopeStep, h, Bool.or_eq_true, decide_eq_true_eq]
  rfl

theorem Voice.envelopeStep_sustain (h : r.envPhase = .sustain) : r.envelopeStep e = r := by
  simp only [Voice.envelopeStep, h]

theorem Voice.envelopeStep_release (h : r.envPhase = .release) : r.envelopeStep e =
    if e.release = 0 then { r with level := 0 } else { r with level := r.level - (65280 + e.release - 1) / e.release } := by
  simp only [Voice.envelopeStep, h]
  rfl

end Phases

/-- A voice that counts a step, of which the next one falls 1 ms later (R152). -/
def Voice.counted (r : Voice) : Voice := { r with elapsed := r.elapsed + 1, nextStep := r.nextStep + 1 }

/-- A voice with another number of steps. -/
def Voice.withElapsed (r : Voice) (j : Nat) : Voice := { r with elapsed := j }

theorem Voice.envelopeStep_withElapsed (r : Voice) (e : Envelope) (j : Nat) :
    (r.envelopeStep e).withElapsed j = (r.withElapsed j).envelopeStep e := by
  obtain hp | hp | hp | hp : r.envPhase = .attack ∨ r.envPhase = .decay ∨ r.envPhase = .sustain ∨ r.envPhase = .release := by
    cases r.envPhase <;> simp
  · rw [Voice.envelopeStep_attack r e hp, Voice.envelopeStep_attack (r.withElapsed j) e hp
      , apply_ite (Voice.withElapsed · j), apply_ite (Voice.withElapsed · j)]
    rfl
  · rw [Voice.envelopeStep_decay r e hp, Voice.envelopeStep_decay (r.withElapsed j) e hp
      , apply_ite (Voice.withElapsed · j), apply_ite (Voice.withElapsed · j)]
    rfl
  · rw [Voice.envelopeStep_sustain r e hp, Voice.envelopeStep_sustain (r.withElapsed j) e hp]
  · rw [Voice.envelopeStep_release r e hp, Voice.envelopeStep_release (r.withElapsed j) e hp
      , apply_ite (Voice.withElapsed · j)]
    rfl

theorem Voice.envelopeStep_counted (r : Voice) (e : Envelope) :
    { { r with nextStep := r.nextStep + 1 }.envelopeStep e with elapsed := r.elapsed + 1 } = r.counted.envelopeStep e :=
  Voice.envelopeStep_withElapsed { r with nextStep := r.nextStep + 1 } e (r.elapsed + 1)

/-- An envelope step leaves the notes, the loop mode, the stop marker and the number of steps. -/
theorem Voice.envelopeStep_keeps (r : Voice) (e : Envelope) : (r.envelopeStep e).notes = r.notes ∧
    (r.envelopeStep e).loopOn = r.loopOn ∧ (r.envelopeStep e).stopMarker = r.stopMarker ∧
    (r.envelopeStep e).elapsed = r.elapsed := by
  unfold Voice.envelopeStep Voice.enterDecay
  repeat' split
  all_goals exact ⟨rfl, rfl, rfl, rfl⟩

/-- `s` after a step of the TONE that a voice at `r` plays, which takes the voice to `x`, and whose duration may be reached
(R152, R153). -/
def State.toneStepped (s : State) (v : VoiceId) (r : Voice) (n : Note) (rest : List Note) (x : Voice) : State :=
  let released := { x with state := .releasing, envPhase := .release }
  if r.elapsed + 1 ≠ n.duration then s.setVoice v x
  else if x.level = 0 ∨ (s.envelopes.get n.envelope).release = 0 then
    (s.setVoice v { released with level := 0 }).noteEnded v n rest (r.loopOn && !r.stopMarker) (if r.stopMarker then 11 else 0)
  else s.setVoice v released

section Step

variable (hs : s.settled) (hn : (s.voice v).notes = n :: rest) (hc : n.route = none ∨ s.reports)
  (due : reached s.hubTime (s.voice v).nextStep = true) (small : (s.voice v).elapsed < 65535)
include hs hn hc due small

/-- A step of a TONE that plays. -/
theorem stepFalls_tone {x : Voice} (hk : n.kind = .tone) (hp : (s.voice v).state = .playing)
    (hx : (s.voice v).counted.envelopeStep (s.envelopes.get n.envelope) = x) :
    run (stepFalls v) s = .next (s.toneStepped v (s.voice v) n rest x) := by
  have count : satAdd 65535 (s.voice v).elapsed 1 = (s.voice v).elapsed + 1 := by simp only [satAdd]; omega
  obtain ⟨notes, loopOn, stopMarker, elapsed⟩ : x.notes = (s.voice v).notes ∧ x.loopOn = (s.voice v).loopOn ∧
      x.stopMarker = (s.voice v).stopMarker ∧ x.elapsed = (s.voice v).elapsed + 1 :=
    hx ▸ Voice.envelopeStep_keeps (s.voice v).counted (s.envelopes.get n.envelope)
  have step : stepFalls v s = if (s.voice v).elapsed + 1 = n.duration then
      reachDuration v ((s.voice v).elapsed + 1) (s.setVoice v x) else s.setVoice v x := by
    rw [stepFalls_due hn (by simp [hk]) (.inl hp) due]
    simp only [stepEnvelope, State.voice_setVoice_same, hp, hn, hk, currentEnvelope, State.setVoice_envelopes, count,
      State.setVoice_setVoice]
    rw [← hp, ← hn, ← hx, ← Voice.envelopeStep_counted]
  have stands := (Sounding.begins hs).setVoice v x
  by_cases full : (s.voice v).elapsed + 1 = n.duration
  · rw [if_pos full] at step
    have reach := stands.reachDuration (v := v) (n := n) (rest := rest) (j := (s.voice v).elapsed + 1)
      (by rw [State.voice_setVoice_same, notes]; exact hn) hk hc
    refine reach.run_eq step hs ?_
    rw [State.voice_setVoice_same, State.durationReached_setVoice, ← elapsed, State.toneStepped, if_neg (not_not.mpr full),
      State.durationReached, State.noteSpent_setVoice]
    simp only [loopOn, stopMarker]
  · rw [if_neg full] at step
    exact stands.run_eq step hs (if_pos full).symm

/-- A step of a TONE in its release. -/
theorem stepFalls_release {x : Voice} (hk : n.kind = .tone) (hp : (s.voice v).state = .releasing)
    (hx : (s.voice v).counted.envelopeStep (s.envelopes.get n.envelope) = x) :
    run (stepFalls v) s = .next (if x.level = 0 then (s.setVoice v x).noteEnded v n rest
      ((s.voice v).loopOn && !(s.voice v).stopMarker) (if (s.voice v).stopMarker then 11 else 0) else s.setVoice v x) := by
  have count : satAdd 65535 (s.voice v).elapsed 1 = (s.voice v).elapsed + 1 := by simp only [satAdd]; omega
  obtain ⟨notes, loopOn, stopMarker, elapsed⟩ : x.notes = (s.voice v).notes ∧ x.loopOn = (s.voice v).loopOn ∧
      x.stopMarker = (s.voice v).stopMarker ∧ x.elapsed = (s.voice v).elapsed + 1 :=
    hx ▸ Voice.envelopeStep_keeps (s.voice v).counted (s.envelopes.get n.envelope)
  have step : stepFalls v s = if x.level = 0 then endNote v x.endOutcome (s.setVoice v x) else s.setVoice v x := by
    rw [stepFalls_due hn (by simp [hk]) (.inr hp) due]
    simp only [stepEnvelope, State.voice_setVoice_same, hp, hn, hk, currentEnvelope, State.setVoice_envelopes, count,
      State.setVoice_setVoice, if_true]
    rw [← hp, ← hn, ← hx, ← Voice.envelopeStep_counted]
  have stands := (Sounding.begins hs).setVoice v x
  by_cases silent : x.level = 0
  · rw [if_pos silent] at step ⊢
    have spent := stands.noteSpent (v := v) (n := n) (rest := rest)
      (by rw [State.voice_setVoice_same, notes]; exact hn) hc
    rw [State.voice_setVoice_same] at spent
    refine spent.run_eq step hs ?_
    rw [State.noteSpent_setVoice, loopOn, stopMarker]
  · rw [if_neg silent] at step ⊢
    exact stands.run_eq step hs rfl

/-- A step of a REST that plays. -/
theorem stepFalls_rest (hk : n.kind = .rest) (hp : (s.voice v).state = .playing) :
    run (stepFalls v) s = .next (if (s.voice v).elapsed + 1 = n.duration then
      (s.setVoice v (s.voice v).counted).noteEnded v n rest (s.voice v).loopOn 0 else s.setVoice v (s.voice v).counted) := by
  have count : satAdd 65535 (s.voice v).elapsed 1 = (s.voice v).elapsed + 1 := by simp only [satAdd]; omega
  have step : stepFalls v s = if (s.voice v).elapsed + 1 = n.duration then
      endNote v .completed (s.setVoice v (s.voice v).counted) else s.setVoice v (s.voice v).counted := by
    rw [stepFalls_due hn (by simp [hk]) (.inl hp) due]
    simp only [stepEnvelope, reachDuration, State.voice_setVoice_same, hp, hn, hk, count, State.setVoice_setVoice]
    rw [← hp, ← hn]
    rfl
  have stands := (Sounding.begins hs).setVoice v (s.voice v).counted
  by_cases full : (s.voice v).elapsed + 1 = n.duration
  · rw [if_pos full] at step ⊢
    refine (stands.endNote (n := n) (rest := rest) (by rw [State.voice_setVoice_same]; exact hn) hc).run_eq step hs ?_
    rw [State.voice_setVoice_same, decide_eq_true rfl, Bool.true_and]
    rfl
  · rw [if_neg full] at step ⊢
    exact stands.run_eq step hs rfl

/-- The step that is due is the one whose number is the duration of the current note (R153; log entry 5). -/
theorem durationDue_due (hk : n.kind ≠ .stream) (hp : (s.voice v).state = .playing) (full : (s.voice v).elapsed + 1 = n.duration) :
    durationDue v s = reachDuration v n.duration s := by
  have count : satAdd 65535 (s.voice v).elapsed 1 = n.duration := by simp only [satAdd]; omega
  simp only [durationDue, hp, hn, hk, count, due, ne_eq, not_false_eq_true, decide_true, Bool.and_self, if_true]

end Step

/-- Settles O56. -/
theorem amplifierAndEnvelopeAdvance : Obligations.AmplifierAndEnvelopeAdvance := by
  intro v s hs r
  refine ⟨fun t ht late idle on => ?_, fun t ht late ⟨w, awake⟩ => ?_, fun t ht late idle off => ?_, fun t ht early => ?_
    , fun t ha ht late => ?_, fun early => ⟨?_, ?_⟩, fun n rest hn hc due small => ?steps, fun n rest hst late hn hc => ?_⟩
  case steps =>
    intro e k steps ended spent sounded full
    have ended_eq (again : Bool) (code : Byte) (x : Voice) : ended again code x = (s.setVoice v x).noteEnded v n rest again code :=
      rfl
    refine ⟨fun hk => ?_, fun hk hp => ?_, fun hk hp hph => ?attack, fun hk hp hph => ?decay, fun hk hp hph => ?_
      , fun hk hp hph => ?release, fun hp hd => ?duration⟩
    case attack =>
      intro up
      exact stepFalls_tone hs hn hc due small hk hp (Voice.envelopeStep_attack k e hph)
    case decay =>
      intro down
      exact stepFalls_tone hs hn hc due small hk hp (Voice.envelopeStep_decay k e hph)
    case release =>
      intro down
      by_cases once : e.release = 0
      · refine (stepFalls_release hs hn hc due small hk hp ((Voice.envelopeStep_release k e hph).trans (if_pos once))).trans
          (congrArg _ ?_)
        exact (if_pos rfl).trans (if_pos (Or.inl once)).symm
      · refine (stepFalls_release hs hn hc due small hk hp ((Voice.envelopeStep_release k e hph).trans (if_neg once))).trans
          (congrArg _ ?_)
        by_cases out : down = 0
        · have low : ({ k with level := down } : Voice) = { k with level := 0 } :=
            congrArg (fun l => ({ k with level := l } : Voice)) out
          exact (if_pos out).trans ((congrArg (fun x => (s.setVoice v x).noteEnded v n rest (r.loopOn && !r.stopMarker)
            (if r.stopMarker then 11 else 0)) low).trans (if_pos (Or.inr out)).symm)
        · exact (if_neg out).trans (if_neg (not_or.mpr ⟨once, out⟩)).symm
    case duration =>
      intro reaches counted
      refine ⟨fun hk => ?_, fun hk => ?_⟩
      · intro released
        have reach := (Sounding.begins hs).reachDuration (v := v) (j := n.duration) hn hk hc
        refine reach.run_eq (f := durationDue v) (durationDue_due hs hn hc due small (by simp [hk]) hp hd) hs ?_
        rw [State.durationReached, State.noteSpent_setVoice]
        rfl
      · have step : durationDue v s = endNote v .completed (s.setVoice v counted) := by
          rw [durationDue_due hs hn hc due small (by simp [hk]) hp hd]
          simp only [reachDuration, show (s.voice v).notes = n :: rest from hn, hk, counted]
          rw [← hn]
        refine (((Sounding.begins hs).setVoice v counted).endNote (n := n) (rest := rest)
          (by rw [State.voice_setVoice_same]; exact hn) hc).run_eq (f := durationDue v) step hs ?_
        rw [State.voice_setVoice_same, decide_eq_true rfl, Bool.true_and]
        rfl
    · refine run_of_same (f := stepFalls v) hs ?_
      have counts : (s.voice v).counts = false := by
        simp only [Voice.counts, show (s.voice v).notes = n :: rest from hn, hk, ne_eq, not_true_eq_false, decide_false,
          Bool.and_false]
      simp only [stepFalls, counts, Bool.false_and, Bool.false_eq_true, if_false]
    · exact stepFalls_rest hs hn hc due small hk hp
    · exact stepFalls_tone hs hn hc due small hk hp (Voice.envelopeStep_sustain k e hph)
  · have all : allIdle { s with amp := .on } = true := allIdle_iff.mpr idle
    refine run_eq_of_nil (f := warmupEnds) hs ((warmupEnds_eq ht late).trans ?_) hs.2
    rw [Quad.map_warmed_of_idle idle]
    simp only [startIdleTimer, all, decide_true, Bool.and_self, if_true, on, if_false]
  · have some : allIdle { s with amp := .on, voices := s.voices.map fun r => r.warmed s.envelopes s.hubTime } = false := by
      rw [allIdle_warmed, Bool.eq_false_iff]
      exact fun h => awake (allIdle_iff.mp h w)
    refine run_eq_of_nil (f := warmupEnds) hs ((warmupEnds_eq ht late).trans ?_) hs.2
    simp only [startIdleTimer, some, Bool.and_false, Bool.false_eq_true, if_false]
  · have all : allIdle { s with amp := .on } = true := allIdle_iff.mpr idle
    refine run_eq_of_nil (f := warmupEnds) hs ((warmupEnds_eq ht late).trans ?_) hs.2
    rw [Quad.map_warmed_of_idle idle]
    simp only [startIdleTimer, all, decide_true, Bool.and_self, if_true, off, ampOff]
  · refine run_of_same (f := warmupEnds) hs ?_
    simp only [warmupEnds, ht, if_neg (Nat.not_le.mpr early)]
  · refine run_eq_of_nil (f := idleEnds) hs ?_ hs.2
    simp only [idleEnds, ha, ht, timerReached, late, decide_true, Bool.and_self, if_true]
    rfl
  · exact run_of_same (f := stepFalls v) hs (stepFalls_idle early)
  · exact run_of_same (f := durationDue v) hs (durationDue_idle early)
  · have step : starvedEnds v s = endNote v .starved s := by
      simp only [starvedEnds, show (s.voice v).state = .starved from hst, show 500 ≤ elapsedSince s.hubTime (s.voice v).starvedSince
        from late, decide_true, Bool.and_self, if_true]
    exact ((Sounding.begins hs).endNote (o := .starved) hn hc).run_eq (f := starvedEnds v) step hs rfl

end Sys2Proof.Machine
end

section
/-!
The samples of the voices (R151, R154 to R158): what a stream does beside writes of S3 that wait already, and beside the samples
of the other voices.
-/
namespace Sys2Proof.Machine

variable {s t u : State} {k : Nat} {v w : VoiceId} {n : Note} {rest : List Note} {f : Frame}

/-! ## Writes that wait ahead -/

/-- `t` with the writes `ws` that wait ahead of its own. -/
def State.ahead (t : State) (ws : List Write) : State := { t with unobserved := ws ++ t.unobserved }

theorem Awaits.exists_ahead (h : Awaits t u) (ht : t.unobserved = []) :
    ∃ ws : List Write, (∀ w ∈ ws, w.cell = .sys 3) ∧ u = t.ahead ws := by
  obtain ⟨ws, hw, rfl⟩ := h
  refine ⟨ws, hw, ?_⟩
  rw [State.ahead, ht, List.append_nil]
  rfl

theorem writeFree_ahead (t : State) (ws : List Write) : writeFree (t.ahead ws) = (writeFree t).ahead ws :=
  congrArg (fun l => { (t.setCell (.sys 3) ((t.cell (.sys 3)).valueWrite t.hubTime t.free .valid .pool)) with unobserved := l })
    (List.append_assoc ..)

theorem release_ahead (t : State) (ws : List Write) (m : Nat) : release m (t.ahead ws) = (release m t).ahead ws := by
  by_cases h : m = 0
  · rw [release, if_pos h, release, if_pos h]
  · rw [release, if_neg h, release, if_neg h, ← writeFree_ahead]
    have first : firstReviewed (freePages m (t.ahead ws)) = firstReviewed (freePages m t) := rfl
    rw [reviewBoth, first]
    rfl

theorem placeUrgent_ahead (t : State) (ws : List Write) (l : Link) (f : Frame) :
    placeUrgent l f (t.ahead ws) = (placeUrgent l f t).ahead ws := by
  have place : urgentPlacement l (t.ahead ws) = urgentPlacement l t := rfl
  rw [placeUrgent, place, placeUrgent]
  cases urgentPlacement l t with
  | down => rfl
  | dropped => rfl
  | placed => exact writeFree_ahead (pushUrgent l f { t with free := t.free - 1 }) ws

theorem sendNotice_ahead (t : State) (ws : List Write) (route : Option Endpoint) (tag : Byte) (p : List Byte) :
    sendNotice route tag p (t.ahead ws) = (sendNotice route tag p t).ahead ws := by
  cases route with
  | none => rfl
  | some e => exact placeUrgent_ahead ..

theorem reportNotes_ahead (v : VoiceId) (ended : List (Note × SegOutcome)) (ws : List Write) (t : State) :
    reportNotes v ended (t.ahead ws) = (reportNotes v ended t).ahead ws := by
  induction ended generalizing t with
  | nil => rfl
  | cons e ended ih =>
    show reportNotes v ended (sendNotice e.1.route e.1.tag (noteEndPayload v e.1.tag e.2 t.hubTime) (t.ahead ws)) = _
    rw [sendNotice_ahead, ih]
    rfl

theorem startNote_ahead (v : VoiceId) (t : State) (ws : List Write) :
    startNote v (t.ahead ws) = (startNote v t).ahead ws := by
  unfold startNote askWarmup
  dsimp only
  rw [apply_ite (State.ahead · ws)]
  cases h : t.amp with
  | on => simp only [show (t.ahead ws).amp = t.amp from rfl, h, if_true]; rfl
  | warming c =>
    simp only [show (t.ahead ws).amp = t.amp from rfl, State.setVoice_amp, h, reduceCtorEq, if_false]
    rfl
  | off =>
    simp only [show (t.ahead ws).amp = t.amp from rfl, State.setVoice_amp, h, reduceCtorEq, if_false, apply_ite (State.ahead · ws)]
    rfl

theorem becomeIdle_ahead (v : VoiceId) (t : State) (ws : List Write) :
    becomeIdle v (t.ahead ws) = (becomeIdle v t).ahead ws := by
  unfold becomeIdle startIdleTimer
  rw [apply_ite (State.ahead · ws), apply_ite (State.ahead · ws)]
  rfl

theorem endNote_ahead (v : VoiceId) (o : SegOutcome) (t : State) (ws : List Write) :
    endNote v o (t.ahead ws) = (endNote v o t).ahead ws := by
  have same : (t.ahead ws).voice v = t.voice v := rfl
  unfold endNote
  dsimp only
  rw [same]
  cases (t.voice v).notes with
  | nil => rfl
  | cons n rest =>
    dsimp only
    rw [apply_ite (State.ahead · ws), apply_ite (State.ahead · ws), ← startNote_ahead, ← becomeIdle_ahead, ← startNote_ahead,
      ← reportNotes_ahead]
    rfl

theorem freeCurrentFrame_ahead (v : VoiceId) (t : State) (ws : List Write) :
    freeCurrentFrame v (t.ahead ws) = (freeCurrentFrame v t).ahead ws := by
  have same : (t.ahead ws).voice v = t.voice v := rfl
  unfold freeCurrentFrame
  dsimp only
  rw [same]
  cases (t.voice v).stream with
  | nil => rfl
  | cons f more => exact release_ahead (t.setVoice v { t.voice v with stream := more, playIndex := 0, secondUse := false }) ws _

theorem afterFrame_ahead (v : VoiceId) (f : Frame) (t : State) (ws : List Write) :
    afterFrame v f (t.ahead ws) = (afterFrame v f t).ahead ws := by
  unfold afterFrame
  rw [apply_ite (State.ahead · ws), apply_ite (State.ahead · ws), ← endNote_ahead]
  rfl

theorem streamSample_ahead (fuel : Nat) (v : VoiceId) (n : Note) (ws : List Write) (t : State) :
    streamSample fuel v n (t.ahead ws) = ((streamSample fuel v n t).1, (streamSample fuel v n t).2.ahead ws) := by
  induction fuel generalizing t with
  | zero => rfl
  | succ fuel ih =>
    have same : (t.ahead ws).voice v = t.voice v := rfl
    unfold streamSample
    dsimp only
    rw [same]
    cases (t.voice v).stream with
    | nil =>
      dsimp only
      rw [apply_ite (State.ahead · ws), ← endNote_ahead]
      rfl
    | cons f more =>
      dsimp only
      have freed (x : Voice) : afterFrame v f (freeCurrentFrame v ((t.ahead ws).setVoice v x)) =
          (afterFrame v f (freeCurrentFrame v (t.setVoice v x))).ahead ws := by
        rw [← afterFrame_ahead, ← freeCurrentFrame_ahead]
        rfl
      have last : afterFrame v f (freeCurrentFrame v (t.ahead ws)) = (afterFrame v f (freeCurrentFrame v t)).ahead ws := by
        rw [← afterFrame_ahead, ← freeCurrentFrame_ahead]
      simp only [freed, last, ih]
      split
      · split <;> rfl
      · split
        · rfl
        · split <;> rfl

theorem voiceSample_ahead (v : VoiceId) (t : State) (ws : List Write) :
    voiceSample v (t.ahead ws) = ((voiceSample v t).1, (voiceSample v t).2.ahead ws) := by
  have same : (t.ahead ws).voice v = t.voice v := rfl
  unfold voiceSample
  dsimp only
  rw [same]
  cases (t.voice v).notes with
  | nil => rfl
  | cons n rest =>
    dsimp only
    split
    · cases n.kind with
      | tone => rfl
      | stream => exact streamSample_ahead ..
      | rest => rfl
    · rfl

/-! ## The writes of a sample -/

theorem endNote_writesS3 (v : VoiceId) (o : SegOutcome) (t : State) : WritesS3 t (endNote v o t) := by
  unfold endNote
  dsimp only
  split
  · exact .refl t
  · split
    · exact (setVoice_writesS3 ..).trans (startNote_writesS3 ..)
    · split
      · exact ((setVoice_writesS3 ..).trans (reportNotes_writesS3 ..)).trans (becomeIdle_writesS3 ..)
      · exact ((setVoice_writesS3 ..).trans (reportNotes_writesS3 ..)).trans (startNote_writesS3 ..)

theorem freeCurrentFrame_writesS3 (v : VoiceId) (t : State) : WritesS3 t (freeCurrentFrame v t) := by
  unfold freeCurrentFrame
  dsimp only
  split
  · exact (setVoice_writesS3 ..).trans (release_writesS3 ..)
  · exact .refl t

theorem afterFrame_writesS3 (v : VoiceId) (f : Frame) (t : State) : WritesS3 t (afterFrame v f t) := by
  unfold afterFrame
  dsimp only
  split
  · exact endNote_writesS3 ..
  · split
    · exact setVoice_writesS3 ..
    · exact .refl t

theorem streamSample_writesS3 (fuel : Nat) (v : VoiceId) (n : Note) (t : State) : WritesS3 t (streamSample fuel v n t).2 := by
  induction fuel generalizing t with
  | zero => exact .refl t
  | succ fuel ih =>
    unfold streamSample
    dsimp only
    split
    · dsimp only
      split
      · exact endNote_writesS3 ..
      · exact setVoice_writesS3 ..
    · rename_i f more _
      have freed (x : Voice) : WritesS3 t (afterFrame v f (freeCurrentFrame v (t.setVoice v x))) :=
        ((setVoice_writesS3 ..).trans (freeCurrentFrame_writesS3 ..)).trans (afterFrame_writesS3 ..)
      split
      · split
        · exact freed _
        · exact (freed _).trans (ih _)
      · split
        · exact setVoice_writesS3 ..
        · split
          · exact setVoice_writesS3 ..
          · exact (freeCurrentFrame_writesS3 ..).trans (afterFrame_writesS3 ..)

theorem voiceSample_writesS3 (v : VoiceId) (t : State) : WritesS3 t (voiceSample v t).2 := by
  unfold voiceSample
  dsimp only
  split
  · split
    · split
      · exact setVoice_writesS3 ..
      · exact streamSample_writesS3 ..
      · exact .refl t
    · exact .refl t
  · exact .refl t

end Sys2Proof.Machine
end

section
/-!
The output sample (O57): the voices one after another, a stream beside the tones, and the mixer.
-/
namespace Sys2Proof.Machine

variable {s t u : State} {k : Nat} {v w : VoiceId} {n : Note} {rest : List Note} {f : Frame} {vs : List VoiceId}

/-! ## Voices without a stream (R151) -/

/-- The voice sounds. -/
def Voice.sounds (r : Voice) : Bool := r.state = .playing || r.state = .releasing

/-- The voice sounds no STREAM note. -/
def Voice.Plain (r : Voice) : Prop := ∀ n rest, r.sounds = true → r.notes = n :: rest → n.kind ≠ .stream

/-- The sample of a voice that sounds no STREAM note. -/
def Voice.tone (r : Voice) (tables : Quad (Vector Int 64)) : Int :=
  match r.notes with
  | n :: _ => if r.sounds = true ∧ n.kind = .tone then toneSample r n tables else 0
  | [] => 0

/-- A voice that sounds no STREAM note, after its sample. -/
def Voice.advanced (r : Voice) : Voice :=
  match r.notes with
  | n :: _ => if r.sounds = true ∧ n.kind = .tone then { r with phase := r.phase + r.increment } else r
  | [] => r

theorem Voice.advanced_state (r : Voice) : r.advanced.state = r.state := by
  unfold Voice.advanced
  split
  · split <;> rfl
  · rfl

/-- `t` with a voice after its sample. -/
def State.advance (t : State) (w : VoiceId) : State := t.setVoice w (t.voice w).advanced

theorem Voice.tone_sounding {r : Voice} (hn : r.notes = n :: rest) (hs : r.sounds = true) (hk : n.kind = .tone)
    (tables : Quad (Vector Int 64)) :
    r.tone tables = toneSample r n tables ∧ r.advanced = { r with phase := r.phase + r.increment } := by
  unfold Voice.tone Voice.advanced
  rw [hn]
  exact ⟨if_pos ⟨hs, hk⟩, (if_pos ⟨hs, hk⟩).trans (by rw [← hn])⟩

theorem Voice.tone_silent {r : Voice} (h : ∀ n rest, r.notes = n :: rest → ¬ (r.sounds = true ∧ n.kind = .tone))
    (tables : Quad (Vector Int 64)) : r.tone tables = 0 ∧ r.advanced = r := by
  unfold Voice.tone Voice.advanced
  cases hn : r.notes with
  | nil => exact ⟨rfl, rfl⟩
  | cons n rest => exact ⟨if_neg (h n rest hn), if_neg (h n rest hn)⟩

theorem voiceSample_tone (hn : (t.voice w).notes = n :: rest) (hs : (t.voice w).sounds = true) (hk : n.kind = .tone) :
    voiceSample w t = (toneSample (t.voice w) n t.wavetables,
      t.setVoice w { t.voice w with phase := (t.voice w).phase + (t.voice w).increment }) := by
  unfold voiceSample
  dsimp only
  rw [hn]
  refine (if_pos hs).trans ?_
  rw [hk]

theorem voiceSample_stream (hn : (t.voice w).notes = n :: rest) (hs : (t.voice w).sounds = true) (hk : n.kind = .stream) :
    voiceSample w t = streamSample ((t.voice w).stream.length + 1) w n t := by
  unfold voiceSample
  dsimp only
  rw [hn]
  refine (if_pos hs).trans ?_
  rw [hk]

theorem voiceSample_silent (h : ∀ n rest, (t.voice w).sounds = true → (t.voice w).notes = n :: rest → n.kind = .rest) :
    voiceSample w t = (0, t) := by
  unfold voiceSample
  dsimp only
  cases hn : (t.voice w).notes with
  | nil => rfl
  | cons n rest =>
    dsimp only
    cases hs : (t.voice w).sounds
    · exact if_neg (by rw [show (decide ((t.voice w).state = .playing) || decide ((t.voice w).state = .releasing)) =
        (t.voice w).sounds from rfl, hs]; simp)
    · rw [h n rest hs hn]
      exact if_pos hs

theorem voiceSample_plain (h : (t.voice w).Plain) :
    voiceSample w t = ((t.voice w).tone t.wavetables, t.advance w) := by
  by_cases tone : ∃ n rest, (t.voice w).notes = n :: rest ∧ (t.voice w).sounds = true ∧ n.kind = .tone
  · obtain ⟨n, rest, hn, hs, hk⟩ := tone
    obtain ⟨value, advanced⟩ := Voice.tone_sounding hn hs hk t.wavetables
    rw [voiceSample_tone hn hs hk, value, State.advance, advanced]
  · have silent (n : Note) (rest : List Note) (hn : (t.voice w).notes = n :: rest) :
        ¬ ((t.voice w).sounds = true ∧ n.kind = .tone) := fun ⟨hs, hk⟩ => tone ⟨n, rest, hn, hs, hk⟩
    obtain ⟨value, advanced⟩ := Voice.tone_silent silent t.wavetables
    rw [value, State.advance, advanced, State.setVoice_voice]
    refine voiceSample_silent fun n rest hs hn => ?_
    cases hk : n.kind with
    | tone => exact absurd ⟨hs, hk⟩ (silent n rest hn)
    | stream => exact absurd hk (h n rest hs hn)
    | rest => rfl

/-! ## One voice after another (R158; log entry 41) -/

/-- The sample of a voice is added to the sum. -/
def sampleVoice (p : Int × State) (w : VoiceId) : Int × State := (p.1 + (voiceSample w p.2).1, (voiceSample w p.2).2)

theorem outputSampleAll_eq (t : State) :
    outputSampleAll t = mix (allVoices.foldl sampleVoice (0, t)).1 (allVoices.foldl sampleVoice (0, t)).2 := by
  simp only [allVoices, List.foldl_cons, List.foldl_nil, sampleVoice, Int.zero_add]
  rfl

theorem sampleVoice_fst (vs : List VoiceId) (a b : Int) (t : State) :
    vs.foldl sampleVoice (a + b, t) = (a + (vs.foldl sampleVoice (b, t)).1, (vs.foldl sampleVoice (b, t)).2) := by
  induction vs generalizing b t with
  | nil => rfl
  | cons w vs ih =>
    have first : sampleVoice (a + b, t) w = (a + (sampleVoice (b, t) w).1, (sampleVoice (b, t) w).2) := by
      simp only [sampleVoice, Int.add_assoc]
    rw [List.foldl_cons, List.foldl_cons, first, ih]

theorem sampleVoices_ahead (vs : List VoiceId) (ws : List Write) (a : Int) (t : State) :
    vs.foldl sampleVoice (a, t.ahead ws) = ((vs.foldl sampleVoice (a, t)).1, (vs.foldl sampleVoice (a, t)).2.ahead ws) := by
  induction vs generalizing a t with
  | nil => rfl
  | cons w vs ih =>
    have first : sampleVoice (a, t.ahead ws) w = ((sampleVoice (a, t) w).1, (sampleVoice (a, t) w).2.ahead ws) := by
      simp only [sampleVoice, voiceSample_ahead]
    rw [List.foldl_cons, List.foldl_cons, first, ih]

theorem sampleVoices_writesS3 (vs : List VoiceId) (a : Int) (t : State) : WritesS3 t (vs.foldl sampleVoice (a, t)).2 := by
  induction vs generalizing a t with
  | nil => exact .refl t
  | cons w vs ih => exact (voiceSample_writesS3 w t).trans (ih _ _)

theorem State.voice_advance_other (h : v ≠ w) (t : State) : (t.advance w).voice v = t.voice v :=
  State.voice_setVoice_other _ _ (Ne.symm h)

/-- `t` after the samples of the voices `vs`. -/
def State.advanceAll (t : State) (vs : List VoiceId) : State := vs.foldl State.advance t

theorem State.voice_advanceAll_other (h : v ∉ vs) (t : State) : (t.advanceAll vs).voice v = t.voice v := by
  induction vs generalizing t with
  | nil => rfl
  | cons w vs ih =>
    obtain ⟨hw, hv⟩ := not_or.mp (fun e => h (List.mem_cons.mpr e))
    exact (ih hv (t.advance w)).trans (State.voice_advance_other hw t)

theorem State.voice_advanceAll (nodup : vs.Nodup) (w : VoiceId) (t : State) :
    (t.advanceAll vs).voice w = if w ∈ vs then (t.voice w).advanced else t.voice w := by
  induction vs generalizing t with
  | nil => rfl
  | cons x vs ih =>
    obtain ⟨hx, hv⟩ := List.nodup_cons.mp nodup
    have step : (t.advanceAll (x :: vs)).voice w = ((t.advance x).advanceAll vs).voice w := rfl
    rw [step, ih hv]
    by_cases e : w = x
    · subst e
      rw [if_neg hx, if_pos List.mem_cons_self, State.advance, State.voice_setVoice_same]
    · rw [State.voice_advance_other e]
      simp only [List.mem_cons, e, false_or]

theorem State.advanceAll_keeps (vs : List VoiceId) (t : State) : ∃ voices, t.advanceAll vs = { t with voices := voices } := by
  induction vs generalizing t with
  | nil => exact ⟨_, rfl⟩
  | cons w vs ih => exact ih (t.advance w)

/-- The samples of voices that sound no STREAM note. -/
theorem sampleVoices_plain (nodup : vs.Nodup) (h : ∀ w ∈ vs, (t.voice w).Plain) (a : Int) :
    vs.foldl sampleVoice (a, t) = (a + (vs.map fun w => (t.voice w).tone t.wavetables).sum, t.advanceAll vs) := by
  induction vs generalizing t a with
  | nil => simp [State.advanceAll]
  | cons w vs ih =>
    obtain ⟨hw, hv⟩ := List.nodup_cons.mp nodup
    have others (x : VoiceId) (hx : x ∈ vs) : (t.advance w).voice x = t.voice x :=
      State.voice_advance_other (fun e : x = w => hw (e ▸ hx)) t
    have first : sampleVoice (a, t) w = (a + (t.voice w).tone t.wavetables, t.advance w) := by
      simp only [sampleVoice, voiceSample_plain (h w List.mem_cons_self)]
    have tones : (vs.map fun x => ((t.advance w).voice x).tone (t.advance w).wavetables) =
        vs.map fun x => (t.voice x).tone t.wavetables := List.map_congr_left fun x hx => by rw [others x hx]; rfl
    rw [List.foldl_cons, first, ih hv fun x hx => by rw [others x hx]; exact h x (List.mem_cons_of_mem _ hx)]
    rw [tones, List.map_cons, List.sum_cons, Int.add_assoc]
    rfl

/-! ## The mixer (R133, R158) -/

theorem clampInt_eq_self_iff {lo hi x : Int} (h : lo ≤ hi) : clampInt lo hi x = x ↔ lo ≤ x ∧ x ≤ hi := by
  unfold clampInt
  omega

theorem mix_eq (sum : Int) (t : State) : mix sum t = t.mixed sum := by
  have gain : effectiveGain t = min t.sound.masterGain (gainCapOf t.supply.state) := by
    rw [effectiveGain]
    cases t.supply.state <;> rfl
  simp only [mix, State.mixed, gain, mixScaled, clampInt_eq_self_iff (show (-32768 : Int) ≤ 32767 by decide)]
  rfl

theorem State.mixed_withWrites (sum : Int) (t : State) (ws : List Write) :
    (t.withWrites ws).mixed sum = (t.mixed sum).withWrites ws := rfl

theorem Sounding.mix (h : Sounding s k t u) (sum : Int) : Sounding s k (t.mixed sum) (Machine.mix sum u) := by
  rw [mix_eq]
  obtain ⟨ws, hw, e⟩ := h.awaits
  refine ⟨⟨ws, hw, by rw [e]; rfl⟩, fun hn => by rw [h.still hn], h.room, h.progress, h.reflexes, h.subs, h.settled⟩

end Sys2Proof.Machine
end

section
/-!
A stream beside the tones (O57): what acts on one voice leaves the samples of the others, and the cases of a stream's sample.
-/
namespace Sys2Proof.Machine

variable {s t u : State} {k : Nat} {v w : VoiceId} {n : Note} {rest : List Note} {f : Frame} {more : List Frame} {r : Voice}
  {P Q : State → State} {vs : List VoiceId}

/-! ## Operations of one voice -/

/-- What acts on the voice `v` has no part in the samples of the others, and they none in it. -/
structure OfVoice (v : VoiceId) (P : State → State) : Prop where
  advance : ∀ {w}, w ≠ v → ∀ t, P (t.advance w) = (P t).advance w
  voice : ∀ {w}, w ≠ v → ∀ t, (P t).voice w = t.voice w
  wavetables : ∀ t, (P t).wavetables = t.wavetables

theorem OfVoice.comp (hP : OfVoice v P) (hQ : OfVoice v Q) : OfVoice v fun t => P (Q t) where
  advance hw t := by rw [hQ.advance hw, hP.advance hw]
  voice hw t := by rw [hP.voice hw, hQ.voice hw]
  wavetables t := by rw [hP.wavetables, hQ.wavetables]

theorem State.setVoice_comm (h : v ≠ w) (t : State) (r r' : Voice) :
    (t.setVoice v r).setVoice w r' = (t.setVoice w r').setVoice v r := by
  have : (t.voices.set v r).set w r' = (t.voices.set w r').set v r := by
    match v, w, h with
    | 0, 1, _ | 0, 2, _ | 0, 3, _ | 1, 0, _ | 1, 2, _ | 1, 3, _ | 2, 0, _ | 2, 1, _ | 2, 3, _ | 3, 0, _ | 3, 1, _ | 3, 2, _ => rfl
    | 0, 0, h | 1, 1, h | 2, 2, h | 3, 3, h => exact absurd rfl h
  simp only [State.setVoice, this]

theorem State.setVoice_advance (h : w ≠ v) (t : State) (r : Voice) :
    (t.advance w).setVoice v r = (t.setVoice v r).advance w := by
  rw [State.advance, State.advance, State.setVoice_comm h, State.voice_setVoice_other _ _ (Ne.symm h)]

/-- A change of the voice itself. -/
theorem OfVoice.map (g : Voice → Voice) : OfVoice v fun t => t.setVoice v (g (t.voice v)) where
  advance hw t := by rw [State.voice_advance_other (Ne.symm hw), State.setVoice_advance hw]
  voice hw t := State.voice_setVoice_other _ _ (Ne.symm hw)
  wavetables _ := rfl

theorem OfVoice.afterRelease (m : Nat) : OfVoice v (State.afterRelease · m) := ⟨fun _ _ => rfl, fun _ _ => rfl, fun _ => rfl⟩

theorem OfVoice.notesReported (ended : List (Note × Byte)) : OfVoice v (State.notesReported · v ended) where
  advance _ t := by
    show (t.advance _).notesReported v ended = _
    rw [State.advance, State.notesReported_setVoice, State.advance, State.notesReported_voice]
  voice _ t := t.notesReported_voice ..
  wavetables t := by
    obtain ⟨_, _, _, _, e⟩ := t.notesReported_poolOnly v ended
    rw [e]

theorem OfVoice.noteStarted (q : List Note) (n : Note) : OfVoice v (State.noteStarted · v q n) where
  advance {w} hw t := by
    have voice := State.voice_advance_other (Ne.symm hw) t
    show (t.advance w).noteStarted v q n = (t.noteStarted v q n).advance w
    unfold State.noteStarted
    rw [show (t.advance w).amp = t.amp from rfl, voice]
    cases t.amp with
    | on => dsimp only; rw [State.setVoice_advance hw]; rfl
    | off => dsimp only; rw [State.setVoice_advance hw]; rfl
    | warming => dsimp only; rw [State.setVoice_advance hw]; rfl
  voice hw t := by
    unfold State.noteStarted
    cases t.amp <;> exact State.voice_setVoice_other _ _ (Ne.symm hw)
  wavetables t := by
    obtain ⟨_, _, _, e⟩ := t.noteStarted_keeps v q n
    rw [e]

theorem State.advance_state (t : State) (w x : VoiceId) : ((t.advance w).voice x).state = (t.voice x).state := by
  by_cases e : x = w
  · subst e
    rw [State.advance, State.voice_setVoice_same, Voice.advanced_state]
  · rw [State.voice_advance_other e]

theorem OfVoice.voiceRests : OfVoice v fun t => t.voiceRests v (t.voice v) where
  advance {w} hw t := by
    have voice := State.voice_advance_other (Ne.symm hw) t
    rw [voice]
    unfold State.voiceRests
    dsimp only
    rw [State.setVoice_advance hw, apply_ite (State.advance · w), apply_ite (State.advance · w)]
    refine if_congr ?_ rfl rfl
    simp only [State.advance_state]
    rfl
  voice hw t := by
    have kept (r : Voice) : (t.setVoice v r).voice _ = t.voice _ := State.voice_setVoice_other _ _ (Ne.symm hw)
    unfold State.voiceRests
    dsimp only
    split
    · split <;> exact kept _
    · exact kept _
  wavetables t := by
    obtain ⟨_, _, _, _, e⟩ := t.voiceRests_keeps v (t.voice v)
    rw [e]

theorem OfVoice.pastNote (q : List Note) : OfVoice v (State.pastNote · v q) := by
  cases q with
  | nil => exact .voiceRests
  | cons n rest => exact .noteStarted (n :: rest) n

theorem OfVoice.advanceAll (hP : OfVoice v P) (hv : v ∉ vs) (t : State) : P (t.advanceAll vs) = (P t).advanceAll vs := by
  induction vs generalizing t with
  | nil => rfl
  | cons w vs ih =>
    obtain ⟨hw, hv⟩ := not_or.mp (fun e => hv (List.mem_cons.mpr e))
    exact (ih hv (t.advance w)).trans (congrArg (State.advanceAll · vs) (hP.advance (Ne.symm hw) t))

/-! ## A stream beside the tones -/

/-- `t` with the voices other than `v` as they are after the sample of `s`. -/
def State.besides (t : State) (v : VoiceId) (s : State) : State :=
  let left (w : VoiceId) : Voice := if w = v then t.voice w else (s.voice w).advanced
  { t with voices := { q0 := left 0, q1 := left 1, q2 := left 2, q3 := left 3 } }

theorem State.eq_besides {voices : Quad Voice} (ht : t = { u with voices := voices })
    (h : ∀ w, t.voice w = if w = v then u.voice w else (s.voice w).advanced) : t = u.besides v s := by
  subst ht
  have get (w : VoiceId) : voices.get w = if w = v then u.voice w else (s.voice w).advanced := h w
  have all : voices = { q0 := voices.get 0, q1 := voices.get 1, q2 := voices.get 2, q3 := voices.get 3 } := rfl
  rw [all, get, get, get, get]
  rfl

theorem Sounding.reads {α : Type} {g : State → α} (h : Sounding s k t u) (hg : ∀ ws, g (t.withWrites ws) = g t) : g u = g t := by
  obtain ⟨ws, -, rfl⟩ := h.awaits
  exact hg ws

theorem Sounding.advanceAll (h : Sounding s k t u) (vs : List VoiceId) :
    Sounding s k (t.advanceAll vs) (u.advanceAll vs) := by
  induction vs generalizing t u with
  | nil => exact h
  | cons w vs ih =>
    have first : Sounding s k (t.advance w) (u.advance w) := by
      rw [State.advance, State.advance, h.voice]
      exact h.setVoice w _
    exact ih first

/-- The voices ahead of one and behind it. -/
theorem exists_split (v : VoiceId) : ∃ vs ws, allVoices = vs ++ v :: ws ∧ v ∉ vs ++ ws ∧ (vs ++ ws).Nodup ∧
    ∀ w, w ≠ v → w ∈ vs ++ ws := by
  match v with
  | 0 => exact ⟨[], [1, 2, 3], by decide⟩
  | 1 => exact ⟨[0], [2, 3], by decide⟩
  | 2 => exact ⟨[0, 1], [3], by decide⟩
  | 3 => exact ⟨[0, 1, 2], [], by decide⟩

/-- The samples of the voices ahead of one and behind it. -/
def tones (s : State) : Int := (allVoices.map fun w => (s.voice w).tone s.wavetables).sum

theorem run_outputSample_beside {out : Int} (hs : s.settled) (hP : OfVoice v P) (plain : ∀ w, w ≠ v → (s.voice w).Plain)
    (silent : (s.voice v).tone s.wavetables = 0)
    (acts : ∀ t, Sounding s (pagesOfAll (s.voice v).stream) t t → t.voice v = s.voice v → t.hubTime = s.hubTime →
      (voiceSample v t).1 = out ∧ Sounding s 0 (P t) (voiceSample v t).2) :
    run outputSampleAll s = .next (((P s).besides v s).mixed (out + tones s)) := by
  obtain ⟨vs, ws, split, absent, nodup, others⟩ := exists_split v
  obtain ⟨nodup₁, nodup₂, -⟩ := List.nodup_append.mp nodup
  obtain ⟨ahead, behind⟩ := not_or.mp (fun e => absent (List.mem_append.mpr e))
  have ne_of_mem {w : VoiceId} (h : w ∈ vs ++ ws) : w ≠ v := fun e => absent (e ▸ h)
  have begins : Sounding s (pagesOfAll (s.voice v).stream) s s := .of_settled hs fun hc => hc.free_add_stream_le v
  obtain ⟨voices, keeps⟩ := s.advanceAll_keeps vs
  obtain ⟨value, sounding⟩ := acts (s.advanceAll vs) (begins.advanceAll vs) (s.voice_advanceAll_other ahead) (by rw [keeps])
  have tables : (voiceSample v (s.advanceAll vs)).2.wavetables = s.wavetables := by
    rw [sounding.reads (g := State.wavetables) fun _ => rfl, hP.wavetables, keeps]
  have stands {w : VoiceId} (h : w ∈ ws) : (voiceSample v (s.advanceAll vs)).2.voice w = s.voice w := by
    have hw : w ∈ vs ++ ws := List.mem_append_right vs h
    rw [sounding.voice, hP.voice (ne_of_mem hw), State.voice_advanceAll_other]
    intro hv
    exact List.disjoint_of_nodup_append nodup hv h
  have sum : allVoices.foldl sampleVoice (0, s) =
      (out + tones s, (voiceSample v (s.advanceAll vs)).2.advanceAll ws) := by
    rw [split, List.foldl_append, List.foldl_cons
      , sampleVoices_plain nodup₁ fun w hw => plain w (ne_of_mem (List.mem_append_left ws hw))]
    have ahead_eq : sampleVoice (0 + (vs.map fun w => (s.voice w).tone s.wavetables).sum, s.advanceAll vs) v =
        ((vs.map fun w => (s.voice w).tone s.wavetables).sum + out, (voiceSample v (s.advanceAll vs)).2) := by
      simp only [sampleVoice, value, Int.zero_add]
    have behind_eq : (ws.map fun w => ((voiceSample v (s.advanceAll vs)).2.voice w).tone
        (voiceSample v (s.advanceAll vs)).2.wavetables) = ws.map fun w => (s.voice w).tone s.wavetables :=
      List.map_congr_left fun w hw => by rw [stands hw, tables]
    rw [ahead_eq, sampleVoices_plain nodup₂ fun w hw => by
      rw [stands hw]; exact plain w (ne_of_mem (List.mem_append_right vs hw)), behind_eq]
    rw [tones, split, List.map_append, List.sum_append, List.map_cons, List.sum_cons, silent]
    congr 1
    omega
  have last := sounding.advanceAll ws
  refine (last.mix (out + tones s)).run_eq (f := outputSampleAll) ?_ hs (congrArg (State.mixed · _) ?_)
  · rw [outputSampleAll_eq, sum]
  · rw [hP.advanceAll ahead]
    obtain ⟨first, e⟩ := (P s).advanceAll_keeps vs
    obtain ⟨both, e'⟩ := ((P s).advanceAll vs).advanceAll_keeps ws
    refine State.eq_besides (voices := both) (e'.trans (by rw [e])) fun w => ?_
    have all : ((P s).advanceAll vs).advanceAll ws = (P s).advanceAll (vs ++ ws) := (List.foldl_append ..).symm
    rw [all, State.voice_advanceAll nodup]
    by_cases hw : w = v
    · rw [if_neg (fun h => ne_of_mem h hw), if_pos hw]
    · rw [if_pos (others w hw), if_neg hw, hP.voice hw]

end Sys2Proof.Machine
end

section
/-!
The samples of a stream (O57): the sample of the current frame, the frames that are freed, and what follows them.
-/
namespace Sys2Proof.Machine

variable {s t u : State} {k fuel : Nat} {v w : VoiceId} {n : Note} {rest : List Note} {f : Frame} {more : List Frame} {r : Voice}

/-! ## Frames of a stream (R154) -/

theorem streamMalformed_iff : streamMalformed f = true ↔ ¬ f.wellFormedStream := by
  simp only [streamMalformed, Bool.or_eq_true, Bool.and_eq_true, decide_eq_true_eq]
  omega

theorem streamCount_eq (f : Frame) : streamCount f = f.samples := rfl

theorem streamSampleAt_eq (f : Frame) (i : Nat) : streamSampleAt f i = f.sample i := by
  unfold streamSampleAt Frame.sample
  match h : num8 f.payload 0 with
  | 0 =>
    have lo : num8 f.payload (2 + 2 * i) < 256 := (byteAt f.payload (2 + 2 * i)).isLt
    have hi : num8 f.payload (2 + (2 * i + 1)) < 256 := (byteAt f.payload (2 + (2 * i + 1))).isLt
    simp only [if_true, word16, show 2 + 2 * i + 1 = 2 + (2 * i + 1) by omega, BitVec.toInt_eq_toNat_cond,
      BitVec.toNat_ofNat]
    generalize num8 f.payload (2 + 2 * i) = a at *
    generalize num8 f.payload (2 + (2 * i + 1)) = b at *
    split <;> split <;> omega
  | 1 => rfl
  | m + 2 => rfl

/-! ## The end of a stream's note (R148, R156) -/

/-- `t` after the STREAM note of a voice that stood at `r` ended with its last frame. -/
def State.streamEnded (t : State) (v : VoiceId) (r : Voice) (n : Note) (rest : List Note) : State :=
  if r.loopOn = true ∧ r.state = .playing ∧ r.stopMarker = false then t.pastNote v (rest ++ [n])
  else (t.notesReported v [(n, if r.state = .releasing ∨ r.stopMarker = true then 11 else 0)]).pastNote v rest

theorem Sounding.streamEnds (h : Sounding s k t u) (hn : (t.voice v).notes = n :: rest) (hc : n.route = none ∨ s.reports)
    (hs : (t.voice v).sounds = true) :
    Sounding s k (t.streamEnded v (t.voice v) n rest)
      (Machine.endNote v (if (t.voice v).state = .releasing then .stopped else (t.voice v).endOutcome) u) := by
  have ended := h.endNote (o := if (t.voice v).state = .releasing then .stopped else (t.voice v).endOutcome) hn hc
  have : (t.voice v).state = .playing ∨ (t.voice v).state = .releasing := by
    simpa only [Voice.sounds, Bool.or_eq_true, decide_eq_true_eq] using hs
  have same : t.streamEnded v (t.voice v) n rest = t.noteEnded v n rest
      (decide ((if (t.voice v).state = .releasing then SegOutcome.stopped else (t.voice v).endOutcome) = .completed) &&
        (t.voice v).loopOn) (u8 (if (t.voice v).state = .releasing then SegOutcome.stopped else (t.voice v).endOutcome).code) := by
    unfold State.streamEnded State.noteEnded Voice.endOutcome
    obtain hp | hr := this
    · cases hm : (t.voice v).stopMarker <;> cases hl : (t.voice v).loopOn <;> simp [hp, SegOutcome.code, u8]
    · simp [hr, SegOutcome.code, u8]
  rw [same]
  exact ended

theorem OfVoice.streamEnded (r : Voice) (n : Note) (rest : List Note) : OfVoice v (State.streamEnded · v r n rest) := by
  unfold State.streamEnded
  by_cases again : r.loopOn = true ∧ r.state = .playing ∧ r.stopMarker = false
  · simp only [if_pos again]
    exact .pastNote _
  · simp only [if_neg again]
    exact (OfVoice.pastNote _).comp (.notesReported _)

/-! ## The sample (R155, R156, R157) -/

theorem streamSample_nil (h : (t.voice v).stream = []) : streamSample (fuel + 1) v n t =
    (0, if (t.voice v).state = .releasing then endNote v .stopped t else enterStarved v t) := by
  rw [streamSample]
  dsimp only
  rw [h]

/-- The sample of a frame that holds one more. -/
theorem streamSample_use (h : (t.voice v).stream = f :: more) (hw : f.wellFormedStream)
    (hi : (t.voice v).playIndex < f.samples) : streamSample (fuel + 1) v n t =
    ((f.sample (t.voice v).playIndex * n.gain).tdiv 256,
      if num8 f.payload 1 = 1 ∧ (t.voice v).secondUse = false then t.setVoice v { t.voice v with secondUse := true }
      else if (t.voice v).playIndex + 1 < f.samples then
        t.setVoice v { t.voice v with playIndex := (t.voice v).playIndex + 1, secondUse := false }
      else afterFrame v f (freeCurrentFrame v t)) := by
  have good : ¬ (streamMalformed f || decide (streamCount f ≤ (t.voice v).playIndex)) = true := by
    rw [Bool.or_eq_true, decide_eq_true_eq, streamMalformed_iff]
    exact not_or.mpr ⟨not_not.mpr hw, Nat.not_le.mpr hi⟩
  rw [streamSample]
  dsimp only
  rw [h]
  dsimp only
  rw [if_neg good, streamSampleAt_eq, streamCount_eq]
  simp only [Bool.and_eq_true, Bool.not_eq_true', decide_eq_true_eq]
  split
  · rw [← h]
  · split
    · rw [← h]
    · rfl

/-- A frame that is malformed, or holds no sample any more, is freed. -/
theorem streamSample_freed (h : (t.voice v).stream = f :: more) (hx : ¬ f.wellFormedStream ∨ f.samples ≤ (t.voice v).playIndex) :
    streamSample (fuel + 1) v n t =
      let s' := afterFrame v f (freeCurrentFrame v (t.setVoice v (if f.wellFormedStream then t.voice v
        else { t.voice v with formatErrors := min 65535 ((t.voice v).formatErrors + 1) })))
      if (t.voice v).endsWith f = true ∨ more = [] then (0, s') else streamSample fuel v n s' := by
  have spent : (streamMalformed f || decide (streamCount f ≤ (t.voice v).playIndex)) = true := by
    rw [Bool.or_eq_true, decide_eq_true_eq, streamMalformed_iff]
    exact hx
  have counted : (if streamMalformed f = true then
      { t.voice v with formatErrors := satAdd 65535 (t.voice v).formatErrors 1 } else t.voice v) =
      if f.wellFormedStream then t.voice v
        else { t.voice v with formatErrors := min 65535 ((t.voice v).formatErrors + 1) } := by
    simp only [streamMalformed_iff, ite_not]
    rfl
  rw [streamSample]
  dsimp only
  rw [h]
  dsimp only
  rw [if_pos spent, ← h, counted]
  exact if_congr (by rw [Bool.or_eq_true, decide_eq_true_eq]) rfl rfl

/-! ## Frames that are freed (R155, R156) -/

/-- `t` after the current frame `f` of a voice that stood at `r` was freed, with the frames `more` behind it. -/
def State.frameLeft (t : State) (v : VoiceId) (r : Voice) (f : Frame) (more : List Frame) : State :=
  (t.setVoice v { r with stream := more, playIndex := 0, secondUse := false }).afterRelease f.pages

theorem State.frameLeft_voice (t : State) (v : VoiceId) (r : Voice) (f : Frame) (more : List Frame) :
    (t.frameLeft v r f more).voice v = { r with stream := more, playIndex := 0, secondUse := false } :=
  State.voice_setVoice_same ..

theorem OfVoice.frameLeft (r : Voice) (f : Frame) (more : List Frame) : OfVoice v (State.frameLeft · v r f more) :=
  (OfVoice.afterRelease f.pages).comp (.map fun _ => { r with stream := more, playIndex := 0, secondUse := false })

theorem Sounding.freeCurrentFrame (h : Sounding s (pagesOfAll (f :: more)) t u) (hq : s.quiet)
    (hf : (t.voice v).stream = f :: more) :
    Sounding s (pagesOfAll more) (t.frameLeft v (t.voice v) f more) (Machine.freeCurrentFrame v u) := by
  have one : pagesOfAll [f] = f.pages := by simp [pagesOfAll]
  have room : Sounding s (pagesOfAll [f] + pagesOfAll more) t u := by rwa [one, ← pagesOfAll_cons]
  have freed := (room.setVoice v { t.voice v with stream := more, playIndex := 0, secondUse := false }).release (fs := [f]) (.inr hq)
  have acts : Machine.freeCurrentFrame v u =
      Machine.release (pagesOfAll [f]) (u.setVoice v { t.voice v with stream := more, playIndex := 0, secondUse := false }) := by
    unfold Machine.freeCurrentFrame
    dsimp only
    rw [h.voice, hf, one]
  rw [acts]
  have left : (t.setVoice v { t.voice v with stream := more, playIndex := 0, secondUse := false }).framesFreed [f] =
      t.frameLeft v (t.voice v) f more := by
    rw [State.framesFreed, if_neg (by simp), State.frameLeft, show ([f].map Frame.pages).sum = f.pages from one]
  rw [← left]
  exact freed

theorem Sounding.less (h : Sounding s k t u) {m : Nat} (hm : m ≤ k) : Sounding s m t u :=
  { h with room := fun hq => Nat.le_trans (Nat.add_le_add_left hm _) (h.room hq) }

theorem endsWith_iff : r.endsWith f = true ↔ r.state = .releasing ∨ f.flags.getLsbD 1 = true := by
  rw [Voice.endsWith, Bool.or_eq_true, decide_eq_true_eq, or_comm]
  rfl

theorem Sounding.afterFrame_ends (h : Sounding s k t u) (hn : (t.voice v).notes = n :: rest) (hc : n.route = none ∨ s.reports)
    (hs : (t.voice v).sounds = true) (he : (t.voice v).state = .releasing ∨ f.flags.getLsbD 1 = true) :
    Sounding s k (t.streamEnded v (t.voice v) n rest) (Machine.afterFrame v f u) := by
  have acts : Machine.afterFrame v f u =
      Machine.endNote v (if (t.voice v).state = .releasing then .stopped else (t.voice v).endOutcome) u := by
    unfold Machine.afterFrame
    dsimp only
    rw [h.voice, if_pos (endsWith_iff.mpr he)]
  rw [acts]
  exact h.streamEnds hn hc hs

theorem Sounding.afterFrame_goesOn (h : Sounding s k t u) (he : ¬ ((t.voice v).state = .releasing ∨ f.flags.getLsbD 1 = true)) :
    Sounding s k (if (t.voice v).stream = [] then t.setVoice v ((t.voice v).starving t.hubTime) else t)
      (Machine.afterFrame v f u) := by
  unfold Machine.afterFrame
  dsimp only
  rw [h.voice, if_neg (fun e => he (endsWith_iff.mp e))]
  by_cases last : (t.voice v).stream = []
  · rw [if_pos last, if_pos last, enterStarved, h.voice, h.hubTime]
    exact h.setVoice v _
  · rw [if_neg last, if_neg last]
    exact h

/-- A frame is freed, and a voice that holds no other one starves. -/
theorem OfVoice.frameLeft_starves (r : Voice) (f : Frame) (more : List Frame) (now : Time) :
    OfVoice v fun t => if more = [] then (t.frameLeft v r f more).setVoice v (((t.frameLeft v r f more).voice v).starving now)
      else t.frameLeft v r f more := by
  by_cases last : more = []
  · simp only [if_pos last]
    exact (OfVoice.map fun x => x.starving now).comp (.frameLeft r f more)
  · simp only [if_neg last]
    exact .frameLeft r f more

/-- A frame is freed and the next one is examined: it is the sample of the hub as the frame leaves it (R155). -/
theorem run_outputSample_freed {x : Voice} (hq : s.quiet) (plain : ∀ w, w ≠ v → (s.voice w).Plain)
    (hn : x.notes = n :: rest) (hs : x.sounds = true) (hk : n.kind = .stream)
    (acts : ∀ t, Sounding s (pagesOfAll (s.voice v).stream) t t → t.voice v = s.voice v → t.hubTime = s.hubTime →
      ∃ u, voiceSample v t = streamSample (more.length + 1) v n u ∧
        Sounding s (pagesOfAll more) (t.frameLeft v x f more) u) :
    run outputSampleAll s = run outputSampleAll (s.frameLeft v x f more) := by
  obtain ⟨vs, ws, split, absent, nodup, -⟩ := exists_split v
  obtain ⟨nodup₁, -, -⟩ := List.nodup_append.mp nodup
  obtain ⟨ahead, -⟩ := not_or.mp (fun e => absent (List.mem_append.mpr e))
  have ne_of_mem {w : VoiceId} (h : w ∈ vs) : w ≠ v := fun e => ahead (e ▸ h)
  have begins : Sounding s (pagesOfAll (s.voice v).stream) s s := .of_settled hq.1 fun hc => hc.free_add_stream_le v
  obtain ⟨voices, keeps⟩ := s.advanceAll_keeps vs
  obtain ⟨u, sample, freed⟩ := acts (s.advanceAll vs) (begins.advanceAll vs) (s.voice_advanceAll_other ahead) (by rw [keeps])
  obtain ⟨waiting, hw, rfl⟩ := freed.awaits.exists_ahead freed.settled
  have moves : (s.advanceAll vs).frameLeft v x f more = (s.frameLeft v x f more).advanceAll vs :=
    (OfVoice.frameLeft x f more).advanceAll ahead s
  rw [moves] at sample
  have stands (w : VoiceId) (h : w ∈ vs) : (s.frameLeft v x f more).voice w = s.voice w :=
    (OfVoice.frameLeft x f more).voice (ne_of_mem h) s
  have left : ((s.frameLeft v x f more).advanceAll vs).voice v = { x with stream := more, playIndex := 0, secondUse := false } := by
    rw [State.voice_advanceAll_other ahead, State.frameLeft_voice]
  have again : voiceSample v ((s.frameLeft v x f more).advanceAll vs) =
      streamSample (more.length + 1) v n ((s.frameLeft v x f more).advanceAll vs) := by
    have := voiceSample_stream (t := (s.frameLeft v x f more).advanceAll vs) (w := v) (n := n) (rest := rest)
      (by rw [left]; exact hn) (by rw [left]; exact hs) hk
    rw [this, left]
  have tones : (vs.map fun w => ((s.frameLeft v x f more).voice w).tone (s.frameLeft v x f more).wavetables) =
      vs.map fun w => (s.voice w).tone s.wavetables := List.map_congr_left fun w hw => by rw [stands w hw]; rfl
  have fold : allVoices.foldl sampleVoice (0, s) = ((allVoices.foldl sampleVoice (0, s.frameLeft v x f more)).1,
      (allVoices.foldl sampleVoice (0, s.frameLeft v x f more)).2.ahead waiting) := by
    rw [split, List.foldl_append, List.foldl_append, List.foldl_cons, List.foldl_cons,
      sampleVoices_plain nodup₁ fun w hw => plain w (ne_of_mem hw),
      sampleVoices_plain nodup₁ fun w hw => by rw [stands w hw]; exact plain w (ne_of_mem hw), tones, ← sampleVoices_ahead]
    simp only [sampleVoice, sample, again, streamSample_ahead, moves]
  have settled : (s.frameLeft v x f more).settled := hq.1
  have ignores : (s.frameLeft v x f more).ignores (.sys 3) := hq.2.2
  have writes : WritesS3 (s.frameLeft v x f more) (outputSampleAll (s.frameLeft v x f more)) := by
    rw [outputSampleAll_eq]
    exact (sampleVoices_writesS3 ..).trans (.of_same rfl rfl rfl)
  have all : outputSampleAll s = (outputSampleAll (s.frameLeft v x f more)).ahead waiting := by
    rw [outputSampleAll_eq, outputSampleAll_eq, fold]
    rfl
  rw [run_of_settled hq.1, run_of_settled settled, writes.drain settled.2 ignores, all]
  refine congrArg _ (drain_ignored (c := .sys 3) (s := (outputSampleAll (s.frameLeft v x f more)).ahead waiting)
    (writes.ignores ignores) fun w h => ?_)
  obtain h | h := List.mem_append.mp h
  · exact hw w h
  · exact (writes.waits w h).elim (fun e => by rw [settled.2] at e; simp at e) id

/-- Settles O57. -/
theorem outputSampleMixesTheVoices : Obligations.OutputSampleMixesTheVoices := by
  intro s hs sounds sampled sample after tones'
  have after_eq (w : VoiceId) : after w = (s.voice w).advanced := rfl
  have tones_eq : tones' = tones s := by
    simp only [tones, allVoices, List.map_cons, List.map_nil, List.sum_cons, List.sum_nil]
    show sample 0 + sample 1 + sample 2 + sample 3 = sample 0 + (sample 1 + (sample 2 + (sample 3 + 0)))
    omega
  refine ⟨fun plain => ?all, fun v n rest hq hv hn hk hc others => ?stream⟩
  case all =>
    have fold := sampleVoices_plain (vs := allVoices) (t := s) (by decide) (fun w _ n rest => plain w n rest) 0
    obtain ⟨voices, keeps⟩ := s.advanceAll_keeps allVoices
    have all : s.advanceAll allVoices = { s with voices := { q0 := after 0, q1 := after 1, q2 := after 2, q3 := after 3 } } := rfl
    refine run_eq_of_nil (f := outputSampleAll) hs ?_ hs.2
    rw [outputSampleAll_eq, fold, mix_eq, all, Int.zero_add, tones_eq]
    rfl
  case stream =>
    intro r gives ended
    have plain (w : VoiceId) (hw : w ≠ v) : (s.voice w).Plain := fun m rest hs hm => others w m rest hw hs hm
    have silent : (s.voice v).tone s.wavetables = 0 :=
      (Voice.tone_silent (fun m _ hm ⟨_, e⟩ => by
        rw [show (s.voice v).notes = n :: rest from hn] at hm
        obtain ⟨rfl, -⟩ := List.cons.inj hm
        rw [hk] at e
        exact absurd e (by simp)) _).1
    have beside {P : State → State} {out : Int} (hP : OfVoice v P)
        (acts : ∀ t, Sounding s (pagesOfAll r.stream) t t → t.voice v = r → t.hubTime = s.hubTime →
          ∃ u, streamSample (r.stream.length + 1) v n t = (out, u) ∧ Sounding s 0 (P t) u) : gives out (P s) := by
      have run := run_outputSample_beside hs hP plain silent (out := out) fun t ht hvt htime => by
        obtain ⟨u, step, sounding⟩ := acts t ht hvt htime
        have stream := voiceSample_stream (t := t) (w := v) (n := n) (rest := rest) (by rw [hvt]; exact hn)
          (by rw [hvt]; exact hv) hk
        rw [stream, hvt, show (s.voice v).stream.length = r.stream.length from rfl, step]
        exact ⟨rfl, sounding⟩
      rw [← tones_eq] at run
      exact run
    refine ⟨fun he hp => ?starves, fun he hr => ?out, fun f more hf => ?frame⟩
    case starves =>
      refine beside (.map fun x => x.starving s.hubTime) fun t ht hvt htime =>
        ⟨_, (streamSample_nil (by rw [hvt]; exact he)).trans (congrArg _ (if_neg ?_)), ?_⟩
      · rw [hvt, hp]
        simp
      · rw [enterStarved, htime]
        exact (ht.setVoice v _).less (Nat.zero_le _)
    case out =>
      refine beside (.streamEnded r n rest) fun t ht hvt _ =>
        ⟨_, (streamSample_nil (by rw [hvt]; exact he)).trans (congrArg _ (if_pos (by rw [hvt]; exact hr))), ?_⟩
      have ends := ht.streamEnds (v := v) (n := n) (rest := rest) (by rw [hvt]; exact hn) hc (by rw [hvt]; exact hv)
      rw [hvt, if_pos hr] at ends
      exact ends.less (Nat.zero_le _)
    case frame =>
      intro freed ends
      have frees {x : Voice} {t : State} (hx : x.stream = r.stream) (ht : Sounding s (pagesOfAll r.stream) t t) :
          Sounding s (pagesOfAll more) (t.frameLeft v x f more) (freeCurrentFrame v (t.setVoice v x)) := by
        rw [hf] at hx ht
        have h := (ht.setVoice v x).freeCurrentFrame (v := v) hq (by rw [State.voice_setVoice_same]; exact hx)
        rw [State.voice_setVoice_same, State.frameLeft, State.setVoice_setVoice] at h
        exact h
      have ends_after {x : Voice} {t : State} (hn : x.notes = n :: rest) (hv : x.sounds = true)
          (hx : x.stream = r.stream) (ht : Sounding s (pagesOfAll r.stream) t t)
          (he : x.state = .releasing ∨ f.flags.getLsbD 1 = true) :
          Sounding s 0 ((t.frameLeft v x f more).streamEnded v x n rest) (afterFrame v f (freeCurrentFrame v (t.setVoice v x))) := by
        have h := (frees hx ht).afterFrame_ends (v := v) (f := f) (n := n) (rest := rest) (by rw [State.frameLeft_voice]; exact hn) hc
          (by rw [State.frameLeft_voice]; exact hv) (by rw [State.frameLeft_voice]; exact he)
        rw [State.frameLeft_voice] at h
        exact h.less (Nat.zero_le _)
      have goes_on {x : Voice} {t : State} (hx : x.stream = r.stream) (ht : Sounding s (pagesOfAll r.stream) t t)
          (he : ¬ (x.state = .releasing ∨ f.flags.getLsbD 1 = true)) (htime : t.hubTime = s.hubTime) :
          Sounding s (pagesOfAll more) (if more = [] then (t.frameLeft v x f more).setVoice v
            (((t.frameLeft v x f more).voice v).starving s.hubTime) else t.frameLeft v x f more)
            (afterFrame v f (freeCurrentFrame v (t.setVoice v x))) := by
        have h := (frees hx ht).afterFrame_goesOn (v := v) (f := f) (by rw [State.frameLeft_voice]; exact he)
        rw [show (t.frameLeft v x f more).hubTime = s.hubTime from htime] at h
        have stream : ((t.frameLeft v x f more).voice v).stream = more := by rw [State.frameLeft_voice]
        rw [stream] at h
        exact h
      refine ⟨fun hw hi => ?uses, fun hx => ?frees⟩
      case uses =>
        intro out
        have use {t : State} (hvt : t.voice v = r) {fuel : Nat} : streamSample (fuel + 1) v n t = (out,
            if num8 f.payload 1 = 1 ∧ r.secondUse = false then t.setVoice v { r with secondUse := true }
            else if r.playIndex + 1 < f.samples then t.setVoice v { r with playIndex := r.playIndex + 1, secondUse := false }
            else afterFrame v f (freeCurrentFrame v (t.setVoice v r))) := by
          have h := streamSample_use (t := t) (v := v) (n := n) (f := f) (more := more) (fuel := fuel) (by rw [hvt]; exact hf) hw
            (by rw [hvt]; exact hi)
          have self : t.setVoice v r = t := by rw [← hvt, State.setVoice_voice]
          rw [hvt] at h
          rw [self]
          exact h
        refine ⟨fun twice first => ?_, fun once => ?_⟩
        · exact beside (.map fun _ => { r with secondUse := true }) fun t ht hvt _ =>
            ⟨_, (use hvt).trans (congrArg _ (if_pos ⟨twice, first⟩)), (ht.setVoice v _).less (Nat.zero_le _)⟩
        · have next : ¬ (num8 f.payload 1 = 1 ∧ r.secondUse = false) := by
            rintro ⟨twice, first⟩
            obtain once | second := once
            · omega
            · rw [second] at first
              exact absurd first (by simp)
          refine ⟨fun hl => ?_, fun hl => ?_⟩
          · exact beside (.map fun _ => { r with playIndex := r.playIndex + 1, secondUse := false }) fun t ht hvt _ =>
              ⟨_, (use hvt).trans (congrArg _ ((if_neg next).trans (if_pos hl))), (ht.setVoice v _).less (Nat.zero_le _)⟩
          · have last : ¬ r.playIndex + 1 < f.samples := by omega
            intro t
            refine ⟨fun he => ?_, fun he => ?_⟩
            · exact beside ((OfVoice.streamEnded r n rest).comp (.frameLeft r f more)) fun t ht hvt _ =>
                ⟨_, (use hvt).trans (congrArg _ ((if_neg next).trans (if_neg last))), ends_after hn hv rfl ht he⟩
            · exact beside (.frameLeft_starves r f more s.hubTime) fun t ht hvt htime =>
                ⟨_, (use hvt).trans (congrArg _ ((if_neg next).trans (if_neg last)))
                  , (goes_on rfl ht he htime).less (Nat.zero_le _)⟩
      case frees =>
        intro t
        obtain ⟨x, hxr⟩ : ∃ x, x = if f.wellFormedStream then r
            else { r with formatErrors := min 65535 (r.formatErrors + 1) } := ⟨_, rfl⟩
        have left : t = s.frameLeft v x f more := by rw [hxr]; rfl
        obtain ⟨notes, state, stream, loopOn, stopMarker⟩ : x.notes = r.notes ∧ x.state = r.state ∧ x.stream = r.stream ∧
            x.loopOn = r.loopOn ∧ x.stopMarker = r.stopMarker := by
          rw [hxr]
          split <;> exact ⟨rfl, rfl, rfl, rfl, rfl⟩
        have sounding : x.sounds = true := by rw [Voice.sounds, state]; exact hv
        have end_eq (t : State) : t.streamEnded v x n rest = t.streamEnded v r n rest := by
          simp only [State.streamEnded, state, loopOn, stopMarker]
        have step {t : State} (hvt : t.voice v = r) {fuel : Nat} : streamSample (fuel + 1) v n t =
            if r.endsWith f = true ∨ more = [] then (0, afterFrame v f (freeCurrentFrame v (t.setVoice v x)))
            else streamSample fuel v n (afterFrame v f (freeCurrentFrame v (t.setVoice v x))) := by
          have h := streamSample_freed (t := t) (v := v) (n := n) (f := f) (more := more) (fuel := fuel) (by rw [hvt]; exact hf)
            (by rw [hvt]; exact hx)
          rw [hvt] at h
          rw [hxr]
          exact h
        refine ⟨fun he => ?_, fun he hm => ?_, fun he hm => ?_⟩
        · rw [left]
          refine beside ((OfVoice.streamEnded r n rest).comp (.frameLeft x f more)) fun t ht hvt _ =>
            ⟨_, (step hvt).trans (if_pos (.inl (endsWith_iff.mpr he))), ?_⟩
          rw [← end_eq]
          exact ends_after (notes.trans hn) sounding stream ht (by rw [state]; exact he)
        · rw [left]
          have starves := beside (.frameLeft_starves x f more s.hubTime) fun t ht hvt htime =>
            ⟨_, (step hvt).trans (if_pos (.inr hm)), (goes_on stream ht (by rw [state]; exact he) htime).less (Nat.zero_le _)⟩
          rw [if_pos hm] at starves
          exact starves
        · rw [left]
          refine run_outputSample_freed hq plain (notes.trans hn) sounding hk fun t ht hvt htime =>
            ⟨afterFrame v f (freeCurrentFrame v (t.setVoice v x)), ?_, ?_⟩
          · have length : r.stream.length = more.length + 1 := by rw [hf, List.length_cons]
            rw [voiceSample_stream (t := t) (w := v) (n := n) (rest := rest) (by rw [hvt]; exact hn) (by rw [hvt]; exact hv) hk
              , step hvt, if_neg (not_or.mpr ⟨fun e => he (endsWith_iff.mp e), hm⟩), hvt, ← length]
          · have goes := goes_on stream ht (by rw [state]; exact he) htime
            rw [if_neg hm] at goes
            exact goes

end Sys2Proof.Machine
end

section
/-!
The control period of a motor (chapters 06 and 07): its profile, its duty and its stall test as what the statements say of the
motor.
-/
namespace Sys2Proof.Machine

variable {m : Motor} {rated : Nat} {g : Segment} {rest : List Segment} {x : Int} {s : State} {p : Port} {current : Int}

/-! ## The profile (R103 to R107) -/

theorem Motor.endHead_eq (h : m.queue = g :: rest) (rated : Nat) : m.endHead rated = m.pastHead rated g rest := by
  unfold Motor.endHead
  rw [h]
  cases rest with
  | nil => exact m.endWith_eq g.endAction g.accel
  | cons next rest => exact m.start_continuous (next :: rest) rated next

/-- The motor after step 2 of its period: a head that SETTLING ended is followed by what comes behind it (R106, R107). -/
def Motor.progress (m : Motor) (rated : Nat) : Motor :=
  if (m.profile rated).settle.2.isSome then (m.profile rated).settle.1.endHead rated else (m.profile rated).settle.1

theorem Motor.settle_not (h : m.state ≠ .settling) : m.settle = (m, none) := by
  unfold Motor.settle
  split
  · exact absurd ‹_› h
  · rfl

theorem Motor.settle_near (hs : m.state = .settling) (h : (m.x - m.target.getD m.x).natAbs ≤ m.settings.tolerance) :
    m.settle = (m, some .completed) := by
  unfold Motor.settle
  split
  · exact if_pos h
  · exact absurd hs ‹_›

/-- A motor that counts one more settle period. -/
def Motor.settledLonger (m : Motor) : Motor := { m with settlePeriods := m.settlePeriods + 1 }

theorem Motor.settle_far (hs : m.state = .settling) (h : ¬ (m.x - m.target.getD m.x).natAbs ≤ m.settings.tolerance) :
    m.settle = (m.settledLonger, if m.settings.settleTimeout ≤ m.settlePeriods + 1 then some .notSettled else none) := by
  unfold Motor.settle
  split
  · exact if_neg h
  · exact absurd hs ‹_›

/-- The test of SETTLING, in the terms of the statements (R106). -/
theorem Motor.settle_eq (hs : m.state = .settling) (hq : m.queue = g :: rest) (ht : m.target = some x) (rated : Nat) :
    (if m.settle.2.isSome then m.settle.1.endHead rated else m.settle.1) = m.settles rated x g rest := by
  have target : m.target.getD m.x = x := by rw [ht]; rfl
  unfold Motor.settles
  by_cases near : (m.x - x).natAbs ≤ m.settings.tolerance
  · rw [Motor.settle_near hs (by rw [target]; exact near), if_pos near]
    exact m.endHead_eq hq rated
  · rw [Motor.settle_far hs (by rw [target]; exact near), if_neg near]
    by_cases out : m.settings.settleTimeout ≤ m.settlePeriods + 1
    · rw [if_pos out]
      exact (Motor.endHead_eq (m := m.settledLonger) hq rated).trans (if_pos out).symm
    · rw [if_neg out]
      exact (if_neg out).symm

theorem Motor.progress_of_profile {n : Motor} (h : m.profile rated = n) (hn : n.state ≠ .settling) : m.progress rated = n := by
  rw [Motor.progress, h, Motor.settle_not hn]
  rfl

/-- A motor at rest has no profile. -/
theorem Motor.progress_rest (h : m.state = .idle ∨ m.state = .stalled ∨ m.state = .locked) : m.progress rated = m := by
  refine Motor.progress_of_profile ?_ (by obtain h | h | h := h <;> simp [h])
  obtain h | h | h := h <;> simp only [Motor.profile, h]

theorem Motor.progress_settling (hs : m.state = .settling) (hq : m.queue = g :: rest) (ht : m.target = some x) :
    m.progress rated = m.settles rated x g rest := by
  have still : m.profile rated = m := by simp only [Motor.profile, hs]
  rw [Motor.progress, still]
  exact m.settle_eq hs hq ht rated

/-- A step of HOLDING. -/
def Motor.holds (m : Motor) : Motor := { m.steps 0 m.holdAccel with p := m.p + (m.steps 0 m.holdAccel).v }

theorem Motor.progress_holding (hs : m.state = .holding) : m.progress rated = m.holds := by
  refine Motor.progress_of_profile ?_ ?_
  · obtain ⟨⟩ := m
    dsimp only at hs
    subst hs
    rfl
  · show m.state ≠ .settling
    simp [hs]

/-- A step of a RUN_SPEED head, of which the motor has run `runs` periods. -/
def Motor.runsSpeed (m : Motor) (g : Segment) (runs : Nat) : Motor :=
  { m.steps g.speed g.accel with p := m.p + (m.steps g.speed g.accel).v, periodsRun := runs }

theorem Motor.profile_running (hs : m.state = .running) (hq : m.queue = g :: rest) :
    m.profile rated = match g.kind with
      | .runSpeed => m.runsSpeed g (min 65535 (m.periodsRun + 1))
      | .runDuty => { m with
          p := 1000 * m.x, v := clampInt (-(rated : Int)) rated m.speed, periodsRun := min 65535 (m.periodsRun + 1) }
      | .runTo | .runBy => m.moveTo g (m.target.getD m.x) := by
  obtain ⟨⟩ := m
  dsimp only at hs hq
  subst hs hq
  rfl

theorem Motor.progress_runSpeed (hs : m.state = .running) (hq : m.queue = g :: rest) (hk : g.kind = .runSpeed) :
    m.progress rated = m.runsSpeed g (min 65535 (m.periodsRun + 1)) := by
  refine Motor.progress_of_profile ((m.profile_running hs hq).trans (by rw [hk])) ?_
  show m.state ≠ .settling
  simp [hs]

theorem Motor.progress_runDuty (hs : m.state = .running) (hq : m.queue = g :: rest) (hk : g.kind = .runDuty) :
    m.progress rated = { m with
      p := 1000 * m.x, v := clampInt (-(rated : Int)) rated m.speed, periodsRun := min 65535 (m.periodsRun + 1) } := by
  refine Motor.progress_of_profile ((m.profile_running hs hq).trans (by rw [hk])) ?_
  show m.state ≠ .settling
  simp [hs]

theorem targetSpeed_eq (v r vmax : Int) (a : Nat) : targetSpeed v r vmax a = if v ≠ 0 ∧ v.sign ≠ r.sign then 0
    else if r.natAbs ≤ 500 * v.natAbs * v.natAbs / a + v.natAbs then 0 else r.sign * vmax := by
  exact if_congr (by rw [Bool.and_eq_true, decide_eq_true_eq, decide_eq_true_eq]) rfl rfl

theorem profileDone_iff {v r : Int} :
    profileDone v r = true ↔ (r = 0 ∧ v = 0) ∨ (v ≠ 0 ∧ v.sign = r.sign ∧ r.natAbs ≤ v.natAbs) := by
  simp only [profileDone, Bool.or_eq_true, Bool.and_eq_true, decide_eq_true_eq, and_assoc]

/-- A RUN_TO or RUN_BY head with target `x` after one speed step. -/
def Motor.nears (m : Motor) (g : Segment) (x : Int) : Motor :=
  { m.steps (targetSpeed m.v (1000 * x - m.p) g.speed.natAbs g.accel) g.accel with periodsRun := min 65535 (m.periodsRun + 1) }

/-- A motor whose profile is done settles at its target. -/
def Motor.arrives (m : Motor) (x : Int) : Motor := { m with p := 1000 * x, v := 0, acc := 0, state := .settling }

theorem Motor.moveTo_eq (m : Motor) (g : Segment) (x : Int) : m.moveTo g x =
    if profileDone (m.nears g x).v (1000 * x - m.p) then (m.nears g x).arrives x
    else { m.nears g x with p := m.p + (m.nears g x).v } := rfl

theorem Motor.approaches_eq (m : Motor) (rated : Nat) (x : Int) (g : Segment) (rest : List Segment) :
    m.approaches rated x g rest =
      if profileDone (m.nears g x).v (1000 * x - m.p) then ((m.nears g x).arrives x).settles rated x g rest
      else { m.nears g x with p := m.p + (m.nears g x).v } := by
  simp only [profileDone_iff, Motor.nears, targetSpeed_eq]
  rfl

/-- A RUN_TO or RUN_BY head approaches its target (R105). -/
theorem Motor.progress_approaches (hs : m.state = .running) (hq : m.queue = g :: rest) (hk : g.kind = .runTo ∨ g.kind = .runBy)
    (ht : m.target = some x) : m.progress rated = m.approaches rated x g rest := by
  have profile : m.profile rated = m.moveTo g x := by
    rw [m.profile_running hs hq, ht]
    obtain hk | hk := hk <;> rw [hk] <;> rfl
  rw [Motor.progress, profile, Motor.moveTo_eq, Motor.approaches_eq]
  by_cases done : profileDone (m.nears g x).v (1000 * x - m.p) = true
  · simp only [if_pos done]
    exact Motor.settle_eq (m := (m.nears g x).arrives x) rfl hq ht rated
  · have going : ({ m.nears g x with p := m.p + (m.nears g x).v } : Motor).state ≠ .settling := by
      show m.state ≠ .settling
      simp [hs]
    simp only [if_neg done]
    rw [Motor.settle_not going]
    rfl

/-! ## The duty and the stall test (R117 to R125) -/

/-- The output is DRIVEN exactly while the motor runs, settles or holds (R95). -/
def Motor.Driven (m : Motor) : Prop := m.output = .driven ↔ m.state = .running ∨ m.state = .settling ∨ m.state = .holding

/-- A motor after steps 3 to 5 of its period, but for a stall. -/
def Motor.powered (m : Motor) (s : State) (current : Int) : Motor :=
  let f := { m with foldback := m.foldbackAfter current }.applied s.supply.state.dutyCap (demand m s)
  { f with stallTimer := if f.stalling (demand m s) then satAdd 65535 f.stallTimer 1 else 0 }

theorem Motor.path_driven (h : m.output = .driven) (hd : m.Driven) : m.path =
    match m.queue with
    | g :: _ => if m.state = .running ∧ g.kind = .runDuty then .duty g.duty else .law
    | [] => .law := by
  have state := hd.mp h
  obtain ⟨⟩ := m
  dsimp only at state
  obtain rfl | rfl | rfl := state
  · dsimp only [Motor.path]
    split
    · simp only [true_and]
    · rfl
  · dsimp only [Motor.path]
    split <;> rfl
  · dsimp only [Motor.path]
    split <;> rfl

theorem Motor.path_off (h : m.output ≠ .driven) (hd : m.Driven) : m.path = .off := by
  have still := fun e => h (hd.mpr e)
  unfold Motor.path
  split
  · exact absurd (.inl ‹_›) still
  · exact absurd (.inr (.inl ‹_›)) still
  · exact absurd (.inr (.inr ‹_›)) still
  · rfl

/-- A motor with another integral. -/
def Motor.withIntegral (m : Motor) (i : Int) : Motor := { m with integral := i }

theorem dutyCap_eq (x : SupplyState) : x.dutyCap = capOf x := by cases x <;> rfl

/-- A motor that drives, for its demand. -/
theorem Motor.powered_driven (h : m.output = .driven) : m.powered s current =
    (m.drives s current (demand m s)).withIntegral
      (m.integralAfter (demand m s) (m.drives s current (demand m s)).duty) := by
  generalize hc : demand m s = comp
  rw [Motor.powered, hc, dutyCap_eq]
  clear hc
  obtain ⟨⟩ := m
  dsimp only at h
  subst h
  simp only [Motor.applied, Motor.stalling, if_true, decide_true, Bool.true_and, Bool.and_eq_true, decide_eq_true_eq]
  rfl

theorem Motor.powered_off (h : m.output ≠ .driven) (path : m.path = .off) : m.powered s current = m.rests current := by
  have none : demand m s = 0 := by rw [demand, path]
  have off : { m with foldback := m.foldbackAfter current }.applied s.supply.state.dutyCap 0 =
      { m with foldback := m.foldbackAfter current, duty := 0, bridge := m.output } := by
    have integral : ({ m with foldback := m.foldbackAfter current } : Motor).integralAfter 0 0 = m.integral := by
      rw [Motor.integralAfter, show ({ m with foldback := m.foldbackAfter current } : Motor).path = m.path from rfl, path]
    rw [Motor.applied, if_neg h, integral]
  have still : ({ m with foldback := m.foldbackAfter current, duty := 0, bridge := m.output } : Motor).stalling 0 = false := by
    simp only [Motor.stalling, h, decide_false, Bool.false_and]
  rw [Motor.powered, none, off, still]
  rfl

theorem Motor.demand_law (path : m.path = .law) : demand m s = m.compensates s
    ((m.settings.kp * clampInt (-1000000) 1000000 (m.p - 1000 * m.x) + m.settings.ki *
      (clampInt (-(m.settings.integralLimit : Int)) m.settings.integralLimit
        (m.integral + clampInt (-1000000) 1000000 (m.p - 1000 * m.x))).tdiv 64 + m.settings.kf * m.v + 2048).fdiv 4096) := by
  rw [demand, path]
  rfl

theorem Motor.demand_duty {d : Int} (path : m.path = .duty d) : demand m s = m.compensates s d := by
  rw [demand, path]
  rfl

theorem Motor.powered_law (h : m.output = .driven) (path : m.path = .law) : m.powered s current = m.drivesByLaw s current := by
  rw [m.powered_driven h, m.demand_law path, Motor.integralAfter, path]
  dsimp only
  exact congrArg (Motor.withIntegral _) (if_congr (by rw [Bool.and_eq_true, decide_eq_true_eq, decide_eq_true_eq]; rfl) rfl rfl)

theorem Motor.powered_duty {d : Int} (h : m.output = .driven) (path : m.path = .duty d) :
    m.powered s current = m.drivesAtDuty s current d := by
  rw [m.powered_driven h, m.demand_duty path, Motor.integralAfter, path]
  rfl

/-- Steps 3 to 5 of a period, in the terms of the statements (R117 to R125). -/
theorem Motor.powered_eq (hd : m.Driven) : m.powered s current = m.takesPath s current := by
  by_cases h : m.output = .driven
  · have path := Motor.path_driven h hd
    rw [Motor.takesPath, if_neg (not_not.mpr h)]
    cases hq : m.queue with
    | nil =>
      rw [hq] at path
      exact m.powered_law h path
    | cons g rest =>
      rw [hq] at path
      dsimp only at path ⊢
      by_cases duty : m.state = .running ∧ g.kind = .runDuty
      · rw [if_pos duty] at path ⊢
        exact m.powered_duty h path
      · rw [if_neg duty] at path ⊢
        exact m.powered_law h path
  · rw [Motor.takesPath, if_pos h]
    exact m.powered_off h (Motor.path_off h hd)

end Sys2Proof.Machine
end

section
/-!
Settles PeriodAtRestMeasuresTheMotor and DrivenPeriodFollowsItsPath: the control period of a motor that sends no notice, on a
port that nothing watches (chapters 06 and 07).
-/
namespace Sys2Proof.Machine

variable {m n f : Motor} {rated : Nat} {g : Segment} {rest : List Segment} {s t u : State} {p : Port} {current : Int}
  {c : Prop} {o : Phase} {k : Nat}

/-! ## What a period keeps of its motor -/

/-- `n` is `m` with another motion: its class, its settings, its measurements and its foldback limit are those of `m`, and it
holds no segment that `m` does not. -/
structure Motor.Moves (m n : Motor) : Prop where
  cls : n.cls = m.cls
  settings : n.settings = m.settings
  x : n.x = m.x
  speed : n.speed = m.speed
  foldback : n.foldback = m.foldback
  queue : ∀ g ∈ n.queue, g ∈ m.queue

theorem Motor.Moves.refl (m : Motor) : m.Moves m := ⟨rfl, rfl, rfl, rfl, rfl, fun _ h => h⟩

theorem Motor.Moves.trans {l : Motor} (h : l.Moves m) (h' : m.Moves n) : l.Moves n :=
  ⟨h'.cls.trans h.cls, h'.settings.trans h.settings, h'.x.trans h.x, h'.speed.trans h.speed, h'.foldback.trans h.foldback
  , fun g hg => h.queue g (h'.queue g hg)⟩

theorem Motor.Moves.silent (h : m.Moves n) (hm : m.silent) : n.silent :=
  ⟨by rw [h.settings]; exact hm.1, fun g hg => hm.2 g (h.queue g hg)⟩

theorem Motor.endedWith_moves (m : Motor) (a : EndAction) (accel : Nat) : m.Moves (m.endedWith a accel) := by
  cases a <;> exact ⟨rfl, rfl, rfl, rfl, rfl, fun _ h => by cases h⟩

theorem Motor.pastHead_moves (hq : m.queue = g :: rest) : m.Moves (m.pastHead rated g rest) := by
  cases rest with
  | nil => exact m.endedWith_moves ..
  | cons next rest => exact ⟨rfl, rfl, rfl, rfl, rfl, fun h hh => by rw [hq]; exact List.mem_cons_of_mem _ hh⟩

theorem Motor.endHead_moves (m : Motor) (rated : Nat) : m.Moves (m.endHead rated) := by
  cases hq : m.queue with
  | nil => rw [Motor.endHead, hq]; exact .refl m
  | cons g rest => rw [Motor.endHead_eq hq]; exact Motor.pastHead_moves hq

theorem Motor.profile_moves (m : Motor) (rated : Nat) : m.Moves (m.profile rated) ∧ (m.profile rated).queue = m.queue := by
  unfold Motor.profile
  split
  · split
    · split
      · exact ⟨⟨rfl, rfl, rfl, rfl, rfl, fun _ h => h⟩, rfl⟩
      · exact ⟨⟨rfl, rfl, rfl, rfl, rfl, fun _ h => h⟩, rfl⟩
      all_goals
        rw [Motor.moveTo_eq]
        split
        · exact ⟨⟨rfl, rfl, rfl, rfl, rfl, fun _ h => h⟩, rfl⟩
        · exact ⟨⟨rfl, rfl, rfl, rfl, rfl, fun _ h => h⟩, rfl⟩
    · exact ⟨.refl m, rfl⟩
  · exact ⟨⟨rfl, rfl, rfl, rfl, rfl, fun _ h => h⟩, rfl⟩
  · exact ⟨.refl m, rfl⟩

theorem Motor.settle_moves (m : Motor) : m.Moves m.settle.1 ∧ m.settle.1.queue = m.queue := by
  by_cases hs : m.state = .settling
  · by_cases near : (m.x - m.target.getD m.x).natAbs ≤ m.settings.tolerance
    · rw [Motor.settle_near hs near]
      exact ⟨.refl m, rfl⟩
    · rw [Motor.settle_far hs near]
      exact ⟨⟨rfl, rfl, rfl, rfl, rfl, fun _ h => h⟩, rfl⟩
  · rw [Motor.settle_not hs]
    exact ⟨.refl m, rfl⟩

theorem Motor.progress_moves (m : Motor) (rated : Nat) : m.Moves (m.progress rated) := by
  have settled := (m.profile_moves rated).1.trans (m.profile rated).settle_moves.1
  unfold Motor.progress
  split
  · exact settled.trans (Motor.endHead_moves ..)
  · exact settled

/-! ## Steps 1 and 2 -/

theorem finishHead_silent {a : SegOutcome} (h : m.silent) :
    finishHead p a m s = s.setMotor p (some (m.endHead (s.classes.get m.cls).ratedMax)) := by
  refine moveMotor_silent (fun e he => ?_) ((Motor.endHead_settings ..).symm ▸ h.1)
  obtain ⟨g, hg, rfl⟩ := List.mem_map.mp he
  exact h.2 g (List.mem_of_mem_take hg)

theorem measurePeriod_silent (h : m.settings.noticeRoute = none) : measurePeriod p m s = s.setMotor p (some m.measured) := by
  unfold measurePeriod
  dsimp only
  split
  · rfl
  · exact reportState_silent (m := m.measured) h

theorem profilePeriod_silent (h : m.silent) :
    profilePeriod p m s = s.setMotor p (some (m.progress (s.classes.get m.cls).ratedMax)) := by
  have profile := (m.profile_moves (s.classes.get m.cls).ratedMax).1
  have settled := profile.trans (Motor.settle_moves _).1
  have put : moveMotor p m (m.profile (s.classes.get m.cls).ratedMax) [] s =
      s.setMotor p (some (m.profile (s.classes.get m.cls).ratedMax)) :=
    moveMotor_silent (fun _ he => by cases he) (profile.silent h).1
  unfold profilePeriod Motor.progress
  dsimp only
  rw [put, State.setMotor_setMotor]
  cases ended : (m.profile (s.classes.get m.cls).ratedMax).settle.2 with
  | none => rfl
  | some a =>
    refine (finishHead_silent (settled.silent h)).trans ?_
    rw [State.setMotor_setMotor, settled.cls]
    rfl

theorem onMotor_setMotor {F : Motor → State → State} : onMotor p F (s.setMotor p (some m)) = F m (s.setMotor p (some m)) :=
  onMotor_some (State.motor_setMotor_same ..)

theorem Motor.inForce_none (h : m.loaded = none) : m.inForce = m := by
  obtain ⟨⟩ := m
  dsimp only at h
  subst h
  rfl

/-- Steps 1 and 2 of a period with no record loaded. -/
theorem motionPeriod_silent (h : m.silent) (hl : m.loaded = none) :
    motionPeriod p m s = s.setMotor p (some (m.measured.progress (s.classes.get m.cls).ratedMax)) := by
  rw [motionPeriod, Motor.inForce_none hl, hl, onMotor_setMotor, measurePeriod_silent h.1, State.setMotor_setMotor]
  exact onMotor_setMotor.trans ((profilePeriod_silent (m := m.measured) h).trans State.setMotor_setMotor)

/-! ## Steps 3 to 5 -/

/-- A motor that its stall test halts (R110, R125). -/
def Motor.stallsOut (m : Motor) : Motor := { m.stoppedIn .stalled .coast with stallTimer := 0 }

/-- The stall timer has reached the stall time (R125). -/
abbrev Motor.stallsNow (m : Motor) : Prop := m.stallTimer ≠ 0 ∧ m.settings.stallTime ≤ m.stallTimer

/-- The motor of a port is left as `n`, and MOTOR_FAULT is set for a fall of the foldback limit and for a stall (R121, R125). -/
def State.driven (t : State) (p : Port) (folds stalls : Prop) [Decidable folds] [Decidable stalls] (n : Motor) : State :=
  let r := t.setMotor p (some n)
  let r := if folds then r.flagSet p 4 else r
  if stalls then r.flagSet p 4 else r

theorem State.flagSet_setMotor (t : State) (p : Port) (j : Nat) (x : Option Motor) :
    (t.flagSet p j).setMotor p x = (t.setMotor p x).flagSet p j := by
  unfold State.flagSet
  dsimp only
  rw [apply_ite (State.setMotor · p x), apply_ite (State.setMotor · p x)]
  rfl

theorem State.flagReported_unrouted (t : State) (p : Port) (j : Nat) (h : (t.port p).settings.eventRoute = none) :
    t.flagReported p j = t.flagSet p j := by
  cases hf : (t.flag p).flags.getLsbD j with
  | true => rw [State.flagReported_set hf, State.flagSet, if_pos hf]
  | false =>
    rw [State.flagSet_of_clear hf]
    cases hm : (t.flag p).mask.getLsbD j with
    | true =>
      rw [State.flagReported_raised hf hm, State.flagEvent]
      exact congrArg (State.event _ · _) h
    | false => exact State.flagReported_masked hf hm

theorem PortActs.setFlag_still {j : Nat} (h : PortActs False o s p (k + 1) t u) :
    PortActs False o s p k (t.flagSet p j) (Machine.setFlag p j u) := by
  have done := h.setFlag (j := j)
  rwa [State.flagReported_unrouted _ _ _ (h.route.resolve_right id)] at done

/-- A motor with another foldback limit and duty: step 4 of a period (R121 to R124). -/
def Motor.dutySet (m : Motor) (s : State) (current : Int) : Motor :=
  { m with foldback := m.foldbackAfter current }.applied s.supply.state.dutyCap (demand m s)

theorem PortActs.dutyPeriod (h : PortActs False o s p (k + 1) t u) (hs : u.supply = t.supply) (hd : demand m u = demand m t) :
    PortActs False o s p k
      (if 1000 < m.foldback ∧ m.foldbackAfter current = 1000 then (t.setMotor p (some (m.dutySet t current))).flagSet p 4
        else t.setMotor p (some (m.dutySet t current)))
      (Machine.dutyPeriod p current (demand m u) m u) := by
  rw [Machine.dutyPeriod, hs, hd]
  have put := h.setMotor (some (m.dutySet t current))
  by_cases folds : 1000 < m.foldback ∧ m.foldbackAfter current = 1000
  · rw [if_pos folds, if_pos (by simpa using folds)]
    exact put.setFlag_still
  · rw [if_neg folds, if_neg (by simpa using folds)]
    exact put.less

theorem Motor.dutySet_powered (m : Motor) (s : State) (current : Int) : m.powered s current =
    { m.dutySet s current with
      stallTimer := if (m.dutySet s current).stalling (demand m s) then min 65535 (m.stallTimer + 1) else 0 } := rfl

/-- A motor with another stall timer. -/
def Motor.timed (m : Motor) (n : Nat) : Motor := { m with stallTimer := n }

theorem reportStall_silent (h : m.silent) : reportStall p m s =
    (Machine.setFlag p 4 (s.setMotor p (some (m.timed 0)))).setMotor p (some m.stallsOut) :=
  moveMotor_silent (ended_silent h .stalled) h.1

/-- Step 5 of a period (R125). -/
theorem PortActs.stallPeriod {comp : Int} (h : PortActs False o s p (k + 1) t u) (hm : m.silent) :
    let c := m.timed (if m.stalling comp then min 65535 (m.stallTimer + 1) else 0)
    PortActs False o s p k
      (if c.stallsNow then (t.setMotor p (some c.stallsOut)).flagSet p 4 else t.setMotor p (some c))
      (Machine.stallPeriod p comp m u) := by
  intro c
  unfold Machine.stallPeriod
  by_cases stalling : m.stalling comp = true
  · have timer : c.stallTimer = min 65535 (m.stallTimer + 1) := if_pos stalling
    have counted : c = m.timed (min 65535 (m.stallTimer + 1)) := congrArg m.timed (if_pos stalling)
    have runs : c.stallTimer ≠ 0 := by omega
    rw [if_pos stalling]
    dsimp only [satAdd]
    by_cases out : m.settings.stallTime ≤ min 65535 (m.stallTimer + 1)
    · have stalls : c.stallsNow := ⟨runs, timer.symm ▸ out⟩
      rw [if_pos stalls, if_pos out, reportStall_silent hm]
      have done := ((h.setMotor (some (m.timed 0))).setFlag_still (j := 4)).setMotor (some m.stallsOut)
      rwa [State.flagSet_setMotor, State.setMotor_setMotor] at done
    · have going : ¬ c.stallsNow := fun e => out (timer ▸ e.2)
      rw [if_neg going, if_neg out, counted]
      exact (h.setMotor _).less
  · have rests : c = m.timed 0 := congrArg m.timed (if_neg stalling)
    have going : ¬ c.stallsNow := fun e => e.1 (congrArg Motor.stallTimer rests)
    rw [if_neg stalling, if_neg going, rests]
    exact (h.setMotor _).less

/-- The motor as steps 3 to 5 leave it: halted where its stall timer has reached the stall time. -/
def Motor.afterStall (m : Motor) : Motor := if m.stallsNow then m.stallsOut else m

theorem State.driven_eq {d : Motor} {folds : Prop} [Decidable folds] :
    t.driven p folds m.stallsNow m.afterStall =
      if m.stallsNow then
        ((if folds then (t.setMotor p (some d)).flagSet p 4 else t.setMotor p (some d)).setMotor p (some m.stallsOut)).flagSet p 4
      else (if folds then (t.setMotor p (some d)).flagSet p 4 else t.setMotor p (some d)).setMotor p (some m) := by
  rw [apply_ite (State.setMotor · p (some m)), apply_ite (State.setMotor · p (some m.stallsOut))]
  simp only [State.flagSet_setMotor, State.setMotor_setMotor]
  unfold State.driven Motor.afterStall
  dsimp only
  by_cases stalls : m.stallsNow
  · rw [if_pos stalls, if_pos stalls, if_pos stalls]
  · rw [if_neg stalls, if_neg stalls, if_neg stalls]

/-- Steps 3 to 5 of a period. -/
theorem PortActs.drivePeriod (h : PortActs False o s p (k + 2) t u) (hm : m.silent) (hs : u.supply = t.supply)
    (hd : demand m u = demand m t) :
    PortActs False o s p k
      (t.driven p (1000 < m.foldback ∧ (m.powered t current).foldback = 1000) (m.powered t current).stallsNow
        (m.powered t current).afterStall)
      (Machine.drivePeriod p current m u) := by
  have duty := h.dutyPeriod (m := m) (current := current) hs hd
  have there : (Machine.dutyPeriod p current (demand m u) m u).motor p = some (m.dutySet t current) := by
    rw [duty.acts.motor]
    split
    · exact ((congrArg (State.motor · p) (State.flagSet_setMotor t p 4 _)).symm).trans (State.motor_setMotor_same ..)
    · exact State.motor_setMotor_same ..
  rw [Machine.drivePeriod, onMotor_some there]
  have done := duty.stallPeriod (m := m.dutySet t current) (comp := demand m u) hm
  rw [hd] at done ⊢
  rw [State.driven_eq (d := m.dutySet t current)]
  exact done

/-! ## Step 6 and the end of the period -/

/-- Each cell of a port that the command has not written is written. -/
theorem PortActs.eachFresh {op : State → Fin 4 → State} {g : Fin 4 → Time → Cell → Cell}
    (hop : ∀ i t u, PortActs c o s p k t u → (t.flag p).due = 0 →
      (t.cell (.port p i)).updateCount = (s.cell (.port p i)).updateCount →
      PortActs c o s p k (t.setCell (.port p i) (g i t.hubTime (t.cell (.port p i)))) (op u i))
    (h : PortActs c o s p k t u) (due : (t.flag p).due = 0)
    (fresh : ∀ i, (t.cell (.port p i)).updateCount = (s.cell (.port p i)).updateCount) :
    PortActs c o s p k (t.cellsBy p g) (cellIndices.foldl op u) := by
  have other (i j : Fin 4) (x : State) (e : i ≠ j) (y : Cell) : (x.setCell (.port p i) y).cell (.port p j) = x.cell (.port p j) :=
    State.cell_setCell_other x y fun h => e (CellId.port.inj h).2
  have h0 := hop 0 _ _ h due (fresh 0)
  have h1 := hop 1 _ _ h0 due (by rw [other 0 1 _ (by decide)]; exact fresh 1)
  have h2 := hop 2 _ _ h1 due (by rw [other 1 2 _ (by decide), other 0 2 _ (by decide)]; exact fresh 2)
  have h3 := hop 3 _ _ h2 due (by
    rw [other 2 3 _ (by decide), other 1 3 _ (by decide), other 0 3 _ (by decide)]; exact fresh 3)
  rw [State.cellsBy_eq]
  exact h3

/-- The four cells of a port, none of which the command has written, are written with numbers. -/
theorem PortActs.writeCells {v : Fin 4 → Int} {w : Writer} (h : PortActs c o s p k t u)
    (lo : ∀ i, -2147483648 ≤ v i) (hi : ∀ i, v i ≤ 2147483647) (due : (t.flag p).due = 0)
    (fresh : ∀ i, (t.cell (.port p i)).updateCount = (s.cell (.port p i)).updateCount) :
    PortActs c o s p k (t.cellsBy p fun i now x => x.written now (v i) .valid w)
      (cellIndices.foldl (fun u i => Machine.writePortCell p i (v i) .valid w false u) u) :=
  h.eachFresh (fun i _ _ h due fresh => h.writePortCell (lo i) (hi i) due fresh) due fresh

/-- What the four cells of a motor's port take (R126). -/
def Motor.reading (m : Motor) : Fin 4 → Int
  | 0 => m.x
  | 1 => m.speed
  | 2 => m.duty
  | 3 => m.state.code

/-- The cells of a port written with a motor's numbers. -/
abbrev State.readFrom (t : State) (p : Port) (m : Motor) : State :=
  t.cellsBy p fun i now x => x.written now (m.reading i) .valid .motor

theorem cellsPeriod_eq : cellsPeriod p m u =
    cellIndices.foldl (fun u i => Machine.writePortCell p i (m.reading i) .valid .motor false u) u := by
  simp only [cellsPeriod, cellIndices, List.foldl_cons, List.foldl_nil, Motor.reading]

theorem Motor.reading_bounds (x : m.x ≤ 2147483647 ∧ -2147483648 ≤ m.x) (speed : m.speed ≤ 2147483647 ∧ -2147483648 ≤ m.speed)
    (duty : m.duty.natAbs ≤ 10000) (i : Fin 4) : -2147483648 ≤ m.reading i ∧ m.reading i ≤ 2147483647 := by
  have state : (m.state.code : Int) ≤ 255 := by cases m.state <;> decide
  fin_cases i
  · exact x.symm
  · exact speed.symm
  · show -2147483648 ≤ m.duty ∧ m.duty ≤ 2147483647
    omega
  · show -2147483648 ≤ (m.state.code : Int) ∧ (m.state.code : Int) ≤ 2147483647
    omega

theorem State.flagSet_cellsBy (t : State) (p : Port) (j : Nat) (g : Fin 4 → Time → Cell → Cell) :
    (t.flagSet p j).cellsBy p g = (t.cellsBy p g).flagSet p j := by
  unfold State.flagSet
  dsimp only
  rw [apply_ite (State.cellsBy · p g), apply_ite (State.cellsBy · p g)]
  rfl

theorem State.flagSet_keeps (t : State) (p : Port) (j : Nat) :
    (t.flagSet p j).cells = t.cells ∧ ((t.flagSet p j).flag p).due = (t.flag p).due ∧ (t.flagSet p j).motor p = t.motor p ∧
      (t.flagSet p j).classes = t.classes := by
  unfold State.flagSet
  dsimp only
  split
  · exact ⟨rfl, rfl, rfl, rfl⟩
  · have due (x : State) (r : FlagRec) (h : r.due = (x.flag p).due) : ((x.setFlagRec p r).flag p).due = (x.flag p).due := by
      rw [State.flag_setFlagRec_same, h]
    split
    · exact ⟨rfl, due t _ rfl, rfl, rfl⟩
    · exact ⟨rfl, due t _ rfl, rfl, rfl⟩

theorem State.driven_keeps {folds stalls : Prop} [Decidable folds] [Decidable stalls] :
    (t.driven p folds stalls n).cells = t.cells ∧ ((t.driven p folds stalls n).flag p).due = (t.flag p).due ∧
      (t.driven p folds stalls n).motor p = some n ∧ (t.driven p folds stalls n).classes = t.classes := by
  have put : (t.setMotor p (some n)).cells = t.cells ∧ ((t.setMotor p (some n)).flag p).due = (t.flag p).due ∧
      (t.setMotor p (some n)).motor p = some n ∧ (t.setMotor p (some n)).classes = t.classes :=
    ⟨rfl, rfl, State.motor_setMotor_same .., rfl⟩
  have set {x : State} (h : x.cells = t.cells ∧ (x.flag p).due = (t.flag p).due ∧ x.motor p = some n ∧ x.classes = t.classes) :
      (x.flagSet p 4).cells = t.cells ∧ ((x.flagSet p 4).flag p).due = (t.flag p).due ∧ (x.flagSet p 4).motor p = some n ∧
        (x.flagSet p 4).classes = t.classes := by
    obtain ⟨cells, due, motor, classes⟩ := x.flagSet_keeps p 4
    exact ⟨cells.trans h.1, due.trans h.2.1, motor.trans h.2.2.1, classes.trans h.2.2.2⟩
  unfold State.driven
  dsimp only
  split
  · split
    · exact set (set put)
    · exact set put
  · split
    · exact set put
    · exact put

/-- The motor that a period leaves, `n` being the one that its cells took (R104). -/
def Motor.periodEnd (n : Motor) (rated : Nat) : Motor := if n.durationReached n.periodsRun then n.endHead rated else n

/-- The motor moves on where its cells are written and its duration is reached. -/
theorem State.driven_written {folds stalls : Prop} [Decidable folds] [Decidable stalls] {after : Motor} :
    ((s.driven p folds stalls n).readFrom p n).setMotor p (some after) =
      if stalls then (if folds then ((s.setMotor p (some after)).readFrom p n).flagSet p 4 else (s.setMotor p (some after)).readFrom p n).flagSet p 4
      else if folds then ((s.setMotor p (some after)).readFrom p n).flagSet p 4 else (s.setMotor p (some after)).readFrom p n := by
  have put (x : State) (a b : Motor) : ((x.setMotor p (some a)).readFrom p n).setMotor p (some b) = (x.setMotor p (some b)).readFrom p n :=
    State.setMotor_setMotor (s := x.readFrom p n)
  unfold State.driven
  dsimp only
  split
  · split
    · rw [State.readFrom, State.flagSet_cellsBy, State.flagSet_cellsBy, State.flagSet_setMotor, State.flagSet_setMotor, put]
    · rw [State.readFrom, State.flagSet_cellsBy, State.flagSet_setMotor, put]
  · split
    · rw [State.readFrom, State.flagSet_cellsBy, State.flagSet_setMotor, put]
    · rw [put]

theorem State.periodLeft_eq (s : State) (p : Port) (m c after : Motor) : s.periodLeft p m c after =
    if 1000 < m.foldback ∧ c.foldback = 1000 then ((s.setMotor p (some after)).readFrom p c).flagSet p 4
    else (s.setMotor p (some after)).readFrom p c := rfl

theorem Motor.powered_duty_le (m : Motor) (s : State) (current : Int) : (m.powered s current).duty.natAbs ≤ 10000 := by
  have cap : s.supply.state.dutyCap ≤ 10000 := by cases s.supply.state <;> decide
  rw [Motor.dutySet_powered]
  unfold Motor.dutySet Motor.applied
  dsimp only
  split
  · refine (natAbs_clampInt_le _ _).trans ?_
    unfold Motor.dutyLimit
    omega
  · exact Nat.zero_le _

theorem Motor.afterStall_kept {F : Motor → Prop} (h : F m) (h' : F m.stallsOut) : F m.afterStall := by
  unfold Motor.afterStall
  split
  · exact h'
  · exact h

/-! ## The whole period -/

theorem State.driven_setMotor {folds stalls : Prop} [Decidable folds] [Decidable stalls] {x : Option Motor} :
    (t.setMotor p x).driven p folds stalls n = t.driven p folds stalls n := by
  rw [State.driven, State.setMotor_setMotor]
  rfl

theorem PortActs.endPeriod (h : PortActs c o s p k t u) (hm : t.motor p = some n) (hn : n.silent)
    (hr : (t.classes.get n.cls).ratedMax = rated) :
    PortActs c o s p k (t.setMotor p (some (n.periodEnd rated))) (Machine.endPeriod p n u) := by
  subst hr
  unfold Machine.endPeriod Motor.periodEnd
  split
  · rw [finishHead_silent hn, h.acts.classes]
    exact h.setMotor _
  · rwa [State.setMotor_self hm]

theorem Motor.stallsOut_periodEnd (m : Motor) (rated : Nat) : m.stallsOut.periodEnd rated = m.stallsOut := rfl

/-- The control period of a motor whose steps 1 and 2 leave it as `f` (R114). -/
theorem run_period (hs : s.stillPort p) (due : (s.flag p).due = 0) (hm : s.motor p = some m)
    (hr : reached s.hubTime m.nextPeriod = true)
    (motion : onMotor p (motionPeriod p) (s.setMotor p (some { m with nextPeriod := m.nextPeriod + 1 })) = s.setMotor p (some f))
    (fold : f.foldback = m.foldback) (hf : f.silent) (x : f.x ≤ 2147483647 ∧ -2147483648 ≤ f.x)
    (speed : f.speed ≤ 2147483647 ∧ -2147483648 ≤ f.speed) :
    exec (.motorControlPeriod p current) s = .next (State.noted
      (if (f.powered s current).stallsNow then
        (s.periodLeft p m (f.powered s current).stallsOut (f.powered s current).stallsOut).flagSet p 4
      else s.periodLeft p m (f.powered s current) ((f.powered s current).periodEnd (s.classes.get f.cls).ratedMax)) s) := by
  generalize hc : f.powered s current = c
  have silent : c.afterStall.silent := by
    refine Motor.afterStall_kept ?_ ?_
    · rw [← hc]; exact hf
    · rw [← hc]; exact ⟨hf.1, fun _ h => by cases h⟩
  have bounds := Motor.afterStall_kept (m := c)
    (F := fun n => (n.x ≤ 2147483647 ∧ -2147483648 ≤ n.x) ∧ (n.speed ≤ 2147483647 ∧ -2147483648 ≤ n.speed) ∧ n.duty.natAbs ≤ 10000)
    (by rw [← hc]; exact ⟨x, speed, f.powered_duty_le s current⟩) (by rw [← hc]; exact ⟨x, speed, Nat.zero_le _⟩)
  obtain ⟨bx, bspeed, bduty⟩ := bounds
  have cls := Motor.afterStall_kept (m := c) (F := fun n => n.cls = f.cls) (by rw [← hc]; rfl) (by rw [← hc]; rfl)
  have drive := ((PortActs.of_still (k := 2) hs).setMotor (some f)).drivePeriod (m := f) (current := current) hf rfl rfl
  rw [State.driven_setMotor, show f.powered (s.setMotor p (some f)) current = c from hc] at drive
  obtain ⟨cells, flags, motor, classes⟩ := State.driven_keeps (t := s) (p := p) (n := c.afterStall)
    (folds := 1000 < f.foldback ∧ c.foldback = 1000) (stalls := c.stallsNow)
  have written := drive.writeCells (v := c.afterStall.reading) (w := .motor)
    (fun i => (Motor.reading_bounds bx bspeed bduty i).1) (fun i => (Motor.reading_bounds bx bspeed bduty i).2)
    (flags.trans due) (fun i => by rw [State.cell, cells]; rfl)
  have ends := written.endPeriod (n := c.afterStall) motor silent (rated := (s.classes.get f.cls).ratedMax) (by
    rw [State.cellsBy, classes, cls])
  rw [State.driven_written] at ends
  have whole : PortActs False .alone s p 0
      (if c.stallsNow then (s.periodLeft p m c.stallsOut c.stallsOut).flagSet p 4
        else s.periodLeft p m c (c.periodEnd (s.classes.get f.cls).ratedMax))
      (onMotor p (periodFalls p current) s) := by
    rw [onMotor_some hm, periodFalls_due hr, controlPeriod, motion, onMotor_setMotor, onMotor_some (drive.acts.motor p |>.trans motor), cellsPeriod_eq,
      onMotor_some (written.acts.motor p |>.trans motor)]
    rw [State.periodLeft_eq, State.periodLeft_eq, ← fold]
    by_cases stalls : c.stallsNow
    · have halted : c.afterStall = c.stallsOut := if_pos stalls
      rw [if_pos stalls] at ends ⊢
      rw [halted] at ends ⊢
      exact ends
    · have going : c.afterStall = c := if_neg stalls
      rw [if_neg stalls] at ends ⊢
      rw [going] at ends ⊢
      exact ends
  exact whole.run hs.1

end Sys2Proof.Machine
end

section
/-!
Settles PeriodAtRestMeasuresTheMotor and DrivenPeriodFollowsItsPath: the control period of a motor that sends no notice, with no
record loaded and with one (chapters 06 and 07).
-/
namespace Sys2Proof.Machine

variable {m n f : Motor} {rated : Nat} {g : Segment} {rest : List Segment} {s t u : State} {p : Port} {current x : Int}

/-! ## The output follows the state (R95) -/

theorem Motor.endedWith_driven (m : Motor) (a : EndAction) (accel : Nat) : (m.endedWith a accel).Driven := by
  cases a <;> simp [Motor.Driven, Motor.endedWith, Motor.stoppedIn]

theorem Motor.pastHead_driven (m : Motor) (rated : Nat) (g : Segment) (rest : List Segment) : (m.pastHead rated g rest).Driven := by
  cases rest with
  | nil => exact m.endedWith_driven ..
  | cons next rest => exact ⟨fun _ => .inl rfl, fun _ => rfl⟩

theorem Motor.settles_driven (h : m.Driven) : (m.settles rated x g rest).Driven := by
  unfold Motor.settles
  dsimp only
  split
  · exact m.pastHead_driven ..
  · split
    · exact Motor.pastHead_driven ..
    · exact h

theorem Motor.approaches_driven (h : m.Driven) (ho : m.output = .driven) : (m.approaches rated x g rest).Driven := by
  rw [Motor.approaches_eq]
  split
  · exact Motor.settles_driven ⟨fun _ => .inr (.inl rfl), fun _ => ho⟩
  · exact h

/-! ## A motor past its head has run no period of the next one (R102, R104) -/

theorem Motor.fresh_of_state (h : m.state ≠ .running) (i : Nat) : m.durationReached i = false := by
  simp [Motor.durationReached, h]

theorem Motor.durationReached_cons (hs : m.state = .running) (hq : m.queue = g :: rest) (i : Nat) :
    m.durationReached i = true ↔ (g.kind = .runSpeed ∨ g.kind = .runDuty) ∧ g.duration ≠ 0 ∧ g.duration ≤ i := by
  simp [Motor.durationReached, hs, hq, and_assoc]

theorem Motor.pastHead_fresh (m : Motor) (rated : Nat) (g : Segment) (rest : List Segment) :
    (m.pastHead rated g rest).durationReached (m.pastHead rated g rest).periodsRun = false := by
  cases rest with
  | nil =>
    refine Motor.fresh_of_state ?_ _
    show (m.endedWith g.endAction g.accel).state ≠ .running
    cases g.endAction <;> simp [Motor.endedWith, Motor.stoppedIn]
  | cons next rest =>
    rw [← Bool.not_eq_true]
    rintro h
    obtain ⟨-, some, none⟩ := (Motor.durationReached_cons (m := m.startingContinuous rated (next :: rest) next) rfl rfl _).mp h
    exact some (Nat.le_zero.mp none)

theorem Motor.settles_fresh (h : m.state = .settling) :
    (m.settles rated x g rest).durationReached (m.settles rated x g rest).periodsRun = false := by
  unfold Motor.settles
  dsimp only
  split
  · exact m.pastHead_fresh ..
  · split
    · exact Motor.pastHead_fresh ..
    · exact Motor.fresh_of_state (by show m.state ≠ .running; simp [h]) _

theorem Motor.approaches_fresh (hs : m.state = .running) (hq : m.queue = g :: rest) (hk : g.kind = .runTo ∨ g.kind = .runBy) :
    (m.approaches rated x g rest).durationReached (m.approaches rated x g rest).periodsRun = false := by
  rw [Motor.approaches_eq]
  split
  · exact Motor.settles_fresh rfl
  · rw [← Bool.not_eq_true]
    intro h
    obtain ⟨timed, -⟩ := (Motor.durationReached_cons (g := g) (rest := rest) hs hq _).mp h
    obtain hk | hk := hk <;> simp [hk] at timed

/-- What follows a period in which no duration is reached. -/
theorem Motor.powered_stays (h : m.durationReached m.periodsRun = false) :
    (m.powered s current).periodEnd rated = m.powered s current :=
  if_neg (by rw [show (m.powered s current).durationReached (m.powered s current).periodsRun =
    m.durationReached m.periodsRun from rfl, h]; decide)

/-! ## A period with no record loaded -/

/-- A control period leaves its motor as `c` at the writes of its cells and as `after` at its end, or halted by its stall test:
the outcome that the statements give (R104, R110, R125, R126). -/
def State.periodGives (s : State) (p : Port) (m c after : Motor) : State :=
  State.noted
    (if c.stallTimer ≠ 0 ∧ m.settings.stallTime ≤ c.stallTimer then (s.periodLeft p m c.stallsOut c.stallsOut).flagSet p 4
      else s.periodLeft p m c after) s

theorem run_due_period (hs : s.stillPort p) (due : (s.flag p).due = 0) (hm : s.motor p = some m)
    (hr : reached s.hubTime m.nextPeriod = true) (hl : m.loaded = none)
    (x : m.periodMeasured.x ≤ 2147483647 ∧ -2147483648 ≤ m.periodMeasured.x)
    (speed : m.periodMeasured.speed ≤ 2147483647 ∧ -2147483648 ≤ m.periodMeasured.speed)
    (hf : m.periodMeasured.progress (s.classes.get m.cls).ratedMax = f) (hd : f.Driven) :
    exec (.motorControlPeriod p current) s = .next (s.periodGives p m (f.takesPath s current)
      ((f.takesPath s current).periodEnd (s.classes.get m.cls).ratedMax)) := by
  have silent : m.silent := State.silentPort.silent hs.2.2.2 hm
  have moves : m.periodMeasured.Moves f := hf ▸ m.periodMeasured.progress_moves _
  have motion : onMotor p (motionPeriod p) (s.setMotor p (some { m with nextPeriod := m.nextPeriod + 1 })) =
      s.setMotor p (some f) := by
    rw [onMotor_setMotor, motionPeriod_silent (m := { m with nextPeriod := m.nextPeriod + 1 }) silent hl, m.measured_eq,
      State.setMotor_setMotor]
    exact congrArg (fun n => s.setMotor p (some n)) hf
  have done := run_period (current := current) hs due hm hr motion moves.foldback
    (moves.silent (m := m.periodMeasured) silent) (by rw [moves.x]; exact x) (by rw [moves.speed]; exact speed)
  rw [Motor.powered_eq hd, moves.cls] at done
  rw [done, State.periodGives, ← Motor.powered_eq hd]
  have time : (f.powered s current).settings = m.settings := moves.settings
  unfold Motor.stallsNow
  rw [time]
  rfl

/-- Settles O49. -/
theorem periodAtRestMeasuresTheMotor : Obligations.PeriodAtRestMeasuresTheMotor := by
  intro p m current s hs due hm k period
  refine ⟨fun early => ?_, fun hr rest off hl xhi xlo shi slo => ?_⟩
  · exact run_of_same hs.1 ((onMotor_some hm).trans (periodFalls_early early))
  · have stays : k.Driven := by
      refine ⟨fun h => absurd h off, fun h => ?_⟩
      have : m.state = .running ∨ m.state = .settling ∨ m.state = .holding := h
      obtain e | e | e := rest <;> simp [e] at this
    have path : k.takesPath s current = k.rests current := if_pos off
    have done := run_due_period (current := current) hs due hm hr hl ⟨xhi, xlo⟩ ⟨shi, slo⟩ (Motor.progress_rest (m := k) rest) stays
    rw [path] at done
    refine done.trans (congrArg (fun t => Host.Outcome.next (State.noted t s)) ((if_neg fun h => h.1 rfl).trans ?_))
    refine congrArg (s.periodLeft p m _) (if_neg ?_)
    rw [Motor.fresh_of_state]
    · decide
    · show m.state ≠ .running
      obtain e | e | e := rest <;> simp [e]

/-! ## The head of a period -/

/-- A head that has run its duration ends with the period (R104). -/
theorem Motor.powered_expires (hs : f.state = .running) (hq : f.queue = g :: rest) (hk : g.kind = .runSpeed ∨ g.kind = .runDuty) :
    (f.powered s current).periodEnd rated =
      if g.duration ≠ 0 ∧ g.duration ≤ f.periodsRun then (f.powered s current).pastHead rated g rest
      else f.powered s current := by
  have reached := Motor.durationReached_cons (m := f.powered s current) hs hq (f.powered s current).periodsRun
  rw [Motor.periodEnd, Motor.endHead_eq (m := f.powered s current) hq]
  exact if_congr (reached.trans (and_iff_right hk)) rfl rfl

/-! ## A period with a record loaded (R94, R111) -/

/-- A motor with a loaded record in force. -/
def Motor.loadedBy (m : Motor) (g : MotorSettings) : Motor := { m with settings := g, loaded := none }

theorem Motor.inForce_some {g : MotorSettings} (h : m.loaded = some g) : m.inForce = m.loadedBy g := by
  rw [Motor.inForce, h]
  rfl

theorem measurePeriod_keeps (p : Port) (m : Motor) (s : State) :
    (measurePeriod p m s).motor p = some m.measured ∧ ∀ l, ((measurePeriod p m s).link l).up = (s.link l).up := by
  unfold measurePeriod
  dsimp only
  split
  · exact ⟨State.motor_setMotor_same .., fun _ => rfl⟩
  · have pool := reportState_poolOp p m.measured.state.code m.measured.state.code m.measured (s.setMotor p (some m.measured))
    refine ⟨?_, fun l => (pool.link l).up⟩
    rw [State.motor, pool.motors]
    exact State.motor_setMotor_same ..

theorem lossHolds_congr (h : ∀ l, (s.link l).up = (t.link l).up) (m : Motor) : lossHolds m s = lossHolds m t := by
  simp only [lossHolds, h]

/-- A loaded record whose link-loss condition does not hold comes into force as though it had been in force. -/
theorem motionPeriod_loaded {g : MotorSettings} (hl : m.loaded = some g) (ok : lossHolds (m.loadedBy g) s = false) :
    motionPeriod p m s = motionPeriod p (m.loadedBy g) s := by
  obtain ⟨motor, up⟩ := measurePeriod_keeps p (m.loadedBy g) (s.setMotor p (some (m.loadedBy g)))
  have calm : examineLoss p (measurePeriod p (m.loadedBy g) (s.setMotor p (some (m.loadedBy g)))) =
      measurePeriod p (m.loadedBy g) (s.setMotor p (some (m.loadedBy g))) := by
    have still : lossHolds (m.loadedBy g).measured (measurePeriod p (m.loadedBy g) (s.setMotor p (some (m.loadedBy g)))) = false :=
      (lossHolds_congr up _).trans ok
    simp only [examineLoss, motor, still, Bool.false_and, Bool.false_eq_true, if_false]
  rw [motionPeriod, motionPeriod, Motor.inForce_some hl, Motor.inForce_none (m := m.loadedBy g) rfl, onMotor_setMotor, calm, ite_self]
  rfl

/-- A loaded record whose link-loss condition holds stops the motor (R111). -/
theorem motionPeriod_lost {g : MotorSettings} (hl : m.loaded = some g) (route : g.noticeRoute = none)
    (silent : ∀ e ∈ m.queue, e.route = none) (lost : lossHolds (m.loadedBy g) s = true) (hk : m.state ≠ .locked) :
    motionPeriod p m s = s.setMotor p (some ((m.loadedBy g).measured.stoppedIn .idle g.lossAction.output)) := by
  have hm : (m.loadedBy g).measured.silent := ⟨route, silent⟩
  have loss : examineLoss p (s.setMotor p (some (m.loadedBy g).measured)) =
      s.setMotor p (some ((m.loadedBy g).measured.stoppedIn .idle g.lossAction.output)) := by
    have holds : lossHolds (m.loadedBy g).measured (s.setMotor p (some (m.loadedBy g).measured)) = true := lost
    have free : (m.loadedBy g).measured.state ≠ .locked := hk
    rw [examineLoss, State.motor_setMotor_same]
    dsimp only
    rw [holds, if_pos (by simp [free])]
    exact (moveMotor_silent (b := (m.loadedBy g).measured.halted g.lossAction.output .idle) (ended_silent hm .linkLost)
      hm.1).trans State.setMotor_setMotor
  rw [motionPeriod, Motor.inForce_some hl, hl, onMotor_setMotor, measurePeriod_silent (m := m.loadedBy g) route,
    State.setMotor_setMotor, Option.isSome_some, if_pos rfl, loss, onMotor_setMotor,
    profilePeriod_silent ⟨route, fun _ h => by cases h⟩, State.setMotor_setMotor]
  exact congrArg (fun n => s.setMotor p (some n)) (Motor.progress_rest (.inl rfl))

theorem LossAction.output_eq (a : LossAction) : a.output = if a = .brake then .brake else .coast := by cases a <;> rfl

theorem motionPeriod_setMotor (x : Option Motor) : motionPeriod p m (s.setMotor p x) = motionPeriod p m s := by
  rw [motionPeriod, State.setMotor_setMotor]
  rfl

/-- A due period is the same with a loaded record in force already, where no loss acts on the motor. -/
theorem run_period_loaded {g : MotorSettings} (hs : s.settled) (hm : s.motor p = some m)
    (hr : reached s.hubTime m.nextPeriod = true) (hl : m.loaded = some g) (ok : lossHolds (m.loadedBy g) s = false) :
    exec (.motorControlPeriod p current) s = exec (.motorControlPeriod p current) (s.setMotor p (some (m.loadedBy g))) := by
  have attached : (s.setMotor p (some (m.loadedBy g))).motor p = some (m.loadedBy g) := State.motor_setMotor_same ..
  have due : reached (s.setMotor p (some (m.loadedBy g))).hubTime (m.loadedBy g).nextPeriod = true := hr
  have same : onMotor p (periodFalls p current) s = onMotor p (periodFalls p current) (s.setMotor p (some (m.loadedBy g))) := by
    rw [onMotor_some hm, onMotor_some attached, periodFalls_due hr, periodFalls_due due, controlPeriod, controlPeriod,
      onMotor_setMotor, onMotor_setMotor, motionPeriod_setMotor, State.setMotor_setMotor, motionPeriod_setMotor,
      motionPeriod_loaded (m := { m with nextPeriod := m.nextPeriod + 1 }) hl ok]
    rfl
  show run (onMotor p (periodFalls p current)) s = run (onMotor p (periodFalls p current)) (s.setMotor p (some (m.loadedBy g)))
  rw [run_of_settled hs, run_of_settled (s := s.setMotor p (some (m.loadedBy g))) hs, same]

/-- Settles O50, by the profile of each kind of head, and by the record that a LOAD left. -/
theorem drivenPeriodFollowsItsPath : Obligations.DrivenPeriodFollowsItsPath := by
  intro p m current s hs due hm hr k xhi xlo shi slo rated period leaves runs
  have silent : m.silent := State.silentPort.silent hs.2.2.2 hm
  refine ⟨fun hl ho => ?_, fun g hl => ?_⟩
  · have gives {f : Motor} (hf : k.progress rated = f) (hd : f.Driven) :
        leaves (f.takesPath s current) ((f.takesPath s current).periodEnd rated) :=
      run_due_period hs due hm hr hl ⟨xhi, xlo⟩ ⟨shi, slo⟩ hf hd
    have stays {f : Motor} (hf : k.progress rated = f) (hd : f.Driven) (fresh : f.durationReached f.periodsRun = false) :
        leaves (f.takesPath s current) (f.takesPath s current) := by
      have done := gives hf hd
      rwa [← Motor.powered_eq hd, Motor.powered_stays fresh, Motor.powered_eq hd] at done
    have expires {f : Motor} {g : Segment} {rest : List Segment} (hf : k.progress rated = f) (hd : f.Driven)
        (hs : f.state = .running) (hq : f.queue = g :: rest) (hk : g.kind = .runSpeed ∨ g.kind = .runDuty)
        (hruns : f.periodsRun = runs) :
        leaves (f.takesPath s current) (if g.duration ≠ 0 ∧ g.duration ≤ runs then (f.takesPath s current).pastHead rated g rest
          else f.takesPath s current) := by
      have done := gives hf hd
      rwa [← Motor.powered_eq hd, Motor.powered_expires hs hq hk, hruns, Motor.powered_eq hd] at done
    refine ⟨fun g rest hst hq => ⟨fun hk => ?_, fun hk => ?_, fun x hk ht => ?_⟩, fun g rest x hst hq ht => ?_
      , fun hst hq => ?_⟩
    · exact expires (Motor.progress_runSpeed (m := k) hst hq hk) ⟨fun _ => .inl hst, fun _ => ho⟩ hst hq (.inl hk) rfl
    · exact expires (Motor.progress_runDuty (m := k) hst hq hk) ⟨fun _ => .inl hst, fun _ => ho⟩ hst hq (.inr hk) rfl
    · exact stays (Motor.progress_approaches (m := k) hst hq hk ht)
        (Motor.approaches_driven (m := k) ⟨fun _ => .inl hst, fun _ => ho⟩ ho) (Motor.approaches_fresh hst hq hk)
    · exact stays (Motor.progress_settling (m := k) hst hq ht)
        (Motor.settles_driven (m := k) ⟨fun _ => .inr (.inl hst), fun _ => ho⟩) (Motor.settles_fresh hst)
    · refine stays (Motor.progress_holding (m := k) hst) ⟨fun _ => .inr (.inr hst), fun _ => ho⟩ (Motor.fresh_of_state ?_ _)
      show m.state ≠ .running
      simp [hst]
  · refine ⟨fun ok => run_period_loaded hs.1 hm hr hl ?_, fun act route hk down => ?_⟩
    · rw [← Bool.not_eq_true, lossHolds_iff]
      rintro ⟨act, down⟩
      obtain none | ⟨r, c⟩ := ok
      · exact act none
      · obtain ⟨d, w⟩ | ⟨d, w⟩ := down
        · exact w (r.resolve_left (by simp [d]))
        · exact w (c.resolve_left (by simp [d]))
    · have lost : lossHolds (m.loadedBy g) s = true := (lossHolds_iff (m.loadedBy g) s).mpr ⟨act, down⟩
      have motion : onMotor p (motionPeriod p) (s.setMotor p (some { m with nextPeriod := m.nextPeriod + 1 })) =
          s.setMotor p (some ((m.loadedBy g).periodMeasured.stoppedIn .idle g.lossAction.output)) := by
        rw [onMotor_setMotor, motionPeriod_setMotor,
          motionPeriod_lost (m := { m with nextPeriod := m.nextPeriod + 1 }) hl route silent.2 lost hk]
        exact congrArg (fun n => s.setMotor p (some (n.stoppedIn .idle g.lossAction.output))) (m.loadedBy g).measured_eq
      have done := run_period (current := current) hs due hm hr motion rfl ⟨route, fun _ h => by cases h⟩ ⟨xhi, xlo⟩ ⟨shi, slo⟩
      have undriven : g.lossAction.output ≠ .driven := by cases g.lossAction <;> simp [LossAction.output]
      rw [Motor.powered_off (m := (m.loadedBy g).periodMeasured.stoppedIn .idle g.lossAction.output) undriven rfl,
        LossAction.output_eq] at done
      exact done.trans (congrArg (fun t => Host.Outcome.next (State.noted t s))
        ((if_neg fun h => h.1 rfl).trans (if_neg fun h => h.1 rfl).symm))

end Sys2Proof.Machine
end

section
/-!
Settles SegmentEndsFollowTheirRules: the ends that a period alone brings, and the stops from outside the queue, with their
notices (chapters 06 and 07).
-/
namespace Sys2Proof.Machine

variable {m after : Motor} {rated : Nat} {g : Segment} {rest : List Segment} {s t u : State} {p : Port} {x : Int}
  {ended : List (Segment × SegOutcome)}

/-! ## Notices of a hub with any writes that wait -/

/-- `u` is `t` but for the writes that wait, and a unit may hand notices over: no request is in progress, and S3 can show free. -/
structure Sends (t u : State) : Prop where
  same : u.withWrites [] = t.withWrites []
  idle : t.mgmt.inProgress = none
  small : t.free ≤ 128

theorem Sends.of_conserved (h : s.conserved) (hp : s.mgmt.inProgress = none) : Sends s s := ⟨rfl, hp, h.free_le⟩

theorem Sends.eq_ahead (h : Sends t u) : u = (t.withWrites []).ahead u.unobserved := by
  rw [← h.same]
  show u = { u with unobserved := u.unobserved ++ [] }
  rw [List.append_nil]

theorem Sends.reads {α : Type} {f : State → α} (h : Sends t u) (hf : ∀ s ws, f (s.withWrites ws) = f s) : f u = f t := by
  rw [← hf u [], h.same, hf]

theorem State.handed_withWrites (t : State) (ws : List Write) (l : Link) (f : Frame) :
    (t.withWrites ws).handed l f = (t.handed l f).withWrites ws := by
  unfold State.handed
  dsimp only
  rw [apply_ite (State.withWrites · ws), apply_ite (State.withWrites · ws)]
  rfl

theorem Sends.placeUrgent {l : Link} {f : Frame} (h : Sends t u) : Sends (t.handed l f) (placeUrgent l f u) := by
  obtain ⟨mgmt, -, -, le, -⟩ := t.handed_keeps l f
  refine ⟨?_, by rw [mgmt]; exact h.idle, le.trans h.small⟩
  have placed : Awaits ((t.withWrites []).handed l f) (Machine.placeUrgent l f (t.withWrites [])) :=
    (Awaits.of_nil rfl).placeUrgent h.idle (show t.free ≤ 2147483647 from h.small.trans (by decide))
  obtain ⟨ws, -, e⟩ := placed
  rw [h.eq_ahead, placeUrgent_ahead, e, State.handed_withWrites]
  rfl

theorem Sends.setMotor (h : Sends t u) (x : Option Motor) : Sends (t.setMotor p x) (u.setMotor p x) :=
  ⟨congrArg (State.setMotor · p x) h.same, h.idle, h.small⟩

theorem Sends.sendNotice {route : Option Endpoint} {tag : Byte} {payload : List Byte} (h : Sends t u) :
    Sends (t.notice route tag payload) (sendNotice route tag payload u) := by
  cases route with
  | none => exact h
  | some e => exact h.placeUrgent

theorem Sends.hubTime (h : Sends t u) : u.hubTime = t.hubTime := h.reads fun _ _ => rfl

theorem Sends.reportEnded (h : Sends t u) :
    Sends (t.segmentsReported p x (coded ended)) (Machine.reportEnded p x ended u) := by
  induction ended generalizing t u with
  | nil => exact h
  | cons e rest ih =>
    have told := h.sendNotice (route := e.1.route) (tag := e.1.tag) (payload := segmentEndPayload p e.1.tag e.2 x t.hubTime)
    rw [show Machine.reportEnded p x (e :: rest) u = Machine.reportEnded p x rest
      (Machine.sendNotice e.1.route e.1.tag (segmentEndPayload p e.1.tag e.2 x u.hubTime) u) from rfl, h.hubTime]
    exact ih told

theorem Sends.reportLowWater (h : Sends t u) :
    Sends (t.lowWaterReported p m after (coded ended)) (Machine.reportLowWater p m after ended u) := by
  cases ended with
  | nil => exact h
  | cons e rest =>
    simp only [Machine.reportLowWater, State.lowWaterReported, coded, List.map_cons, Bool.and_eq_true, decide_eq_true_eq
      , and_assoc, h.hubTime]
    split
    · exact h.sendNotice
    · exact h

/-- The payload of a MOTOR_STATE notice, in the terms of the statements (R109, R199). -/
theorem motorStatePayload_eq (p : Port) (new prev : Nat) (m : Motor) (counts : Nat) (now : Time) :
    motorStatePayload p new prev m counts now =
      [3, BitVec.ofNat 8 p.code, BitVec.ofNat 8 new, BitVec.ofNat 8 prev, BitVec.ofNat 8 m.output.code
      , BitVec.ofNat 8 m.queue.length, if m.limitSet then 1 else 0] ++ le16 counts ++ leInt m.x ++ le32 now := by
  cases h : m.limitSet <;> simp [motorStatePayload, u8, boolCode, h]

theorem Sends.reportState {new prev : Nat} (h : Sends t u) :
    Sends (t.motorReported p new prev m) (Machine.reportState p new prev m u) := by
  have told := h.sendNotice (route := m.settings.noticeRoute) (tag := 0)
    (payload := motorStatePayload p new prev m (t.classes.get m.cls).countsPerRev t.hubTime)
  rw [Machine.reportState, h.hubTime, show u.classes = t.classes from h.reads fun _ _ => rfl]
  rw [motorStatePayload_eq] at told ⊢
  exact told

theorem Sends.moveMotor (h : Sends t u) :
    Sends (t.motorMoved p m after (coded ended)) (Machine.moveMotor p m after ended u) := by
  have low := ((h.setMotor (p := p) (some after)).reportEnded (p := p) (x := after.x) (ended := ended)).reportLowWater
    (p := p) (m := m) (after := after) (ended := ended)
  rw [State.motorMoved_eq, Machine.moveMotor]
  dsimp only
  split
  · exact low
  · exact low.reportState

/-! ## What a motor sends, by its code -/

theorem coded_ite (c : Bool) (q : List Segment) (a : SegOutcome) :
    coded (if c then endedAll q a else []) = if c then segmentsEnd (u8 a.code) q else [] := by
  cases c
  · rfl
  · exact coded_endedAll q a

/-- A stop from outside the queue (R110 to R112). -/
theorem stops_eq {a : SegOutcome} {code : Byte} {t : State} (hs : s.conserved) (hp : s.mgmt.inProgress = none)
    (hc : u8 a.code = code) (ht : t = moveMotor p m after (if m.executing then endedAll m.queue a else []) s) :
    { t with unobserved := [] } =
      { s.motorMoved p m after (if m.executing then segmentsEnd code m.queue else []) with unobserved := [] } := by
  subst ht hc
  rw [← coded_ite]
  exact (Sends.of_conserved hs hp).moveMotor.same

theorem detachMotor_some (hm : s.motor p = some m) : detachMotor p s =
    reportState p 0 m.state.code (m.stoppedIn .idle .coast)
      (reportEnded p m.x (if m.executing then endedAll m.queue .detached else []) (s.setMotor p none)) := by
  rw [detachMotor, hm]
  rfl

theorem supplyHalt_some (hm : s.motor p = some m) (hk : m.state ≠ .locked) : supplyHalt p s =
    moveMotor p m (m.stoppedIn (if m.state = .stalled then .stalled else .idle) .coast)
      (if m.executing then endedAll m.queue .supply else []) s := by
  rw [supplyHalt, hm]
  exact if_neg hk

theorem suspendMotor_some (hm : s.motor p = some m) : suspendMotor p s =
    moveMotor p m (m.stoppedIn .idle .coast) (if m.executing then endedAll m.queue .suspended else []) s := by
  rw [suspendMotor, hm]
  rfl

theorem examineLoss_some (hm : s.motor p = some m) (hk : m.state ≠ .locked) (hl : lossHolds m s = true) : examineLoss p s =
    moveMotor p m (m.stoppedIn .idle (if m.settings.lossAction = .brake then .brake else .coast))
      (if m.executing then endedAll m.queue .linkLost else []) s := by
  rw [examineLoss, hm, ← LossAction.output_eq]
  exact if_pos (by simp [hl, hk])

theorem takeMotion_lock (m : Motor) : takeMotion p .lock m s =
    moveMotor p m (m.stoppedIn .locked .brake) (if m.executing then endedAll m.queue .locked else []) s := rfl

/-- A detachment reports the state DETACHED (R112). -/
theorem detachMotor_sends (hm : s.motor p = some m) (hs : s.conserved) (hp : s.mgmt.inProgress = none) :
    { detachMotor p s with unobserved := [] } =
      { ((s.setMotor p none).segmentsReported p m.x (if m.executing then segmentsEnd 6 m.queue else [])).motorReported p 0
          m.state.code (m.stoppedIn .idle .coast) with unobserved := [] } := by
  have gone := (((Sends.of_conserved hs hp).setMotor (p := p) none).reportEnded (p := p) (x := m.x)
    (ended := if m.executing then endedAll m.queue .detached else [])).reportState (p := p) (new := 0) (prev := m.state.code)
    (m := m.stoppedIn .idle .coast)
  rw [coded_ite, ← detachMotor_some hm] at gone
  exact gone.same

/-- A motor goes on from another record of the same state and queue. -/
theorem moveMotor_setMotor {n : Motor} {x : Option Motor} (state : n.state = m.state) (queue : n.queue = m.queue) :
    moveMotor p n after ended (s.setMotor p x) = moveMotor p m after ended s := by
  unfold moveMotor reportLowWater
  rw [State.setMotor_setMotor, state, queue]

/-! ## The ends that a period alone brings -/

theorem finishHead_eq {a : SegOutcome} {x : Option Motor} {n : Motor} (state : n.state = m.state) (queue : n.queue = m.queue)
    (cls : n.cls = m.cls) (hq : m.queue = g :: rest) : finishHead p a n (s.setMotor p x) =
      moveMotor p m (n.pastHead (s.classes.get m.cls).ratedMax g rest) [(g, a)] s := by
  rw [finishHead, Motor.endHead_eq (queue.trans hq), queue, hq, moveMotor_setMotor state queue, cls]
  rfl

theorem State.flagReported_setMotor (t : State) (p : Port) (j : Nat) (x : Option Motor) :
    (t.setMotor p x).flagReported p j = (t.flagReported p j).setMotor p x := by
  cases hf : (t.flag p).flags.getLsbD j with
  | true => rw [State.flagReported_set hf, State.flagReported_set (t := t.setMotor p x) hf]
  | false =>
    cases hk : (t.flag p).mask.getLsbD j with
    | true =>
      rw [State.flagReported_raised hf hk, State.flagReported_raised (t := t.setMotor p x) hf hk]
      exact (Apart.setMotor p x).event
        ((t.setFlagRec p { t.flag p with flags := (t.flag p).flags ||| flagBit j }).latched 6) (t.port p).settings.eventRoute _
    | false => rw [State.flagReported_masked hf hk, State.flagReported_masked (t := t.setMotor p x) hf hk]; rfl

theorem State.motorMoved_setMotor (t : State) (x : Option Motor) (ended : List (Segment × Byte)) :
    (t.setMotor p x).motorMoved p m after ended = t.motorMoved p m after ended := by
  rw [State.motorMoved_eq, State.motorMoved_eq, State.setMotor_setMotor]

/-- A stall sets MOTOR_FAULT and halts its motor (R110, R125). -/
theorem run_reportStall {f : State → State} (hs : s.settled) (hr : (s.port p).settings.eventRoute = none ∨ s.reports)
    (hc : m.silent ∨ s.reports) (hf : f s = reportStall p m s) :
    run f s = .next ((s.flagReported p 4).motorMoved p m m.stallsOut (if m.executing then segmentsEnd 4 m.queue else [])) := by
  have moved := fun n e => (((Reporting.of_settled (k := n + 1) hs id).setMotor p (some { m with stallTimer := 0 })).setFlag
    (j := 4) hr).moveMotor (p := p) (m := m) (after := m.stallsOut) (k := 0) (hc.imp_left fun h => h.silentEnd (after := m.stallsOut) rfl)
    (ended := if m.executing then endedAll m.queue .stalled else []) e
  replace moved := moved _ rfl
  rw [State.flagReported_setMotor, State.motorMoved_setMotor, coded_ite] at moved
  have flag : (s.flagReported p 4).reflexes = s.reflexes := by
    obtain ⟨_, same, -⟩ := s.flagReported_poolOnly p 4
    exact same.reflexes
  have kept : ((s.flagReported p 4).motorMoved p m m.stallsOut
      (if m.executing then segmentsEnd (u8 SegOutcome.stalled.code) m.queue else [])).reflexes = s.reflexes :=
    (State.motorMoved_poolOnly ..).reflexes.trans flag
  have done := Reporting.run (f := f) (by rw [hf]; exact moved) hs
  rw [done, State.withReflexes_of_eq kept]
  rfl

theorem settleTimedOut_early (h : reached s.hubTime m.nextPeriod = false) : settleTimedOut p m s = s := by
  unfold settleTimedOut
  split
  · rw [h]; rfl
  · rfl

theorem settleTimedOut_due (h : reached s.hubTime m.nextPeriod = true) (hs : m.state = .settling) (ht : m.target = some x)
    (far : m.settings.tolerance < (m.x - x).natAbs) (out : m.settings.settleTimeout ≤ m.settlePeriods + 1) :
    settleTimedOut p m s = finishHead p .notSettled m.settledLonger (s.setMotor p (some m.settledLonger)) := by
  have target : m.target.getD m.x = x := by rw [ht]; rfl
  have settle : m.settle = (m.settledLonger, some .notSettled) := by
    rw [Motor.settle_far hs (by rw [target]; omega), if_pos out]
  rw [settleTimedOut, settle]
  exact if_pos h

/-- A motor that has run another number of periods. -/
def Motor.ranFor (m : Motor) (n : Nat) : Motor := { m with periodsRun := n }

theorem durationEnded_early (h : reached s.hubTime m.nextPeriod = false) : durationEnded p m s = s := by
  rw [durationEnded, h]
  rfl

theorem durationEnded_due (h : reached s.hubTime m.nextPeriod = true) (hs : m.state = .running) (hq : m.queue = g :: rest)
    (hk : g.kind = .runSpeed ∨ g.kind = .runDuty) (timed : g.duration ≠ 0) (past : g.duration ≤ m.periodsRun + 1)
    (small : m.periodsRun < 65535) : durationEnded p m s =
      finishHead p .completed (m.ranFor (m.periodsRun + 1)) (s.setMotor p (some (m.ranFor (m.periodsRun + 1)))) := by
  have count : satAdd 65535 m.periodsRun 1 = m.periodsRun + 1 := by unfold satAdd; omega
  have reached := (Motor.durationReached_cons hs hq (m.periodsRun + 1)).mpr ⟨hk, timed, past⟩
  rw [durationEnded, count, h, reached]
  rfl

/-- A motor whose head ends, with what that sends (R106 to R109). -/
theorem run_finishHead {a : SegOutcome} {code : Byte} {n : Motor} {f : State → State} (hs : s.settled)
    (silent : m.silent ∨ s.reports) (state : n.state = m.state) (queue : n.queue = m.queue) (cls : n.cls = m.cls)
    (set : n.settings = m.settings) (hq : m.queue = g :: rest) (hf : f s = finishHead p a n (s.setMotor p (some n)))
    (hc : u8 a.code = code) :
    run f s = .next (s.motorMoved p m (n.pastHead (s.classes.get m.cls).ratedMax g rest) [(g, code)]) := by
  subst hc
  refine run_moveMotor (ended := [(g, a)]) hs ?_ (hf.trans (finishHead_eq state queue cls hq))
  refine silent.imp_left fun h => ⟨?_, fun e he => ?_⟩
  · rw [(Motor.pastHead_moves (m := n) (queue.trans hq)).settings, set]
    exact h.1
  · obtain rfl := List.mem_singleton.mp he
    exact h.2 g (by simp [hq])

/-- Settles O51: the ends by the notices of `moveMotor`, and the stops from outside by the same on a hub with any writes that
wait. -/
theorem segmentEndsFollowTheirRules : Obligations.SegmentEndsFollowTheirRules := by
  refine ⟨fun p m g rest s hm hc => ?ends, fun p m s hm hcon hp => ?outside⟩
  case ends =>
    intro rated ends
    have hs : s.settled := hc.elim (fun h => h.1) fun h => h.1.1
    have silent : m.silent ∨ s.reports := hc.imp_left fun h => State.silentPort.silent h.2.2.2 hm
    refine ⟨fun early => ⟨?_, ?_, ?_⟩, fun due => ⟨fun hq hst x ht far out => ?_, fun hq hst hk timed past small => ?_
      , fun ho out => ?_⟩⟩
    · exact run_of_same hs ((onMotor_some hm).trans (settleTimedOut_early early))
    · exact run_of_same hs ((onMotor_some hm).trans (durationEnded_early early))
    · refine run_of_same hs ((onMotor_some hm).trans ?_)
      rw [stallDetected, early]
      rfl
    · exact run_finishHead (n := m.settledLonger) (f := onMotor p (settleTimedOut p)) hs silent rfl rfl rfl rfl hq
        ((onMotor_some hm).trans (settleTimedOut_due due hst ht far out)) rfl
    · exact run_finishHead (n := m.ranFor (m.periodsRun + 1)) (f := onMotor p (durationEnded p)) hs silent rfl rfl rfl rfl hq
        ((onMotor_some hm).trans (durationEnded_due due hst hq hk timed past small)) rfl
    · refine run_reportStall hs (hc.imp_left fun h => h.2.2.1) silent ((onMotor_some hm).trans ?_)
      rw [stallDetected, due, if_pos (by simp [ho, out])]
  case outside => exact ⟨fun hk => stops_eq hcon hp rfl (supplyHalt_some hm hk), stops_eq hcon hp rfl (suspendMotor_some hm)
    , fun hk hl => stops_eq hcon hp rfl (examineLoss_some hm hk hl), stops_eq hcon hp rfl (takeMotion_lock m), detachMotor_sends hm hcon hp⟩

end Sys2Proof.Machine
end

section
/-!
Settles SupplyIsMeasuredAndChangesState: the measurement, the dwell timers, and the falls and rises of the supply (chapter 08).
-/
namespace Sys2Proof.Machine

variable {s t : State} {u : Supply} {v : Int} {now : Time} {new : SupplyState}

/-! ## The dwell timers (R131) -/

/-- A timer has run for a dwell. -/
abbrev ranFor (now : Time) (t : Option Time) (dwell : Nat) : Prop := ∃ t0, t = some t0 ∧ dwell ≤ elapsedSince now t0

theorem timerReached_iff {t : Option Time} {dwell : Nat} : timerReached now t dwell = true ↔ ranFor now t dwell := by
  cases t with
  | none => simp [timerReached]
  | some t => simp [timerReached, ranFor]

/-- A timer that a measurement has run says no more at it than before. -/
theorem dwellMet_timed {holds : Bool} {t : Option Time} {dwell : Nat} (h : 0 < dwell) :
    dwellMet holds (dwellTimer holds t now) now dwell = dwellMet holds t now dwell := by
  cases holds with
  | false => rfl
  | true =>
    cases t with
    | some t => rfl
    | none =>
      have fresh : elapsedSince now now = 0 := by simp [elapsedSince]
      simp only [dwellMet, dwellTimer, timerReached, if_true, Option.getD_none, fresh, Bool.true_and, decide_eq_false_iff_not]
      omega

/-- The transition that is due is the same after the timers of the measurement have run (R131). -/
theorem Supply.due_timed (u : Supply) (v : Int) (now : Time) : (u.timed v now).due v now = u.due v now := by
  obtain ⟨ring, state, fall, critical, rise, next, settings, route⟩ := u
  have fallMet := dwellMet_timed (holds := settings.fallHolds v) (t := fall) (now := now) (dwell := fallDwell) (by decide)
  have criticalMet := dwellMet_timed (holds := settings.criticalHolds v) (t := critical) (now := now) (dwell := criticalDwell)
    (by decide)
  have riseMet := dwellMet_timed (holds := settings.riseHolds state v) (t := rise) (now := now) (dwell := riseDwell) (by decide)
  cases state
  · simp only [Supply.due, Supply.timed, reduceCtorEq, if_true, if_false, fallMet, criticalMet]
  · simp only [Supply.due, Supply.timed, reduceCtorEq, if_false, riseMet, criticalMet]
  · simp only [Supply.due, Supply.timed, reduceCtorEq, if_true, if_false, riseMet]

/-- The fall to CRITICAL is due. -/
abbrev Supply.critical (u : Supply) (v : Int) (now : Time) : Prop :=
  u.state ≠ .critical ∧ v < u.settings.critical ∧ ranFor now u.criticalTimer 50

/-- The fall to LOW is due where CRITICAL is not. -/
abbrev Supply.low (u : Supply) (v : Int) (now : Time) : Prop :=
  u.state = .normal ∧ v < u.settings.low ∧ ranFor now u.fallTimer 200

/-- The condition of the rise timer. -/
abbrev Supply.high (u : Supply) (v : Int) : Prop :=
  u.state = .low ∧ (u.settings.low : Int) + u.settings.hysteresis ≤ v ∨
    u.state = .critical ∧ (u.settings.critical : Int) + u.settings.hysteresis ≤ v

theorem dwellMet_iff {holds : Bool} {t : Option Time} {dwell : Nat} :
    dwellMet holds t now dwell = true ↔ holds = true ∧ ranFor now t dwell := by
  rw [dwellMet, Bool.and_eq_true, timerReached_iff]

theorem SupplySettings.fallHolds_iff (g : SupplySettings) : g.fallHolds v = true ↔ v < g.low := by simp [SupplySettings.fallHolds]

theorem SupplySettings.criticalHolds_iff (g : SupplySettings) : g.criticalHolds v = true ↔ v < g.critical := by
  simp [SupplySettings.criticalHolds]

theorem Supply.riseHolds_iff (u : Supply) : u.settings.riseHolds u.state v = true ↔ u.high v := by
  unfold SupplySettings.riseHolds Supply.high
  cases u.state <;> simp

theorem Supply.due_critical (h : u.critical v now) : u.due v now = some .critical := by
  obtain ⟨state, below, ran⟩ := h
  have met : dwellMet (u.settings.criticalHolds v) u.criticalTimer now criticalDwell = true :=
    dwellMet_iff.mpr ⟨u.settings.criticalHolds_iff.mpr below, ran⟩
  unfold Supply.due
  split
  · simp only [met, if_true]
  · simp only [met, if_true]
  · exact absurd ‹_› state

theorem Supply.not_criticalMet (h : ¬ u.critical v now) (state : u.state ≠ .critical) :
    dwellMet (u.settings.criticalHolds v) u.criticalTimer now criticalDwell = false := by
  rw [← Bool.not_eq_true, dwellMet_iff, u.settings.criticalHolds_iff]
  exact fun ⟨below, ran⟩ => h ⟨state, below, ran⟩

theorem Supply.due_low (hc : ¬ u.critical v now) (h : u.low v now) : u.due v now = some .low := by
  obtain ⟨state, below, ran⟩ := h
  have unmet := Supply.not_criticalMet hc (by simp [state])
  have met : dwellMet (u.settings.fallHolds v) u.fallTimer now fallDwell = true :=
    dwellMet_iff.mpr ⟨u.settings.fallHolds_iff.mpr below, ran⟩
  simp only [Supply.due, state, unmet, met, if_true, Bool.false_eq_true, if_false]

/-- The state that a rise leads to. -/
def SupplyState.risen : SupplyState → SupplyState
  | .critical => .low
  | _ => .normal

theorem Supply.due_rise (hc : ¬ u.critical v now) (h : u.high v) (ran : ranFor now u.riseTimer 1000) :
    u.due v now = some u.state.risen := by
  have met : dwellMet (u.settings.riseHolds u.state v) u.riseTimer now riseDwell = true :=
    dwellMet_iff.mpr ⟨u.riseHolds_iff.mpr h, ran⟩
  obtain ⟨state, -⟩ | ⟨state, -⟩ := h
  · have unmet := Supply.not_criticalMet hc (by simp [state])
    rw [state] at met
    simp only [Supply.due, state, unmet, met, if_true, Bool.false_eq_true, if_false]
    rfl
  · rw [state] at met
    simp only [Supply.due, state, met, if_true]
    rfl

theorem Supply.due_none (hc : ¬ u.critical v now) (hl : ¬ u.low v now) (hr : ¬ (u.high v ∧ ranFor now u.riseTimer 1000)) :
    u.due v now = none := by
  have fall (state : u.state = .normal) : dwellMet (u.settings.fallHolds v) u.fallTimer now fallDwell = false := by
    rw [← Bool.not_eq_true, dwellMet_iff, u.settings.fallHolds_iff]
    exact fun ⟨below, ran⟩ => hl ⟨state, below, ran⟩
  have rise : dwellMet (u.settings.riseHolds u.state v) u.riseTimer now riseDwell = false := by
    rw [← Bool.not_eq_true, dwellMet_iff, u.riseHolds_iff]
    exact hr
  unfold Supply.due
  dsimp only
  split
  · next state =>
    rw [Supply.not_criticalMet hc (by simp [state]), fall state]
    rfl
  · next state =>
    rw [Supply.not_criticalMet hc (by simp [state]), rise]
    rfl
  · rw [rise]
    rfl

/-! ## The writes of a measurement (R129) -/

theorem writeSupplyCell_ignored {i : Fin 4} {value : Int} (lo : -2147483648 ≤ value) (hi : value ≤ 2147483647)
    (nil : s.unobserved = []) (ign : s.ignores (.sys i)) :
    writeSupplyCell i value s = s.setCell (.sys i) ((s.cell (.sys i)).written s.hubTime value .valid .supply) := by
  rw [writeSupplyCell, Cell.valueWrite_eq lo hi, commitWrite, observe_ignored (w := ⟨.sys i, _⟩)]
  · refine drain_of_nil ?_
    exact nil
  · exact ign

/-- A supply record that has taken a sample at hub time `now` (R129). -/
def Supply.sampled (u : Supply) (ring : List Nat) (now : Time) : Supply := { u with ring := ring, nextMeasurement := now + 10 }

/-- A hub whose supply record is `x` and whose S0 and S1 were written with a mean and a current (R129). -/
def State.sampled (s : State) (x : Supply) (mean current : Nat) : State :=
  { s with
    supply := x
    sys := { s.sys with
      q0 := s.sys.q0.written s.hubTime mean .valid .supply, q1 := s.sys.q1.written s.hubTime current .valid .supply } }

theorem measureSupply_eq {voltage current : Nat} (hs : s.settled) (h0 : s.ignores (.sys 0)) (h1 : s.ignores (.sys 1))
    (hv : ringMean (ringAfter s.supply.ring voltage) ≤ 12000) (hc : current ≤ 20000) :
    measureSupply voltage current s =
      s.sampled (s.supply.sampled (ringAfter s.supply.ring voltage) s.hubTime) (ringMean (ringAfter s.supply.ring voltage)) current := by
  have small (n : Nat) (h : n ≤ 20000) : -2147483648 ≤ (n : Int) ∧ (n : Int) ≤ 2147483647 := by omega
  have first := writeSupplyCell_ignored (s := { s with supply := s.supply.sampled (ringAfter s.supply.ring voltage) s.hubTime })
    (small _ (by omega)).1 (small _ (hv.trans (by decide))).2 hs.2 h0
  have supplied : measureSupply voltage current s = writeSupplyCell 1 current
      (writeSupplyCell 0 (ringMean (ringAfter s.supply.ring voltage))
        { s with supply := s.supply.sampled (ringAfter s.supply.ring voltage) s.hubTime }) := rfl
  rw [supplied, first]
  exact writeSupplyCell_ignored (small _ hc).1 (small _ hc).2 hs.2 h1

theorem evaluateSupply_due {first : Bool} (h : s.supply.due v s.hubTime = some new) :
    evaluateSupply first v s = changeSupply new { s with supply := s.supply.timed v s.hubTime } := by
  unfold evaluateSupply
  rw [h]

theorem evaluateSupply_none {first : Bool} (h : s.supply.due v s.hubTime = none) :
    evaluateSupply first v s = if first then writeSupplyCell 2 s.supply.state.code { s with supply := s.supply.timed v s.hubTime }
      else { s with supply := s.supply.timed v s.hubTime } := by
  unfold evaluateSupply
  rw [h]
  rfl

/-- The hub after steps 1 to 4 of a measurement (R129, R131). -/
abbrev State.measured (s : State) (voltage current : Nat) : State :=
  s.sampled ((s.supply.sampled (ringAfter s.supply.ring voltage) s.hubTime).timed (ringMean (ringAfter s.supply.ring voltage))
    s.hubTime) (ringMean (ringAfter s.supply.ring voltage)) current

section
variable {voltage current : Nat} (hs : s.settled) (h0 : s.ignores (.sys 0)) (h1 : s.ignores (.sys 1))
  (hv : ringMean (ringAfter s.supply.ring voltage) ≤ 12000) (hc : current ≤ 20000)
include hs h0 h1 hv hc

theorem takeMeasurement_due (due : s.supply.due (ringMean (ringAfter s.supply.ring voltage)) s.hubTime = some new) :
    takeMeasurement voltage current s = changeSupply new (s.measured voltage current) := by
  rw [takeMeasurement, measureSupply_eq hs h0 h1 hv hc]
  refine (evaluateSupply_due (new := new) ?_).trans ?_
  · exact due
  · rfl

theorem takeMeasurement_none (due : s.supply.due (ringMean (ringAfter s.supply.ring voltage)) s.hubTime = none) :
    takeMeasurement voltage current s = if s.supply.ring = [] then
      writeSupplyCell 2 s.supply.state.code (s.measured voltage current) else s.measured voltage current := by
  rw [takeMeasurement, measureSupply_eq hs h0 h1 hv hc]
  refine (evaluateSupply_none ?_).trans ?_
  · exact due
  · exact if_congr decide_eq_true_iff rfl rfl

end

/-- A change of supply state as a command of its own, right after the measurement that makes it due (log entry 47). -/
theorem run_change_sampled {wanted : SupplyState → SupplyState → Bool} {mean current : Nat} {x : Supply} (hs : s.settled)
    (due : x.due mean s.hubTime = some new) (hw : wanted x.state new = true) :
    run (supplyChangeDue wanted) (s.sampled (x.timed mean s.hubTime) mean current) =
      .next (drain (changeSupply new (s.sampled (x.timed mean s.hubTime) mean current))) := by
  have settled : (s.sampled (x.timed mean s.hubTime) mean current).settled := hs
  have same : (s.sampled (x.timed mean s.hubTime) mean current).supply.due
      ((s.sampled (x.timed mean s.hubTime) mean current).cell (.sys 0)).value s.hubTime = some new :=
    (x.due_timed mean s.hubTime).trans due
  have changes : supplyChangeDue wanted (s.sampled (x.timed mean s.hubTime) mean current) =
      changeSupply new (s.sampled (x.timed mean s.hubTime) mean current) := by
    unfold supplyChangeDue
    rw [show (s.sampled (x.timed mean s.hubTime) mean current).hubTime = s.hubTime from rfl, same]
    exact if_pos hw
  rw [run_of_settled settled, changes]

/-- A measurement at which a dwell has passed makes the change that a command of its own would make right after it. -/
theorem run_measurementDue {wanted : SupplyState → SupplyState → Bool} {voltage current : Nat} (hs : s.settled)
    (h0 : s.ignores (.sys 0)) (h1 : s.ignores (.sys 1)) (hv : ringMean (ringAfter s.supply.ring voltage) ≤ 12000)
    (hc : current ≤ 20000) (hd : reached s.hubTime s.supply.nextMeasurement = true)
    (due : s.supply.due (ringMean (ringAfter s.supply.ring voltage)) s.hubTime = some new)
    (hw : wanted s.supply.state new = true) :
    run (measurementDue voltage current) s = run (supplyChangeDue wanted) (s.measured voltage current) := by
  have taken : measurementDue voltage current s = changeSupply new (s.measured voltage current) :=
    (if_pos hd).trans (takeMeasurement_due hs h0 h1 hv hc due)
  rw [run_of_settled hs, taken]
  refine (run_change_sampled (x := s.supply.sampled (ringAfter s.supply.ring voltage) s.hubTime) hs ?_ ?_).symm
  · exact due
  · exact hw

/-! ## A fall to LOW and a rise (R132, R133, R135) -/

/-- A hub whose supply has changed to a state other than CRITICAL, before its event: `code` is the state's. -/
def State.supplyTurned (s : State) (new : SupplyState) (code : Byte) (cap : Nat) : State :=
  State.latched { s with
    supply := { s.supply with state := new, fallTimer := none, riseTimer := none }
    motors := s.motors.map fun m => m.map fun m => { m with duty := clampInt (-(cap : Int)) cap m.duty }
    sys := { s.sys with q2 := s.sys.q2.written s.hubTime code.toNat .valid .supply } } 7

theorem changeSupply_eq (h2 : s.ignores (.sys 2)) (nil : s.unobserved = []) (hn : new ≠ .critical) : changeSupply new s =
    sendEvent s.supply.eventRoute (supplyStatePayload new s.supply.state s)
      (s.supplyTurned new (u8 new.code) new.dutyCap) := by
  have code : (u8 new.code).toNat = new.code := by cases new <;> rfl
  have small : -2147483648 ≤ (new.code : Int) ∧ (new.code : Int) ≤ 2147483647 := by cases new <;> decide
  have written := writeSupplyCell_ignored (i := 2) (s := { s with
    supply := s.supply.changed new, motors := s.motors.map fun m => m.map fun m => m.capped new.dutyCap }) small.1 small.2 nil h2
  have record : s.supply.changed new = { s.supply with state := new, fallTimer := none, riseTimer := none } := by
    rw [Supply.changed, if_neg hn]
  have turned : changeSupply new s = sendEvent s.supply.eventRoute (supplyStatePayload new s.supply.state s)
      (setLatch 7 (writeSupplyCell 2 new.code { s with
        supply := s.supply.changed new, motors := s.motors.map fun m => m.map fun m => m.capped new.dutyCap })) := by
    unfold changeSupply
    dsimp only
    rw [if_neg hn, capAll_eq]
    dsimp only
    rw [written]
    rfl
  rw [turned, written, record, setLatch_eq, State.supplyTurned, code]
  rfl

theorem run_changeSupply {wanted : SupplyState → SupplyState → Bool} {code prev : Byte} {cap : Nat} (hs : s.settled)
    (h2 : s.ignores (.sys 2)) (hr : s.supply.eventRoute = none ∨ s.reports) (hn : new ≠ .critical)
    (due : s.supply.due (s.cell (.sys 0)).value s.hubTime = some new) (hw : wanted s.supply.state new = true)
    (hcode : u8 new.code = code) (hprev : u8 s.supply.state.code = prev) (hcap : new.dutyCap = cap) :
    run (supplyChangeDue wanted) s = .next ((s.supplyTurned new code cap).event s.supply.eventRoute
      ([3, code, prev] ++ le16 (s.cell (.sys 0)).value.toNat ++ le16 (s.cell (.sys 1)).value.toNat ++ le32 s.hubTime)) := by
  subst hcode hprev hcap
  have changes : supplyChangeDue wanted s = changeSupply new s := by
    unfold supplyChangeDue
    rw [due]
    exact if_pos hw
  have turned : (s.supplyTurned new (u8 new.code) new.dutyCap).settled := hs
  have sent := (Reporting.of_settled (c := s.reports) (k := 1) turned fun h => h).sendEvent
    (payload := supplyStatePayload new s.supply.state s) hr
  rw [← changeSupply_eq h2 hs.2 hn, ← changes] at sent
  have kept := (State.event_poolOnly (s.supplyTurned new (u8 new.code) new.dutyCap) s.supply.eventRoute
    (supplyStatePayload new s.supply.state s)).reflexes
  rw [sent.run hs, State.withReflexes_of_eq kept]
  rfl

/-- The record after a measurement, in the terms of the statements (R129, R131). -/
theorem Supply.timed_eq (u : Supply) (v : Int) (now : Time) : u.timed v now =
    { u with
      fallTimer := if u.state = .normal ∧ v < u.settings.low then some (u.fallTimer.getD now) else none
      criticalTimer := if u.state ≠ .critical ∧ v < u.settings.critical then some (u.criticalTimer.getD now) else none
      riseTimer := if u.high v then some (u.riseTimer.getD now) else none } := by
  have fall : (if u.state = .normal then dwellTimer (u.settings.fallHolds v) u.fallTimer now else none) =
      if u.state = .normal ∧ v < u.settings.low then some (u.fallTimer.getD now) else none := by
    simp only [dwellTimer, u.settings.fallHolds_iff, ite_and]
  have critical : (if u.state = .critical then none else dwellTimer (u.settings.criticalHolds v) u.criticalTimer now) =
      if u.state ≠ .critical ∧ v < u.settings.critical then some (u.criticalTimer.getD now) else none := by
    simp only [dwellTimer, u.settings.criticalHolds_iff, ite_and, ne_eq, ite_not]
  have rise : (if u.state = .normal then none else dwellTimer (u.settings.riseHolds u.state v) u.riseTimer now) =
      if u.high v then some (u.riseTimer.getD now) else none := by
    rw [dwellTimer, ← ite_not, ← ite_and]
    refine if_congr ?_ rfl rfl
    rw [u.riseHolds_iff]
    exact and_iff_right_of_imp fun h => by obtain ⟨e, -⟩ | ⟨e, -⟩ := h <;> simp [e]
  unfold Supply.timed
  rw [fall, critical, rise]

/-- The record after a measurement whose mean is a number of millivolts. -/
theorem Supply.timed_mean (u : Supply) (mean : Nat) (now : Time) : u.timed mean now =
    { u with
      fallTimer := if u.state = .normal ∧ mean < u.settings.low then some (u.fallTimer.getD now) else none
      criticalTimer := if u.state ≠ .critical ∧ mean < u.settings.critical then some (u.criticalTimer.getD now) else none
      riseTimer := if u.state = .low ∧ u.settings.low + u.settings.hysteresis ≤ mean ∨
        u.state = .critical ∧ u.settings.critical + u.settings.hysteresis ≤ mean then some (u.riseTimer.getD now) else none } := by
  simp only [Supply.timed_eq, Supply.high, ← Int.natCast_add, Int.ofNat_lt, Int.ofNat_le]

/-- Settles O52: the measurement by the transition that is due, the falls and the rises by their event. -/
theorem supplyIsMeasuredAndChangesState : Obligations.SupplyIsMeasuredAndChangesState := by
  intro s hs h0 h1 h2 hr u g write timer ran
  refine ⟨fun voltage current => ?measures, ?changes⟩
  case measures =>
    intro ring v measures measured critical low rise hv
    have bound : ringMean (ringAfter s.supply.ring voltage.val) ≤ 12000 := hv
    have ampere : current.val ≤ 20000 := Nat.lt_succ_iff.mp current.isLt
    have left : s.measured voltage current = measured false := by
      rw [State.measured, Supply.timed_mean]
      rfl
    have lifted : (s.supply.critical (v : Int) s.hubTime ↔ critical) ∧ (s.supply.low (v : Int) s.hubTime ↔ low) ∧
        (s.supply.high (v : Int) ∧ ranFor s.hubTime s.supply.riseTimer 1000 ↔ rise) := by
      refine ⟨?_, ?_, ?_⟩
      · exact and_congr_right fun _ => and_congr_left fun _ => Int.ofNat_lt
      · exact and_congr_right fun _ => and_congr_left fun _ => Int.ofNat_lt
      · exact and_congr_left fun _ => or_congr (and_congr_right fun _ => Int.ofNat_le) (and_congr_right fun _ => Int.ofNat_le)
    obtain ⟨criticalIff, lowIff, riseIff⟩ := lifted
    refine ⟨fun early => run_of_same hs (if_neg (by simp [u, early])), fun hd => ?_⟩
    have taken : measures = .next (drain (takeMeasurement voltage current s)) :=
      (run_of_settled hs).trans (congrArg (fun t => Host.Outcome.next (drain t)) (if_pos hd))
    have changes {wanted : SupplyState → SupplyState → Bool} {new : SupplyState} (due : s.supply.due (v : Int) s.hubTime = some new)
        (hw : wanted s.supply.state new = true) : measures = run (supplyChangeDue wanted) (measured false) := by
      rw [← left]
      exact run_measurementDue hs h0 h1 bound ampere hd due hw
    refine ⟨fun hc hl hrise => ?_, fun hc => ?_, fun hc hl => ?_, fun hc hrise => ?_⟩
    · have due : s.supply.due (v : Int) s.hubTime = none :=
        Supply.due_none (mt criticalIff.mp hc) (mt lowIff.mp hl) (mt riseIff.mp hrise)
      rw [taken, takeMeasurement_none hs h0 h1 bound ampere due]
      by_cases first : s.supply.ring = []
      · have code : -2147483648 ≤ (s.supply.state.code : Int) ∧ (s.supply.state.code : Int) ≤ 2147483647 := by
          cases s.supply.state <;> decide
        rw [if_pos first, left, writeSupplyCell_ignored (s := measured false) code.1 code.2 hs.2 h2, drain_of_nil (by exact hs.2),
          show decide (u.ring = []) = true from decide_eq_true first]
        rfl
      · rw [if_neg first, left, drain_of_nil (by exact hs.2), show decide (u.ring = []) = false from decide_eq_false first]
    · exact changes (wanted := SupplyState.fallsToCritical) (Supply.due_critical (criticalIff.mpr hc)) rfl
    · refine changes (wanted := SupplyState.fallsToLow) (Supply.due_low (mt criticalIff.mp hc) (lowIff.mpr hl)) ?_
      rw [hl.1]
      rfl
    · obtain ⟨high, long⟩ := riseIff.mpr hrise
      refine changes (wanted := SupplyState.rises) (Supply.due_rise (mt criticalIff.mp hc) high long) ?_
      obtain ⟨state, -⟩ | ⟨state, -⟩ := high <;> rw [state] <;> rfl
  case changes =>
    intro v changes
    refine ⟨fun t hst below above ran long => ?_, fun t hst above high ran long => ?_, fun t hst above ran long => ?_⟩
    · have due : s.supply.due v s.hubTime = some .low :=
        Supply.due_low (fun h => absurd h.2.1 (not_lt.mpr above)) ⟨hst, below, t, ran, long⟩
      exact run_changeSupply (wanted := SupplyState.fallsToLow) hs h2 hr (by decide) due (by rw [hst]; rfl) rfl
        (by rw [hst]; rfl) rfl
    · have due : s.supply.due v s.hubTime = some s.supply.state.risen :=
        Supply.due_rise (fun h => absurd h.2.1 (not_lt.mpr high)) (.inl ⟨hst, above⟩) ⟨t, ran, long⟩
      rw [hst] at due
      exact run_changeSupply (wanted := SupplyState.rises) hs h2 hr (by decide) due (by rw [hst]; rfl) rfl (by rw [hst]; rfl) rfl
    · have due : s.supply.due v s.hubTime = some s.supply.state.risen :=
        Supply.due_rise (fun h => absurd hst h.1) (.inr ⟨hst, above⟩) ⟨t, ran, long⟩
      rw [hst] at due
      exact run_changeSupply (wanted := SupplyState.rises) hs h2 hr (by decide) due (by rw [hst]; rfl) rfl (by rw [hst]; rfl) rfl

end Sys2Proof.Machine
end

section
/-!
Settles CriticalSupplyStopsEverything: the fall to CRITICAL (chapter 08).
-/
namespace Sys2Proof.Machine

variable {s t : State} {p : Port} {v : VoiceId} {m : Motor}

/-! ## An operation on each part of the hub in turn -/

/-- What an operation does to its own part alone, it does to each part of a list in turn. -/
theorem foldl_each {α β : Type} {get : State → α → β} {op : State → α → State} {R : β → β → Prop}
    (own : ∀ s a, R (get s a) (get (op s a) a)) (others : ∀ s a b, b ≠ a → get (op s a) b = get s b) {l : List α}
    (hl : l.Nodup) (s : State) : ∀ b, (b ∈ l → R (get s b) (get (l.foldl op s) b)) ∧
      (b ∉ l → get (l.foldl op s) b = get s b) := by
  induction l generalizing s with
  | nil => exact fun b => ⟨fun h => by simp at h, fun _ => rfl⟩
  | cons a l ih =>
    obtain ⟨fresh, rest⟩ := List.nodup_cons.mp hl
    refine fun b => ⟨fun h => ?_, fun h => ?_⟩
    · by_cases e : b = a
      · subst e
        rw [List.foldl_cons, (ih rest (op s b) b).2 fresh]
        exact own s b
      · have behind := (ih rest (op s a) b).1 ((List.mem_cons.mp h).resolve_left e)
        rwa [others s a b e] at behind
    · rw [List.mem_cons, not_or] at h
      rw [List.foldl_cons, (ih rest (op s a) b).2 h.2, others s a b h.1]

/-- What an operation keeps, it keeps over a list. -/
theorem foldl_keeps {α : Type} {P : State → Prop} {op : State → α → State} (h : ∀ s a, P s → P (op s a)) (l : List α)
    (hs : P s) : P (l.foldl op s) := by
  induction l generalizing s with
  | nil => exact hs
  | cons a l ih => exact ih (h s a hs)

/-! ## The motors (R112) -/

/-- A motor as an entry of the supply to CRITICAL leaves it (R112). -/
def Motor.supplyHalted (m : Motor) : Motor :=
  if m.state = .locked then m else m.stoppedIn (if m.state = .stalled then .stalled else .idle) .coast

theorem supplyHalt_motor (p : Port) (s : State) : (supplyHalt p s).motor p = (s.motor p).map Motor.supplyHalted := by
  cases hm : s.motor p with
  | none => simp [supplyHalt, hm]
  | some m =>
    by_cases hk : m.state = .locked
    · simp [supplyHalt, hm, hk, Motor.supplyHalted]
    · rw [supplyHalt_some hm hk, moveMotor_motor, Option.map_some, Motor.supplyHalted, if_neg hk]

/-- A halt of one port's motor is one of that motor and of the pool. -/
theorem supplyHalt_poolOp (p : Port) (s : State) : ∃ x, PoolOp (s.setMotor p x) (supplyHalt p s) := by
  cases hm : s.motor p with
  | none =>
    refine ⟨none, ?_⟩
    simp only [supplyHalt, hm, State.setMotor_self hm]
    exact .refl s
  | some m =>
    by_cases hk : m.state = .locked
    · refine ⟨some m, ?_⟩
      simp only [supplyHalt, hm, if_pos hk, State.setMotor_self hm]
      exact .refl s
    · rw [supplyHalt_some hm hk]
      exact ⟨_, moveMotor_poolOp ..⟩

theorem supplyHalt_other {q : Port} (h : q ≠ p) (s : State) : (supplyHalt p s).motor q = s.motor q := by
  obtain ⟨x, pool⟩ := supplyHalt_poolOp p s
  rw [State.motor, pool.motors]
  exact State.motor_setMotor_other s x (Ne.symm h)

theorem supplyHalt_writesS3 (p : Port) (s : State) : WritesS3 s (supplyHalt p s) := by
  unfold supplyHalt
  split
  · split
    · exact .refl s
    · exact moveMotor_writesS3 ..
  · exact .refl s

/-! ## The voices (R161) -/

theorem silence_voice (v : VoiceId) (o : SegOutcome) (s : State) :
    ((silence v o s).voice v).state = .idle ∧ ((silence v o s).voice v).notes = [] ∧ ((silence v o s).voice v).stream = [] := by
  rw [silence, becomeIdle, startIdleTimer_voice, State.voice_setVoice_same, freeStream_voice]
  exact ⟨rfl, rfl, rfl⟩

theorem startIdleTimer_off (h : s.amp = .off) : startIdleTimer s = s := by
  rw [startIdleTimer, h]
  rfl

/-- The amplifier stays OFF where a voice is silenced. -/
theorem silence_off (o : SegOutcome) (h : s.amp = .off ∧ s.speaker = 0) : (silence v o s).amp = .off ∧ (silence v o s).speaker = 0 := by
  have notes := (reportNotes_poolOp v (endedNotes (s.voice v).notes o) (s.setVoice v { s.voice v with loopOn := false, notes := [] }))
  have freed (t : State) : (freeStream 0 v t).amp = t.amp ∧ (freeStream 0 v t).speaker = t.speaker :=
    ⟨(release_frames ..).amp, (release_frames ..).speaker⟩
  have still : (freeStream 0 v (reportNotes v (endedNotes (s.voice v).notes o)
      (s.setVoice v { s.voice v with loopOn := false, notes := [] }))).amp = .off ∧
      (freeStream 0 v (reportNotes v (endedNotes (s.voice v).notes o)
        (s.setVoice v { s.voice v with loopOn := false, notes := [] }))).speaker = 0 := by
    rw [(freed _).1, (freed _).2, notes.amp, notes.speaker]
    exact h
  rw [silence, becomeIdle, startIdleTimer_off]
  · exact still
  · exact still.1

theorem supplyCut_other {w : VoiceId} (h : w ≠ v) (s : State) : (supplyCut v s).voice w = s.voice w := by
  unfold supplyCut
  split
  · rfl
  · exact (silence_voiceOp ..).others w h

/-- A voice that an entry of the supply to CRITICAL has cut (R161). -/
def Voice.Cut (r r' : Voice) : Prop := r'.state = .idle ∧ (r.state ≠ .idle → r'.notes = [] ∧ r'.stream = [])

theorem supplyCut_voice (v : VoiceId) (s : State) : (s.voice v).Cut ((supplyCut v s).voice v) := by
  unfold supplyCut
  split
  · exact ⟨‹_›, fun h => absurd ‹_› h⟩
  · exact ⟨(silence_voice ..).1, fun _ => (silence_voice ..).2⟩

/-- What the cuts leave as it is. -/
structure CutOff (s t : State) : Prop where
  supply : t.supply = s.supply
  motors : t.motors = s.motors
  amp : t.amp = .off
  speaker : t.speaker = 0

theorem CutOff.supplyCut {v : VoiceId} (h : CutOff s t) : CutOff s (supplyCut v t) := by
  unfold Machine.supplyCut
  split
  · exact h
  · obtain ⟨amp, speaker⟩ := silence_off (v := v) .supply ⟨h.amp, h.speaker⟩
    exact ⟨(silence_voiceOp ..).supply.trans h.supply, (silence_voiceOp ..).motors.trans h.motors, amp, speaker⟩

theorem supplyCut_writesS3 (v : VoiceId) (s : State) : WritesS3 s (supplyCut v s) := by
  unfold supplyCut
  split
  · exact .refl s
  · exact silence_writesS3 ..

/-! ## The entry to CRITICAL (R134) -/

theorem haltAll_keeps (s : State) : (allPorts.foldl (fun s p => supplyHalt p s) s).supply = s.supply ∧
    (allPorts.foldl (fun s p => supplyHalt p s) s).voices = s.voices :=
  foldl_keeps (P := fun t => t.supply = s.supply ∧ t.voices = s.voices) (fun t p h => by
    obtain ⟨x, pool⟩ := supplyHalt_poolOp p t
    exact ⟨pool.supply.trans h.1, pool.voices.trans h.2⟩) allPorts ⟨rfl, rfl⟩

theorem haltAll_motor (s : State) (p : Port) :
    (allPorts.foldl (fun s p => supplyHalt p s) s).motor p = (s.motor p).map Motor.supplyHalted :=
  (foldl_each (get := fun s p => State.motor s p) (op := fun s p => supplyHalt p s)
    (R := fun x y => y = x.map Motor.supplyHalted) (fun s p => supplyHalt_motor p s) (fun s _ _ h => supplyHalt_other h s)
    (by decide) s p).1 (by cases p <;> decide)

theorem criticalActions_leave (s : State) : CutOff (allPorts.foldl (fun s p => supplyHalt p s) s) (criticalActions s) ∧
    (∀ p, (criticalActions s).motor p = (s.motor p).map Motor.supplyHalted) ∧
    ∀ v, (s.voice v).Cut ((criticalActions s).voice v) := by
  have off : CutOff (allPorts.foldl (fun s p => supplyHalt p s) s) (criticalActions s) :=
    foldl_keeps (P := CutOff _) (fun t v h => h.supplyCut) allVoices ⟨rfl, rfl, rfl, rfl⟩
  refine ⟨off, fun p => ?_, fun v => ?_⟩
  · rw [State.motor, off.motors]
    exact haltAll_motor s p
  · have cut := (foldl_each (get := fun s v => State.voice s v) (op := fun s v => supplyCut v s) (R := Voice.Cut)
      (fun s v => supplyCut_voice v s) (fun s _ _ h => supplyCut_other h s) (l := allVoices) (by decide)
      (ampOff (allPorts.foldl (fun s p => supplyHalt p s) s)) v).1 (by fin_cases v <;> decide)
    have same : (ampOff (allPorts.foldl (fun s p => supplyHalt p s) s)).voice v = s.voice v := by
      rw [ampOff, State.voice, State.voice, (haltAll_keeps s).2]
    rwa [same] at cut

theorem criticalActions_writesS3 (s : State) : WritesS3 s (criticalActions s) := by
  have halts : WritesS3 s (allPorts.foldl (fun s p => supplyHalt p s) s) := .foldl (fun s p => supplyHalt_writesS3 p s) ..
  have off : WritesS3 (allPorts.foldl (fun s p => supplyHalt p s) s) (ampOff (allPorts.foldl (fun s p => supplyHalt p s) s)) :=
    .of_same rfl rfl rfl
  exact (halts.trans off).trans (.foldl (fun s v => supplyCut_writesS3 v s) ..)

/-! ## The write of S2, the latch and the event (R132, R135) -/

/-- A supply cell that nothing watches is written while writes of S3 wait, which nothing watches either. -/
theorem writeSupplyCell_waiting {i : Fin 4} {value : Int} (lo : -2147483648 ≤ value) (hi : value ≤ 2147483647)
    (waits : ∀ w ∈ s.unobserved, w.cell = .sys 3) (ign : s.ignores (.sys i)) (ign3 : s.ignores (.sys 3)) :
    writeSupplyCell i value s =
      { s.setCell (.sys i) ((s.cell (.sys i)).written s.hubTime value .valid .supply) with unobserved := [] } := by
  rw [writeSupplyCell, Cell.valueWrite_eq lo hi, commitWrite, observe_ignored (w := ⟨.sys i, _⟩)]
  · exact drain_ignored ign3 waits
  · exact ign

theorem sendEvent_other (route : Option Endpoint) (payload : List Byte) (s : State) {k : Nat}
    (h : s.attention.latches.getLsbD k = true) :
    (sendEvent route payload s).cell (.sys 2) = s.cell (.sys 2) ∧
      (sendEvent route payload s).attention.latches.getLsbD k = true := by
  cases route with
  | none => exact ⟨rfl, h⟩
  | some e =>
    rw [sendEvent, placeUrgent]
    split
    · exact ⟨rfl, h⟩
    · rw [setLatch_eq]
      refine ⟨rfl, ?_⟩
      show (s.attention.latches ||| _).getLsbD k = true
      rw [BitVec.getLsbD_or, h, Bool.true_or]
    · exact ⟨rfl, h⟩

/-- A hub whose supply has entered CRITICAL, its duties at the cap, before what acts on it. -/
def State.supplyCritical (s : State) : State :=
  { s with
    supply := s.supply.changed .critical
    motors := s.motors.map fun m => m.map fun m => m.capped SupplyState.critical.dutyCap }

/-- A fall to CRITICAL up to its event. -/
def State.supplyFallen (s : State) : State :=
  setLatch latchSupplyChange (writeSupplyCell 2 SupplyState.critical.code (criticalActions s.supplyCritical))

theorem changeSupply_critical (s : State) : changeSupply .critical s =
    sendEvent s.supplyFallen.supply.eventRoute (supplyStatePayload .critical s.supply.state s.supplyFallen) s.supplyFallen := by
  unfold changeSupply State.supplyFallen State.supplyCritical
  dsimp only
  rw [capAll_eq, if_pos rfl]

/-- S2 shows CRITICAL, and no write waits. -/
def State.criticalShown (s : State) : State :=
  { s.setCell (.sys 2) ((s.cell (.sys 2)).written s.hubTime SupplyState.critical.code .valid .supply) with unobserved := [] }

theorem State.criticalShown_waits (s : State) :
    s.criticalShown.unobserved = [] ∧ s.criticalShown.reflexes = s.reflexes ∧ s.criticalShown.subs = s.subs := ⟨rfl, rfl, rfl⟩

/-- What the write of S2 and the latch leave as it is. -/
theorem State.criticalShown_keeps (s : State) (k : Nat) :
    (setLatch k s.criticalShown).supply = s.supply ∧ (setLatch k s.criticalShown).motors = s.motors ∧
      (setLatch k s.criticalShown).voices = s.voices ∧ (setLatch k s.criticalShown).amp = s.amp ∧
      (setLatch k s.criticalShown).speaker = s.speaker ∧ ((setLatch k s.criticalShown).cell (.sys 2)).value = 2 :=
  ⟨rfl, rfl, rfl, rfl, rfl, rfl⟩

section
variable (hs : s.settled) (h2 : s.ignores (.sys 2)) (h3 : s.ignores (.sys 3))
include hs h2 h3

theorem supplyFallen_eq : s.supplyFallen = setLatch latchSupplyChange (criticalActions s.supplyCritical).criticalShown := by
  have acts : WritesS3 s.supplyCritical (criticalActions s.supplyCritical) := criticalActions_writesS3 _
  have waits : ∀ w ∈ (criticalActions s.supplyCritical).unobserved, w.cell = .sys 3 := by
    refine fun w hw => (acts.waits w hw).resolve_left fun h => ?_
    rw [show s.supplyCritical.unobserved = [] from hs.2] at h
    cases h
  rw [State.supplyFallen, writeSupplyCell_waiting (by decide) (by decide) waits (acts.ignores h2) (acts.ignores h3)]
  rfl

theorem changeSupply_critical_writesS3 : WritesS3 s (changeSupply .critical s) := by
  have acts : WritesS3 s.supplyCritical (criticalActions s.supplyCritical) := criticalActions_writesS3 _
  obtain ⟨nil, reflexes, subs⟩ := (criticalActions s.supplyCritical).criticalShown_waits
  have shown : WritesS3 s (criticalActions s.supplyCritical).criticalShown :=
    ⟨fun w hw => by simp [nil] at hw, reflexes.trans acts.reflexes, subs.trans acts.subs⟩
  have fallen : WritesS3 s s.supplyFallen := by
    rw [supplyFallen_eq hs h2 h3]
    exact shown.trans (setLatch_writesS3 ..)
  rw [changeSupply_critical]
  exact fallen.trans (sendEvent_writesS3 ..)

theorem run_fallToCritical (due : s.supply.due (s.cell (.sys 0)).value s.hubTime = some .critical) :
    run (supplyChangeDue SupplyState.fallsToCritical) s = .next { changeSupply .critical s with unobserved := [] } := by
  have change : supplyChangeDue SupplyState.fallsToCritical s = changeSupply .critical s := by
    unfold supplyChangeDue
    rw [due]
    exact if_pos rfl
  rw [WritesS3.run (by rw [change]; exact changeSupply_critical_writesS3 hs h2 h3) hs h3, change]

end

/-- Settles O53. -/
theorem criticalSupplyStopsEverything : Obligations.CriticalSupplyStopsEverything := by
  intro t0 s hq h2 state below timer long
  have due : s.supply.due (s.cell (.sys 0)).value s.hubTime = some .critical :=
    Supply.due_critical ⟨state, below, t0, timer, long⟩
  obtain ⟨off, motors, voices⟩ := criticalActions_leave s.supplyCritical
  have fallen := supplyFallen_eq hq.1 h2 hq.2.2
  have latched : s.supplyFallen.attention.latches.getLsbD 7 = true := by
    rw [fallen, setLatch_eq]
    show (_ ||| (1#12 <<< 7)).getLsbD 7 = true
    rw [BitVec.getLsbD_or]
    simp
  have event := sendEvent_poolOp (by simp [supplyStatePayload, le16, le32]) s.supplyFallen.supply.eventRoute
    (payload := supplyStatePayload .critical s.supply.state s.supplyFallen) s.supplyFallen
  obtain ⟨cell, latch⟩ := sendEvent_other s.supplyFallen.supply.eventRoute
    (supplyStatePayload .critical s.supply.state s.supplyFallen) s.supplyFallen latched
  rw [← changeSupply_critical] at event cell latch
  have ran := run_fallToCritical hq.1 h2 hq.2.2 due
  rw [fallen] at event cell
  obtain ⟨kSupply, kMotors, kVoices, kAmp, kSpeaker, kCell⟩ := (criticalActions s.supplyCritical).criticalShown_keeps latchSupplyChange
  have supply : (changeSupply .critical s).supply = s.supply.changed .critical := by
    rw [event.supply, kSupply, off.supply, (haltAll_keeps _).1]
    rfl
  have motor (p : Port) : (changeSupply .critical s).motor p = (s.supplyCritical.motor p).map Motor.supplyHalted := by
    rw [State.motor, event.motors, kMotors]
    exact motors p
  have voice (v : VoiceId) : (s.voice v).Cut ((changeSupply .critical s).voice v) := by
    have same : (changeSupply .critical s).voice v = (criticalActions s.supplyCritical).voice v :=
      congrArg (Quad.get · v) (event.voices.trans kVoices)
    rw [same]
    exact voices v
  have amp := event.amp.trans (kAmp.trans off.amp)
  have speaker := event.speaker.trans (kSpeaker.trans off.speaker)
  have shown := (congrArg Cell.value cell).trans kCell
  generalize changeSupply .critical s = t at *
  refine ⟨_, ran, congrArg Supply.state supply, congrArg Supply.criticalTimer supply, amp, speaker, shown, latch, voice
    , fun p m hm => ?_⟩
  have capped : s.supplyCritical.motor p = some (m.capped 0) := by
    rw [State.motor, State.supplyCritical, PerPort.get_map, show s.motors.get p = some m from hm]
    rfl
  have stands : t.motor p = some (m.capped 0).supplyHalted := by rw [motor, capped]; rfl
  refine ⟨fun hk => stands.trans (congrArg some (if_neg hk)), fun hk => stands.trans (congrArg some ((if_pos hk).trans ?_))⟩
  have none : clampInt (-((0 : Nat) : Int)) (0 : Nat) m.duty = 0 := by unfold clampInt; omega
  exact congrArg (fun d => { m with duty := d }) none

end Sys2Proof.Machine
end

section
/-!
Settles SubscriptionsReportOrSkip: the attempts of a subscription at an expiry, at an interval end and at a write, and the write
of a TOUCH sample as its observers see it (chapters 04, 05 and 11).
-/
namespace Sys2Proof.Machine

variable {s t : State} {p : Port} {i : Fin 24} {b : Subscription} {c : Cell} {w : Write} {value : Int} {tag : CellTag}

/-! ## What an attempt gives (R181, R182) -/

/-- The minimum interval of a subscription has passed. -/
abbrev Subscription.passed (b : Subscription) (now : Time) : Prop :=
  ∀ t, b.lastReport = some t → b.minInterval ≤ elapsedSince now t

/-- A report of a subscription has room. -/
abbrev Subscription.room (b : Subscription) (s : State) : Prop :=
  (s.link b.target.link).up = true ∧ 1 ≤ s.free ∧ (s.link b.target.link).normal.length < 24

/-- `s` after the report of a subscription with a value and a tag, in the terms of the statements. -/
def State.reporting (s : State) (i : Fin 24) (b : Subscription) (value : Int) (tag : CellTag) : State :=
  ((s.withFree (s.free - 1)).withNormal b.target.link
    { channel := b.target.channel, kind := .report, flags := 0, tag := 0
      payload := [BitVec.ofNat 8 i.val, BitVec.ofNat 8 b.cell.code, BitVec.ofNat 8 tag.code] ++ leInt value ++
        le32 (s.cell b.cell).timestamp ++ [(s.cell b.cell).updateCount] ++ le16 b.skipped ++ le32 s.hubTime }).setSub i
    { b with lastValue := value, lastTag := tag, lastReport := some s.hubTime, pending := false, attemptDue := false }

/-- `s` after a skip of a subscription. -/
def State.skipping (s : State) (i : Fin 24) (b : Subscription) : State :=
  s.setSub i { b with skipped := min 65535 (b.skipped + 1) }

/-- `s` after the report, with the write of S3 that its page makes waiting (R4, R13). -/
def State.reportingWrites (s : State) (i : Fin 24) (b : Subscription) (value : Int) (tag : CellTag) : State :=
  { s.reporting i b value tag with
    unobserved := s.unobserved ++ [{ cell := .sys 3, left := (s.reporting i b value tag).cell (.sys 3) }] }

theorem intervalPassed_iff {now : Time} : b.intervalPassed now = true ↔ b.passed now := by
  unfold Subscription.intervalPassed Subscription.passed
  cases b.lastReport <;> simp

theorem reportRoom_iff : reportRoom b.target.link s = true ↔ b.room s := by
  simp [reportRoom, Subscription.room, and_assoc]

/-- An attempt of a subscription that is ACTIVE and pending, with the cell as `c`. -/
theorem emissionAttempt_setSub (small : s.free ≤ 128) (ha : b.active = true) (hp : b.pending = true) :
    (¬ b.passed s.hubTime → emissionAttempt i c (s.setSub i b) = s.setSub i { b with attemptDue := true }) ∧
    (b.passed s.hubTime → b.room s → emissionAttempt i c (s.setSub i b) = s.reportingWrites i b c.value c.tag) ∧
    (b.passed s.hubTime → ¬ b.room s → emissionAttempt i c (s.setSub i b) = s.skipping i b) := by
  have there : (s.setSub i b).sub i = b := State.sub_setSub_same ..
  refine ⟨fun early => ?_, fun passed room => ?_, fun passed full => ?_⟩
  · have running : b.intervalPassed s.hubTime = false := by
      rw [← Bool.not_eq_true, intervalPassed_iff]
      exact early
    have waits : emissionAttempt i c (s.setSub i b) = (s.setSub i b).setSub i { b with attemptDue := true } := by
      simp only [emissionAttempt, there, ha, hp, Bool.and_self, if_true,
        show b.intervalPassed (s.setSub i b).hubTime = false from running, Bool.false_eq_true, if_false]
    rw [waits, State.setSub_setSub]
  · rw [emissionAttempt_passes there ha hp (intervalPassed_iff.mpr passed),
      askReport_builds there (reportRoom_iff.mpr room), placeReport_eq (s := s.setSub i b) (show s.free ≤ 2147483647 by omega)]
    simp only [State.reportingWrites, State.reporting, State.setSub, State.withFree, State.s3Written, State.withNormal,
      State.setLink, Vector.set_set]
    rfl
  · have unplaced : reportRoom b.target.link (s.setSub i b) = false := by
      rw [← Bool.not_eq_true, reportRoom_iff]
      exact full
    rw [emissionAttempt_passes there ha hp (intervalPassed_iff.mpr passed), askReport_skips there unplaced, State.setSub_setSub]
    rfl

/-! ## A write at a subscription (R179, R181) -/

/-- A subscription owes a report at a write of its cell. -/
abbrev Subscription.owes (b : Subscription) (value : Int) (tag : CellTag) : Prop :=
  b.pending = true ∨ b.mode ≠ .periodic ∧ (tag ≠ b.lastTag ∨ b.deadband < (value - b.lastValue).natAbs)

/-- A subscription that owes a report. -/
def Subscription.due (b : Subscription) : Subscription := { b with pending := true }

theorem State.setSub_self (s : State) (i : Fin 24) : s.setSub i (s.sub i) = s := by
  cases s
  simp [State.setSub, State.sub, Vector.get_eq_getElem]

theorem isChange_iff : (b.mode ≠ .periodic && b.isChange c) = true ↔
    b.mode ≠ .periodic ∧ (c.tag ≠ b.lastTag ∨ b.deadband < (c.value - b.lastValue).natAbs) := by
  simp [Subscription.isChange]

theorem observeSub_other (h : (s.sub i).active = true → (s.sub i).cell ≠ w.cell) : observeSub w s i = s := by
  refine if_neg ?_
  rw [Bool.and_eq_true, decide_eq_true_eq]
  exact fun ⟨a, e⟩ => h a e

theorem observeSub_still (ha : (s.sub i).active = true) (hc : (s.sub i).cell = w.cell)
    (h : ¬ (s.sub i).owes w.left.value w.left.tag) : observeSub w s i = s := by
  obtain ⟨calm, same⟩ := not_or.mp h
  have unpending : (s.sub i).pending = false := by rwa [Bool.not_eq_true] at calm
  rw [observeSub, if_pos (by simp [ha, hc]), if_neg (by rw [isChange_iff]; exact same), emissionAttempt,
    if_neg (by simp [unpending])]

theorem observeSub_owes (ha : (s.sub i).active = true) (hc : (s.sub i).cell = w.cell)
    (h : (s.sub i).owes w.left.value w.left.tag) :
    observeSub w s i = emissionAttempt i w.left (s.setSub i (s.sub i).due) := by
  rw [observeSub, if_pos (by simp [ha, hc])]
  by_cases change : ((s.sub i).mode ≠ .periodic && (s.sub i).isChange w.left) = true
  · rw [if_pos change]
    rfl
  · have pending : (s.sub i).pending = true := h.resolve_right (mt isChange_iff.mpr change)
    have same : (s.sub i).due = s.sub i := by
      unfold Subscription.due
      rw [← pending]
    rw [if_neg change, same, State.setSub_self]

/-- A write at an ACTIVE subscription on its cell, in all its cases. -/
theorem observeSub_cases (small : s.free ≤ 128) (ha : (s.sub i).active = true) (hc : (s.sub i).cell = w.cell)
    (h : (s.sub i).owes w.left.value w.left.tag) :
    (¬ (s.sub i).passed s.hubTime → observeSub w s i = s.setSub i { (s.sub i).due with attemptDue := true }) ∧
    ((s.sub i).passed s.hubTime → (s.sub i).room s →
      observeSub w s i = s.reportingWrites i (s.sub i).due w.left.value w.left.tag) ∧
    ((s.sub i).passed s.hubTime → ¬ (s.sub i).room s → observeSub w s i = s.skipping i (s.sub i).due) := by
  rw [observeSub_owes ha hc h]
  exact emissionAttempt_setSub (b := (s.sub i).due) small ha rfl

/-- A write at an ACTIVE subscription that was put in its place. -/
theorem observeSub_setSub (small : s.free ≤ 128) (ha : b.active = true) (hc : b.cell = w.cell) :
    (¬ b.owes w.left.value w.left.tag → observeSub w (s.setSub i b) i = s.setSub i b) ∧
    (b.owes w.left.value w.left.tag →
      (¬ b.passed s.hubTime → observeSub w (s.setSub i b) i = s.setSub i { b.due with attemptDue := true }) ∧
      (b.passed s.hubTime → b.room s →
        observeSub w (s.setSub i b) i = s.reportingWrites i b.due w.left.value w.left.tag) ∧
      (b.passed s.hubTime → ¬ b.room s → observeSub w (s.setSub i b) i = s.skipping i b.due)) := by
  have there : (s.setSub i b).sub i = b := State.sub_setSub_same ..
  refine ⟨fun h => observeSub_still ?_ ?_ ?_, fun h => ?_⟩
  · rw [there]; exact ha
  · rw [there]; exact hc
  · rw [there]; exact h
  · rw [observeSub_owes (by rw [there]; exact ha) (by rw [there]; exact hc) (by rw [there]; exact h), there, State.setSub_setSub]
    exact emissionAttempt_setSub (b := b.due) small ha rfl

/-! ## An attempt as a command -/

/-- The report of a subscription that does not watch S3 is all that is left of its attempt. -/
theorem drain_reportingWrites (hu : s.unobserved = []) (hi : s.ignores (.sys 3)) (hb : b.cell ≠ .sys 3) :
    drain (s.reportingWrites i b value tag) = s.reporting i b value tag := by
  have ign : (s.reporting i b value tag).ignores (.sys 3) := State.ignores.setSub (s := (s.withFree (s.free - 1)).withNormal b.target.link _) hi i hb
  have waits : ∀ w ∈ (s.reportingWrites i b value tag).unobserved, w.cell = .sys 3 := by
    intro w hw
    rw [State.reportingWrites, hu] at hw
    rw [List.mem_singleton.mp hw]
  rw [drain_ignored (s := s.reportingWrites i b value tag) ign waits]
  have nil : (s.reporting i b value tag).unobserved = [] := hu
  rw [State.reportingWrites]
  generalize s.reporting i b value tag = t at *
  cases t
  cases nil
  rfl

/-- An attempt of an ACTIVE and pending subscription that a command makes. -/
theorem run_attempt {f : State → State} (hq : s.quiet) (hb : b.cell ≠ .sys 3) (ha : b.active = true) (hp : b.pending = true)
    (hf : f s = emissionAttempt i c (s.setSub i b)) :
    (¬ b.passed s.hubTime → run f s = .next (s.setSub i { b with attemptDue := true })) ∧
    (b.passed s.hubTime → b.room s → run f s = .next (s.reporting i b c.value c.tag)) ∧
    (b.passed s.hubTime → ¬ b.room s → run f s = .next (s.skipping i b)) := by
  obtain ⟨waits, builds, skips⟩ := emissionAttempt_setSub (c := c) (i := i) hq.2.1.free_le ha hp
  rw [run_of_settled hq.1, hf]
  refine ⟨fun early => ?_, fun passed room => ?_, fun passed full => ?_⟩
  · rw [waits early, drain_of_nil]
    exact hq.1.2
  · rw [builds passed room, drain_reportingWrites hq.1.2 hq.2.2 hb]
  · rw [skips passed full, drain_of_nil]
    exact hq.1.2

/-! ## The write of a TOUCH sample and its observers (R66, R67, R83) -/

/-- The cell that a TOUCH sample writes (R67). -/
def State.touchCell (s : State) (p : Port) (raw : RawSample) : Cell :=
  (s.cell (.port p 0)).written s.hubTime (if 2048 < raw.val then 1 else 0) .valid .sensor

/-- `s` with the cell of a TOUCH sample written, before its observers. -/
def State.touching (s : State) (p : Port) (raw : RawSample) : State :=
  (s.setAcq p { s.acquisition p with
    nextDue := s.hubTime + BitVec.ofNat 32 (s.port p).settings.analogInterval }).portWritten p 0 (s.touchCell p raw) false

theorem State.touched_eq (s : State) (p : Port) (raw : RawSample) : s.touched p raw = (s.touching p raw).noted s := rfl

/-- A write of a port cell with its flags, on a port with no event route. -/
theorem writeFlags_portWritten {i : Fin 4} {left : Cell} {range : Bool} (hr : (s.port p).settings.eventRoute = none) :
    writeFlags p range (s.setCell (.port p i) left) = s.portWritten p i left range := by
  simp only [writeFlags, State.portWritten, raiseFlags, FlagRec.raisedByWrite, FlagRec.afterWrite,
    State.flag_setCell, State.port_setFlagRec, State.port_setCell, hr, sendEvent, flagRange, flagBit]
  by_cases hd : (s.flag p).due = 0#5
  · cases range
    · simp [hd]
    · cases hf : (s.flag p).flags.getLsbD 0 <;> cases hm : (s.flag p).mask.getLsbD 0 <;> simp [hd, setLatch_eq, latchPortFlag]
  · simp [hd, setLatch_eq, latchPortFlag]

theorem analogDue_touch {raw : RawSample} (touch : (s.port p).cls = .touch) (ha : (s.acquisition p).schedule = .analog)
    (hr : reached s.hubTime (s.acquisition p).nextDue = true) (route : (s.port p).settings.eventRoute = none) :
    analogDue p raw s = drain (observe ⟨.port p 0, s.touchCell p raw⟩ (s.touching p raw)) := by
  have due : (decide ((s.acquisition p).schedule = .analog) && reached s.hubTime (s.acquisition p).nextDue) = true := by
    rw [ha, hr]
    rfl
  have bounds : -2147483648 ≤ (if 2048 < raw.val then 1 else 0 : Int) ∧ (if 2048 < raw.val then 1 else 0 : Int) ≤ 2147483647 := by
    split <;> decide
  rw [analogDue, if_pos due, takeAnalog, convertAnalog_touch touch, Converted.inRange, writeConverted, writePortCell,
    Cell.valueWrite_eq bounds.1 bounds.2, commitPortWrite, writeFlags_portWritten (by exact route)]
  rfl

/-- What a TOUCH sample leaves as it is. -/
theorem State.touching_keeps (s : State) (p : Port) (raw : RawSample) :
    ∃ acq flags attention, s.touching p raw =
      { s.setCell (.port p 0) (s.touchCell p raw) with acq := acq, flags := flags, attention := attention } := by
  unfold State.touching State.portWritten
  dsimp only
  split <;> exact ⟨_, _, _, rfl⟩

theorem State.touched_reflexes (s : State) (p : Port) (raw : RawSample) :
    (s.touched p raw).reflexes = s.reflexes.map (Reflex.noting ⟨.port p 0, s.touchCell p raw⟩) := by
  obtain ⟨acq, flags, attention, e⟩ := s.touching_keeps p raw
  have cells (d : CellId) : (s.touching p raw).cell d = (s.setCell (.port p 0) (s.touchCell p raw)).cell d := by rw [e]; rfl
  have same : ((s.touching p raw).noted s).reflexes = ((s.setCell (.port p 0) (s.touchCell p raw)).noted s).reflexes :=
    noted_reflexes_congr (by rw [e]) fun i => cells _
  rw [State.touched_eq, same, noted_setCell rfl (count_succ_ne _), State.noted_self]

theorem State.touched_withReflexes (s : State) (p : Port) (raw : RawSample) : s.touched p raw =
    (s.touching p raw).withReflexes (s.reflexes.map (Reflex.noting ⟨.port p 0, s.touchCell p raw⟩)) := by
  rw [← State.touched_reflexes]
  rfl

theorem State.touched_keeps (s : State) (p : Port) (raw : RawSample) :
    (s.touched p raw).cell (.port p 0) = s.touchCell p raw ∧ (s.touched p raw).subs = s.subs ∧
      (s.touched p raw).free = s.free ∧ (s.touched p raw).links = s.links ∧ (s.touched p raw).hubTime = s.hubTime ∧
      (s.touched p raw).unobserved = s.unobserved ∧ (s.touched p raw).mgmt = s.mgmt := by
  obtain ⟨acq, flags, attention, e⟩ := s.touching_keeps p raw
  rw [State.touched_withReflexes, e]
  refine ⟨?_, rfl, rfl, rfl, rfl, rfl, rfl⟩
  exact State.cell_setCell_same s (.port p 0) _

theorem State.touched_ignores {raw : RawSample} {d : CellId} (h : s.ignores d) : (s.touched p raw).ignores d := by
  obtain ⟨-, subs, -⟩ := s.touched_keeps p raw
  refine ⟨fun j => ?_, fun j => ?_⟩
  · rw [State.reflex, State.touched_reflexes, Vector.get_of_map, Reflex.noting_cell]
    exact h.1 j
  · rw [State.sub, subs]
    exact h.2 j

theorem State.touching_setSub (s : State) (p : Port) (raw : RawSample) (i : Fin 24) (b : Subscription) :
    (s.setSub i b).touching p raw = (s.touching p raw).setSub i b := by
  unfold State.touching State.portWritten
  dsimp only
  rw [apply_ite (State.setSub · i b)]
  rfl

/-- An operation over a list that acts at one element alone. -/
theorem foldl_single {α β : Type} {op : β → α → β} {l : List α} {a : α} {x : β} (ha : a ∈ l) (hl : l.Nodup)
    (before : ∀ b, b ≠ a → op x b = x) (after : ∀ b, b ≠ a → op (op x a) b = op x a) : l.foldl op x = op x a := by
  have still (y : β) (l : List α) (h : ∀ b ∈ l, op y b = y) : l.foldl op y = y := by
    induction l with
    | nil => rfl
    | cons b l ih => rw [List.foldl_cons, h b (by simp), ih fun c hc => h c (by simp [hc])]
  obtain ⟨l1, l2, rfl⟩ := List.append_of_mem ha
  have fresh := List.nodup_middle.mp hl
  have out (b : α) (hb : b ∈ l1 ++ l2) : b ≠ a := fun e => (List.nodup_cons.mp fresh).1 (e ▸ hb)
  rw [List.foldl_append, still x l1 fun b hb => before b (out b (by simp [hb])), List.foldl_cons,
    still (op x a) l2 fun b hb => after b (out b (by simp [hb]))]

/-- An attempt of one subscription leaves the others as they are. -/
theorem observeSub_sub {j : Fin 24} (h : j ≠ i) (small : s.free ≤ 128) : (observeSub w s i).sub j = s.sub j := by
  by_cases ha : (s.sub i).active = true ∧ (s.sub i).cell = w.cell
  · by_cases ho : (s.sub i).owes w.left.value w.left.tag
    · obtain ⟨waits, builds, skips⟩ := observeSub_cases small ha.1 ha.2 ho
      by_cases passed : (s.sub i).passed s.hubTime
      · by_cases room : (s.sub i).room s
        · rw [builds passed room]
          exact State.sub_setSub_other (s := (s.withFree (s.free - 1)).withNormal (s.sub i).target.link _) _ (Ne.symm h)
        · rw [skips passed room]
          exact State.sub_setSub_other s _ (Ne.symm h)
      · rw [waits passed]
        exact State.sub_setSub_other s _ (Ne.symm h)
    · rw [observeSub_still ha.1 ha.2 ho]
  · rw [observeSub_other fun a e => ha ⟨a, e⟩]

/-- A write that one subscription alone observes. -/
theorem observeSubs_single (small : s.free ≤ 128) (h : ∀ j, j ≠ i → (s.sub j).active = true → (s.sub j).cell ≠ w.cell) :
    observeSubs w s = observeSub w s i :=
  foldl_single (List.mem_finRange i) (List.nodup_finRange 24) (fun j hj => observeSub_other (h j hj)) fun j hj =>
    observeSub_other (by rw [observeSub_sub hj small]; exact h j hj)

/-- The write of a TOUCH sample as the one ACTIVE subscription on its cell sees it. -/
theorem analogDue_setSub {raw : RawSample} (h : s.stillPort p) (small : s.free ≤ 128) (touch : (s.port p).cls = .touch)
    (ha : (s.acquisition p).schedule = .analog) (hr : reached s.hubTime (s.acquisition p).nextDue = true) :
    analogDue p raw (s.setSub i b) =
      drain (observeSub ⟨.port p 0, s.touchCell p raw⟩ ((s.touched p raw).setSub i b) i) := by
  obtain ⟨-, dormant, route, -⟩ := h
  obtain ⟨-, subs, free, -⟩ := s.touched_keeps p raw
  obtain ⟨acq, flags, attention, kept⟩ := s.touching_keeps p raw
  have reflexes : (s.touching p raw).reflexes = s.reflexes := by rw [kept]; rfl
  have noted : observeReflexes ⟨.port p 0, s.touchCell p raw⟩ ((s.touching p raw).setSub i b) = (s.touched p raw).setSub i b := by
    rw [observeReflexes_dormant, State.touched_withReflexes]
    · show _ = ((s.touching p raw).withReflexes _).setSub i b
      rw [← reflexes]
      rfl
    · intro j
      rw [State.reflex_setSub, State.reflex, reflexes]
      exact (dormant 0).1 j
  rw [analogDue_touch (s := s.setSub i b) touch ha hr route, State.touching_setSub, observe]
  rw [show (s.setSub i b).touchCell p raw = s.touchCell p raw from rfl, noted, observeSubs_single]
  · show (s.touched p raw).free ≤ 128
    rw [free]
    exact small
  · intro j hj
    rw [State.sub_setSub_other _ _ (Ne.symm hj), State.sub, subs]
    exact (dormant 0).2 j

theorem periodExpires_due {t : Time} (ha : (s.sub i).active = true) (ht : (s.sub i).nextExpiry = some t)
    (hm : (s.sub i).mode ≠ .change) (hr : reached s.hubTime t = true) :
    periodExpires i s = emissionAttempt i (s.cell (s.sub i).cell) (s.setSub i
      { s.sub i with pending := true, nextExpiry := some (t + BitVec.ofNat 32 (s.sub i).period) }) := by
  unfold periodExpires
  dsimp only
  rw [ht]
  exact if_pos (by simp [ha, hm, hr])

theorem intervalEnds_due (hd : (s.sub i).attemptDue = true) (hp : (s.sub i).passed s.hubTime) :
    intervalEnds i s = emissionAttempt i (s.cell (s.sub i).cell) (s.setSub i { s.sub i with attemptDue := false }) := by
  have passed := intervalPassed_iff.mpr hp
  unfold intervalEnds
  exact if_pos (by rw [hd, passed]; rfl)

/-- Settles O60: the attempts at an expiry and at an interval end, at the write of a sample, and at a write alone. -/
theorem subscriptionsReportOrSkip : Obligations.SubscriptionsReportOrSkip := by
  unfold Obligations.SubscriptionsReportOrSkip
  intro passed room reports skips owes
  refine ⟨fun i s hq ha hb => ?alone, fun p raw i b s h hq touch hsch hr ha hb => ?sampled, fun i w s hcon ha hc => ?written⟩
  case alone =>
    intro b c
    refine ⟨fun t ht hm reach => ?_, fun hd hp pass => ?_⟩
    · intro due expires
      have fires : periodExpires i s = emissionAttempt i c (s.setSub i due) := periodExpires_due ha ht hm reach
      obtain ⟨waits, builds, full⟩ := run_attempt (f := periodExpires i) (c := c) hq (b := due) hb ha rfl fires
      exact ⟨builds, full, waits⟩
    · have fires : intervalEnds i s = emissionAttempt i c (s.setSub i { b with attemptDue := false }) := intervalEnds_due hd pass
      obtain ⟨-, builds, full⟩ := run_attempt (f := intervalEnds i) (c := c) hq (b := { b with attemptDue := false }) hb ha hp fires
      exact ⟨builds pass, full pass⟩
  case sampled =>
    intro t c due sampled
    obtain ⟨cell, subs, free, links, now, nil, -⟩ := s.touched_keeps p raw
    have small : (s.touched p raw).free ≤ 128 := by rw [free]; exact hq.2.1.free_le
    have left : s.touchCell p raw = c := cell.symm
    have on : b.cell ≠ .sys 3 := by rw [hb]; simp
    have quiet : t.unobserved = [] := nil.trans hq.1.2
    have ign : t.ignores (.sys 3) := State.touched_ignores hq.2.2
    have writes : sampled = .next (drain (observeSub ⟨.port p 0, c⟩ (t.setSub i b) i)) := by
      rw [← left]
      exact run_eq_of_nil (s := s.setSub i b) (f := analogDue p raw) hq.1
        (analogDue_setSub h hq.2.1.free_le touch hsch hr) (drain_unobserved _)
    have stays {b : Subscription} : drain (t.setSub i b) = t.setSub i b := drain_of_nil quiet
    have rooms : b.room t ↔ b.room s := by
      have link : t.link b.target.link = s.link b.target.link := by rw [State.link, State.link, links]
      rw [Subscription.room, link, free]
    obtain ⟨still, moves⟩ := observeSub_setSub (w := ⟨.port p 0, c⟩) (i := i) (b := b) small ha hb
    rw [now, rooms] at moves
    refine ⟨fun ho => ?_, fun ho => ⟨fun early => ?_, fun pass room => ?_, fun pass full => ?_⟩⟩
    · rw [writes, still ho, stays]
    · rw [writes, (moves ho).1 early, stays]
      rfl
    · rw [writes, (moves ho).2.1 pass room, drain_reportingWrites (b := b.due) quiet ign on]
      rfl
    · rw [writes, (moves ho).2.2 pass full]
      exact congrArg Host.Outcome.next stays
  case written =>
    intro b v due t
    refine ⟨observeSub_still ha hc, fun ho => ?_⟩
    exact observeSub_cases hcon.free_le ha hc ho

end Sys2Proof.Machine
end

section
/-!
Operations that read no reflex, and the evaluation of a reflex by them (chapter 10).
-/
namespace Sys2Proof.Machine

variable {s t : State} {p : Port} {i : Fin 16} {w : Write} {r : Reflex} {m : Motor} {a : ReflexAction}

/-! ## Operations that do not read the reflexes -/

/-- An operation neither reads nor changes a reflex. -/
structure Unread (f : State → State) : Prop where
  swap : ∀ t v, f (t.withReflexes v) = (f t).withReflexes v

theorem Unread.id : Unread fun s => s := ⟨fun _ _ => rfl⟩

theorem Unread.comp {f g : State → State} (hf : Unread f) (hg : Unread g) : Unread fun s => f (g s) :=
  ⟨fun t v => (congrArg f (hg.swap t v)).trans (hf.swap _ v)⟩

/-- The operation goes by something that no reflex has a part in. -/
theorem Unread.reads {α : Type} {f : α → State → State} {g : State → α} (hf : ∀ x, Unread (f x))
    (hg : ∀ t v, g (State.withReflexes t v) = g t) : Unread fun s => f (g s) s :=
  ⟨fun t v => (congrArg (fun x => f x (t.withReflexes v)) (hg t v)).trans ((hf (g t)).swap t v)⟩

theorem Unread.foldl {α : Type} {f : State → α → State} (hf : ∀ x, Unread fun s => f s x) (l : List α) :
    Unread fun s => l.foldl f s := by
  induction l with
  | nil => exact .id
  | cons x l ih => exact ih.comp (hf x)

theorem Unread.ite {c : Prop} [Decidable c] {f g : State → State} (hf : Unread f) (hg : Unread g) :
    Unread fun s => if c then f s else g s := by
  split
  · exact hf
  · exact hg

theorem placeUrgent_unread (l : Link) (f : Frame) : Unread (placeUrgent l f) := by
  refine ⟨fun t v => ?_⟩
  rw [placeUrgent, show urgentPlacement l (t.withReflexes v) = urgentPlacement l t from rfl, placeUrgent]
  cases urgentPlacement l t <;> rfl

theorem sendNotice_unread (route : Option Endpoint) (tag : Byte) (payload : List Byte) : Unread (sendNotice route tag payload) := by
  cases route with
  | none => exact .id
  | some e => exact placeUrgent_unread e.link _

theorem sendEvent_unread (route : Option Endpoint) (payload : List Byte) : Unread (sendEvent route payload) := by
  cases route with
  | none => exact .id
  | some e => exact placeUrgent_unread e.link _

theorem release_unread (n : Nat) : Unread (release n) := by
  refine ⟨fun t v => ?_⟩
  unfold release
  split
  · rfl
  · have first : firstReviewed (freePages n (t.withReflexes v)) = firstReviewed (freePages n t) := rfl
    rw [reviewBoth, first]
    rfl

theorem setMotor_unread (p : Port) (x : Option Motor) : Unread fun s => s.setMotor p x := ⟨fun _ _ => rfl⟩

theorem reportEnded_unread (p : Port) (x : Int) (ended : List (Segment × SegOutcome)) : Unread (reportEnded p x ended) := by
  have one (e : Segment × SegOutcome) : Unread fun s =>
      sendNotice e.1.route e.1.tag (segmentEndPayload p e.1.tag e.2 x s.hubTime) s :=
    Unread.reads (f := fun now => sendNotice e.1.route e.1.tag (segmentEndPayload p e.1.tag e.2 x now)) (g := State.hubTime)
      (fun _ => sendNotice_unread ..) fun _ _ => rfl
  exact Unread.foldl (f := fun s (e : Segment × SegOutcome) =>
    sendNotice e.1.route e.1.tag (segmentEndPayload p e.1.tag e.2 x s.hubTime) s) one ended

theorem reportState_unread (p : Port) (new prev : Nat) (m : Motor) : Unread (reportState p new prev m) :=
  Unread.reads (f := fun x : PerClass × Time => sendNotice m.settings.noticeRoute 0
    (motorStatePayload p new prev m (x.1.get m.cls).countsPerRev x.2)) (g := fun s => (s.classes, s.hubTime))
    (fun _ => sendNotice_unread ..) fun _ _ => rfl

theorem reportLowWater_unread (p : Port) (before after : Motor) (ended : List (Segment × SegOutcome)) :
    Unread (reportLowWater p before after ended) := by
  cases ended with
  | nil => exact .id
  | cons e ended =>
    exact .ite (Unread.reads (f := fun now => sendNotice after.settings.noticeRoute e.1.tag
      (lowWaterPayload p after.queue.length after.settings.lowWater now)) (g := State.hubTime) (fun _ => sendNotice_unread ..)
        fun _ _ => rfl) .id

theorem moveMotor_unread (p : Port) (before after : Motor) (ended : List (Segment × SegOutcome)) :
    Unread (moveMotor p before after ended) := by
  have low := (reportLowWater_unread p before after ended).comp ((reportEnded_unread p after.x ended).comp
    (setMotor_unread p (some after)))
  exact .ite low ((reportState_unread p after.state.code before.state.code after).comp low)

theorem takeMotion_unread (p : Port) (x : MotionRequest) (m : Motor) : Unread (takeMotion p x m) :=
  Unread.reads (f := fun rated => moveMotor p m (m.take rated x).1 (m.take rated x).2)
    (g := fun s => (s.classes.get m.cls).ratedMax) (fun _ => moveMotor_unread ..) fun _ _ => rfl

/-! ## Voices -/

theorem setVoice_unread (v : VoiceId) (x : Voice) : Unread fun s => s.setVoice v x := ⟨fun _ _ => rfl⟩

/-- A change of a voice by its record. -/
theorem mapVoice_unread (v : VoiceId) (f : Voice → Voice) : Unread fun s => s.setVoice v (f (s.voice v)) :=
  Unread.reads (f := fun r s => s.setVoice v (f r)) (g := (State.voice · v)) (fun _ => setVoice_unread ..) fun _ _ => rfl

theorem reportNotes_unread (v : VoiceId) (ended : List (Note × SegOutcome)) : Unread (reportNotes v ended) := by
  have one (e : Note × SegOutcome) : Unread fun s => sendNotice e.1.route e.1.tag (noteEndPayload v e.1.tag e.2 s.hubTime) s :=
    Unread.reads (f := fun now => sendNotice e.1.route e.1.tag (noteEndPayload v e.1.tag e.2 now)) (g := State.hubTime)
      (fun _ => sendNotice_unread ..) fun _ _ => rfl
  exact Unread.foldl (f := fun s (e : Note × SegOutcome) =>
    sendNotice e.1.route e.1.tag (noteEndPayload v e.1.tag e.2 s.hubTime) s) one ended

/-- Notes of a voice end by its record, which changes by itself. -/
theorem endNotes_unread (v : VoiceId) (ended : Voice → List (Note × SegOutcome)) (f : Voice → Voice) :
    Unread fun s => reportNotes v (ended (s.voice v)) (s.setVoice v (f (s.voice v))) :=
  Unread.reads (f := fun (r : Voice) (s : State) => reportNotes v (ended r) (s.setVoice v (f r))) (g := fun s => s.voice v)
    (fun r => (reportNotes_unread v (ended r)).comp (setVoice_unread v (f r))) fun _ _ => rfl

theorem startNote_unread (v : VoiceId) : Unread (startNote v) := by
  refine ⟨fun t x => ?_⟩
  unfold startNote askWarmup
  dsimp only
  rw [apply_ite (State.withReflexes · x)]
  cases h : t.amp with
  | on => simp only [show (t.withReflexes x).amp = t.amp from rfl, h, if_true]; rfl
  | warming c =>
    simp only [show (t.withReflexes x).amp = t.amp from rfl, State.setVoice_amp, h, reduceCtorEq, if_false]
    rfl
  | off =>
    simp only [show (t.withReflexes x).amp = t.amp from rfl, State.setVoice_amp, h, reduceCtorEq, if_false,
      apply_ite (State.withReflexes · x)]
    rfl

theorem becomeIdle_unread (v : VoiceId) : Unread (becomeIdle v) := by
  refine ⟨fun t x => ?_⟩
  unfold becomeIdle startIdleTimer
  rw [apply_ite (State.withReflexes · x), apply_ite (State.withReflexes · x)]
  rfl

theorem freeStream_unread (k : Nat) (v : VoiceId) : Unread (freeStream k v) :=
  Unread.reads (f := fun (r : Voice) (s : State) =>
      release (pagesOfAll (r.stream.drop k)) (s.setVoice v { r with stream := r.stream.take k })) (g := fun s => s.voice v)
    (fun r => (release_unread (pagesOfAll (r.stream.drop k))).comp (setVoice_unread v { r with stream := r.stream.take k }))
    fun _ _ => rfl

theorem silence_unread (v : VoiceId) (o : SegOutcome) : Unread (silence v o) :=
  (becomeIdle_unread v).comp ((freeStream_unread 0 v).comp
    (endNotes_unread v (fun r => endedNotes r.notes o) fun r => { r with loopOn := false, notes := [] }))

theorem playNote_unread (v : VoiceId) (n : Note) : Unread (playNote v n) :=
  (startNote_unread v).comp ((freeStream_unread 0 v).comp
    (endNotes_unread v (fun r => endedNotes r.notes .superseded) fun r => { r with loopOn := false, notes := [n] }))

theorem flushBehind_unread (v : VoiceId) : Unread (flushBehind v) :=
  endNotes_unread v (fun r => r.notes.tail.map fun n => (n, .flushed)) fun r => { r with notes := r.notes.take 1 }

theorem stopCutVoice_unread (v : VoiceId) : Unread (stopCutVoice v) :=
  Unread.reads (f := fun (x : VoiceState) (s : State) => if x = .idle then freeStream 0 v s else silence v .cut s)
    (g := fun s => (s.voice v).state) (fun _ => .ite (freeStream_unread 0 v) (silence_unread v .cut)) fun _ _ => rfl

/-- The record of a voice that STOP_RELEASE reaches (R145). -/
def Voice.marked (r : Voice) : Voice := { r with loopOn := false, stopMarker := true }

/-- STOP_RELEASE goes by the voice and the envelopes (R145). -/
theorem stopReleaseVoice_by (v : VoiceId) (r : Voice) (shapes : Vector Envelope 8) :
    ∃ f, Unread f ∧ ∀ s : State, s.voice v = r → s.envelopes = shapes → stopReleaseVoice v s = f s := by
  have marks := setVoice_unread v r.marked
  have silenced := (silence_unread v .stopped).comp marks
  have flushed := (flushBehind_unread v).comp marks
  cases hs : r.state with
  | idle => exact ⟨_, (freeStream_unread 0 v).comp marks, fun s hr _ => (stopReleaseVoice_eq hr rfl).1 hs⟩
  | waitingAmp => exact ⟨_, silenced, fun s hr _ => (stopReleaseVoice_eq hr rfl).2.1 (.inl hs)⟩
  | starved => exact ⟨_, silenced, fun s hr _ => (stopReleaseVoice_eq hr rfl).2.1 (.inr hs)⟩
  | playing =>
    cases hn : r.notes with
    | nil =>
      refine ⟨_, marks, fun s hr _ => ?_⟩
      subst hr
      simp only [stopReleaseVoice, Voice.marked, hs, hn]
    | cons n rest =>
      have known (s : State) (hr : s.voice v = r) := (stopReleaseVoice_eq hr rfl).2.2 n rest hn
      cases hk : n.kind with
      | rest => exact ⟨_, silenced, fun s hr _ => (known s hr).1 hs hk⟩
      | tone =>
        refine ⟨_, .ite (c := r.level = 0 ∨ (shapes.get n.envelope).release = 0)
          ((silence_unread v .stopped).comp
            ((setVoice_unread v { r.marked with level := 0, envPhase := .release }).comp marks)) ((freeStream_unread 0 v).comp
          ((mapVoice_unread v fun r => { r with state := .releasing, envPhase := .release }).comp flushed)), fun s hr he => ?_⟩
        subst he
        exact (known s hr).2.1 hs hk
      | stream =>
        exact ⟨_, (freeStream_unread 1 v).comp ((mapVoice_unread v fun r => { r with state := .releasing }).comp flushed),
          fun s hr _ => (known s hr).2.2.1 hs hk⟩
  | releasing =>
    cases hn : r.notes with
    | nil =>
      refine ⟨_, marks, fun s hr _ => ?_⟩
      subst hr
      simp only [stopReleaseVoice, Voice.marked, hs, hn]
    | cons n rest =>
      exact ⟨_, (freeStream_unread _ v).comp flushed, fun s hr _ => ((stopReleaseVoice_eq hr rfl).2.2 n rest hn).2.2.2 hs⟩

theorem stopReleaseVoice_unread (v : VoiceId) : Unread (stopReleaseVoice v) := by
  refine ⟨fun t x => ?_⟩
  obtain ⟨f, unread, acts⟩ := stopReleaseVoice_by v (t.voice v) t.envelopes
  rw [acts t rfl rfl, acts (t.withReflexes x) rfl rfl, unread.swap]

theorem setLatch_unread (k : Nat) : Unread (setLatch k) := ⟨fun _ _ => rfl⟩

theorem Unread.reflexes {f : State → State} (h : Unread f) (s : State) : (f s).reflexes = s.reflexes :=
  (congrArg State.reflexes (h.swap s s.reflexes) :)

theorem Unread.setReflex {f : State → State} (h : Unread f) (s : State) (i : Fin 16) (r : Reflex) :
    f (s.setReflex i r) = (f s).setReflex i r := by
  have set (t : State) : t.setReflex i r = t.withReflexes (t.reflexes.set i r) := rfl
  rw [set, set, h.swap, h.reflexes]

/-! ## The action of a reflex (R171 to R173) -/

/-- What an action does goes by no reflex. -/
theorem reflexAct_withReflexes (i : Fin 16) (a : ReflexAction) (w : Write) (s : State) (x : Vector Reflex 16) :
    reflexAct i a w (s.withReflexes x) = ((reflexAct i a w s).1, (reflexAct i a w s).2.withReflexes x) := by
  have motion (p : Port) (q : Option MotionRequest) :
      reflexMotion p q (s.withReflexes x) = ((reflexMotion p q s).1, (reflexMotion p q s).2.withReflexes x) := by
    cases q with
    | none => rfl
    | some q =>
      cases hm : s.motor p with
      | none => simp only [reflexMotion, hm, show (s.withReflexes x).motor p = s.motor p from rfl]
      | some m =>
        simp only [reflexMotion, hm, show (s.withReflexes x).motor p = s.motor p from rfl,
          show motionRefusal p q m (s.withReflexes x) = motionRefusal p q m s from rfl]
        cases motionRefusal p q m s with
        | some st => rfl
        | none => exact congrArg (Prod.mk _) ((takeMotion_unread p q m).swap s x)
  have sound (v : VoiceId) (q : Option SoundRequest) (unread : ∀ y, q = some y → Unread (takeSound v y)) :
      reflexSound v q (s.withReflexes x) = ((reflexSound v q s).1, (reflexSound v q s).2.withReflexes x) := by
    cases q with
    | none => rfl
    | some q =>
      simp only [reflexSound, show soundRefusal v q (s.withReflexes x) = soundRefusal v q s from rfl]
      cases soundRefusal v q s with
      | some st => rfl
      | none => exact congrArg (Prod.mk _) ((unread q rfl).swap s x)
  cases a with
  | motorReplace p seg => exact motion ..
  | motorStop p e lock => exact motion p (some (if lock then .lock else .abort e))
  | voicePlay v note =>
    refine sound v _ fun y hy => ?_
    obtain ⟨n, -, rfl⟩ := Option.map_eq_some_iff.mp hy
    exact playNote_unread v n
  | voiceStop v cut =>
    refine sound v (some (if cut then .stopCut else .stopRelease)) fun y hy => ?_
    cases hy
    cases cut
    · exact stopReleaseVoice_unread v
    · exact stopCutVoice_unread v
  | sendEvent e => exact congrArg (Prod.mk _) ((sendEvent_unread (some e) _).swap s x)

theorem reflexAct_outcome (i : Fin 16) (a : ReflexAction) (w : Write) (s : State) (x : Vector Reflex 16) :
    (reflexAct i a w (s.withReflexes x)).1 = (reflexAct i a w s).1 :=
  (congrArg Prod.fst (reflexAct_withReflexes i a w s x) :)

theorem reflexAct_setReflex (i : Fin 16) (a : ReflexAction) (w : Write) (s : State) (j : Fin 16) (r : Reflex) :
    (reflexAct i a w (s.setReflex j r)).1 = (reflexAct i a w s).1 :=
  reflexAct_outcome i a w s (s.reflexes.set j r)

/-! ## Evaluation (R168 to R170) -/

/-- A reflex with a write as last seen. -/
def Reflex.seeing (r : Reflex) (w : Write) : Reflex := { r with lastValue := w.left.value, lastTag := w.left.tag }

/-- A hub at which a reflex has fired, but for its record: its action, its latch and its event (R169). -/
def State.firedBy (s : State) (i : Fin 16) (r : Reflex) (w : Write) : State :=
  sendEvent r.eventOnFire (reflexFiredPayload i w (reflexAct i r.action w s).1 (r.fired (reflexAct i r.action w s).1).fireCount)
    (setLatch latchReflexFired (reflexAct i r.action w s).2)

theorem State.setReflex_setReflex (s : State) (i : Fin 16) (r q : Reflex) : (s.setReflex i r).setReflex i q = s.setReflex i q := by
  simp only [State.setReflex, Vector.set_set]

theorem evaluateReflex_still (hc : (s.reflex i).cell = w.cell)
    (h : (s.reflex i).state = .disabled ∨ (s.reflex i).state = .armed ∧ (s.reflex i).holds w.left = false) :
    evaluateReflex w s i = s.setReflex i ((s.reflex i).seeing w) := by
  obtain disabled | ⟨armed, calm⟩ := h
  · rw [evaluateReflex, if_pos hc, disabled]
    rfl
  · rw [evaluateReflex, if_pos hc, armed]
    dsimp only
    rw [calm]
    rfl

theorem evaluateReflex_fires (hc : (s.reflex i).cell = w.cell) (ha : (s.reflex i).state = .armed)
    (hh : (s.reflex i).holds w.left = true) : evaluateReflex w s i = (s.firedBy i (s.reflex i) w).setReflex i
      (((s.reflex i).fired (reflexAct i (s.reflex i).action w s).1).seeing w) := by
  simp only [evaluateReflex, if_pos hc, ha, if_pos hh, fireReflex, noteSeen]
  rw [(setLatch_unread _).setReflex, (sendEvent_unread _ _).setReflex, State.reflex_setReflex_same, State.setReflex_setReflex]
  rfl

theorem firedBy_unread (i : Fin 16) (r : Reflex) (w : Write) : Unread fun s => s.firedBy i r w := by
  refine ⟨fun s x => ?_⟩
  rw [State.firedBy, reflexAct_withReflexes, (setLatch_unread _).swap, (sendEvent_unread _ _).swap]
  rfl

/-- The record of a reflex after it fired, in the terms of the statements. -/
theorem Reflex.fired_eq (r : Reflex) (o : ReflexOutcome) : r.fired o =
    { r with
      fireCount := min 255 (r.fireCount + 1), lastOutcome := o
      state := if r.mode = .rearm ∧ (r.condition = .riseThrough ∨ r.condition = .fallThrough) then .armed else .fired } := by
  have crossing : r.condition.isCrossing = true ↔ r.condition = .riseThrough ∨ r.condition = .fallThrough := by
    cases r.condition <;> simp [Condition.isCrossing]
  unfold Reflex.fired
  simp only [Bool.and_eq_true, decide_eq_true_eq, crossing, satAdd]

end Sys2Proof.Machine
end

section
/-!
Settles ReflexFiresOnItsWrite: the write of a TOUCH sample at an ARMED reflex, and a write at a reflex in each of its states
(chapters 04 and 10).
-/
namespace Sys2Proof.Machine

variable {s t u : State} {p : Port} {i : Fin 16} {w : Write} {r : Reflex} {m : Motor} {a : ReflexAction} {v : VoiceId}

/-! ## What an action does (R171 to R173) -/

/-- A motor action is taken, or turned away with its reason (R97, R171). -/
theorem reflexMotion_outcome (p : Port) (q : MotionRequest) (s : State)
    (passes : ∀ m, s.takesMotion p m → motionRefusal p q m s = none) :
    (s.motor p = none → (reflexMotion p (some q) s).1 = .noTarget) ∧
    ∀ m, s.motor p = some m →
      (m.state = .locked → (reflexMotion p (some q) s).1 = .refused .locked) ∧
      (m.state ≠ .locked → (s.port p).state = .suspended → (reflexMotion p (some q) s).1 = .noTarget) ∧
      (m.state ≠ .locked → (s.port p).state ≠ .suspended → s.supply.state = .critical ∨ lossHolds m s = true →
        (reflexMotion p (some q) s).1 = .refused .wrongState) ∧
      (s.takesMotion p m → reflexMotion p (some q) s = (.done, takeMotion p q m s)) := by
  refine ⟨fun none => ?_, fun m hm => ⟨fun locked => ?_, fun loose held => ?_, fun loose runs off => ?_, fun takes => ?_⟩⟩
  · simp only [reflexMotion, none]
  · simp only [reflexMotion, hm, motionRefusal_locked locked]
    rfl
  · simp only [reflexMotion, hm, motionRefusal_wrongState loose (.inl held), held]
    rfl
  · simp only [reflexMotion, hm, motionRefusal_wrongState loose (.inr off), runs]
    rfl
  · simp only [reflexMotion, hm, passes m takes]

theorem takeMotion_motor (p : Port) (q : MotionRequest) (m : Motor) (s : State) :
    (takeMotion p q m s).motor p = some (m.take (s.classes.get m.cls).ratedMax q).1 := moveMotor_motor ..

/-- REPLACE starts its segment in the place of them all (R99). -/
theorem Motor.take_replace (m : Motor) (rated : Nat) (g : Segment) : (m.take rated (.replace g)).1 =
    if m.executing = true ∨ m.state = .holding then m.startingContinuous rated [g.clamped rated] (g.clamped rated)
    else m.startingMeasured rated (g.clamped rated) := by
  by_cases h : m.executing = true ∨ m.state = .holding
  · have moves : (m.executing || decide (m.state = .holding)) = true := by simpa using h
    rw [if_pos h, Motor.take, moves]
    exact Motor.start_continuous ..
  · have rests : (m.executing || decide (m.state = .holding)) = false := by simpa using h
    rw [if_neg h, Motor.take, rests]
    exact Motor.start_measured ..

/-- ABORT of an executing motor takes its end action with the acceleration of its head (R100). -/
theorem Motor.take_abort {g : Segment} {rest : List Segment} (rated : Nat) (e : EndAction) (hx : m.executing = true)
    (hq : m.queue = g :: rest) : (m.take rated (.abort e)).1 = m.endedWith e g.accel := by
  have accel : m.headAccel = g.accel := by rw [Motor.headAccel, hq]
  unfold Motor.take
  dsimp only
  rw [if_pos hx, accel]
  exact Motor.endWith_eq ..

theorem playNote_notes (v : VoiceId) (n : Note) (s : State) : ((playNote v n s).voice v).notes = [n] := by
  rw [playNote, (startNote_voice v _).2, freeStream_voice, (reportNotes_poolOp ..).voice, State.voice_setVoice_same]

/-- STOP_CUT leaves its voice IDLE (R146). -/
theorem stopCutVoice_idle (v : VoiceId) (s : State) : ((stopCutVoice v s).voice v).state = .idle := by
  unfold stopCutVoice
  split
  · next idle => rw [freeStream_voice]; exact idle
  · exact (silence_voice v .cut s).1

/-! ## A firing -/

/-- The events of a firing leave the motors and the voices as its action left them, and REFLEX_FIRED is set. -/
theorem State.firedBy_keeps (s : State) (i : Fin 16) (r : Reflex) (w : Write) :
    (s.firedBy i r w).motors = (reflexAct i r.action w s).2.motors ∧ (s.firedBy i r w).voices = (reflexAct i r.action w s).2.voices ∧
      (s.firedBy i r w).attention.latches.getLsbD 11 = true := by
  have short (o : ReflexOutcome) (n : Nat) : (reflexFiredPayload i w o n).length ≤ 28 := by
    simp [reflexFiredPayload, leInt, le32]
  have pool := sendEvent_poolOp (short (reflexAct i r.action w s).1 (r.fired (reflexAct i r.action w s).1).fireCount)
    r.eventOnFire (setLatch latchReflexFired (reflexAct i r.action w s).2)
  refine ⟨pool.motors, pool.voices, (sendEvent_other _ _ _ ?_).2⟩
  rw [setLatch_eq]
  show (_ ||| _ : BitVec _).getLsbD 11 = true
  rw [BitVec.getLsbD_or]
  simp [latchReflexFired]

/-- The payload of a REFLEX_FIRED event, in the terms of the statements. -/
theorem reflexFiredPayload_eq (i : Fin 16) (w : Write) (o : ReflexOutcome) (n : Nat) : reflexFiredPayload i w o n =
    [4, BitVec.ofNat 8 i.val, BitVec.ofNat 8 w.cell.code, BitVec.ofNat 8 w.left.tag.code] ++ leInt w.left.value ++
      (match o with
        | .nothing => [0, 0]
        | .done => [1, 0]
        | .noTarget => [2, 0]
        | .refused code => [3, BitVec.ofNat 8 code.code]) ++ [BitVec.ofNat 8 n] ++ le32 w.left.timestamp := by
  cases o <;> simp [reflexFiredPayload, u8, ReflexOutcome.code, ReflexOutcome.refusal]

/-- The event of a firing goes out behind what the same firing does without one. -/
theorem evaluateReflex_event {e : Endpoint} (hc : (s.reflex i).cell = w.cell) (ha : (s.reflex i).state = .armed)
    (hh : (s.reflex i).holds w.left = true) (he : (s.reflex i).eventOnFire = some e) :
    let t := evaluateReflex w (s.setReflex i { s.reflex i with eventOnFire := none }) i
    evaluateReflex w s i = (placeUrgent e.link (eventFrame e (reflexFiredPayload i w (reflexAct i (s.reflex i).action w s).1
      (min 255 ((s.reflex i).fireCount + 1)))) t).setReflex i { t.reflex i with eventOnFire := some e } := by
  intro t
  have there : (s.setReflex i { s.reflex i with eventOnFire := none }).reflex i = { s.reflex i with eventOnFire := none } :=
    State.reflex_setReflex_same ..
  have silent : t = (setLatch latchReflexFired (reflexAct i (s.reflex i).action w s).2).setReflex i
      { ((s.reflex i).fired (reflexAct i (s.reflex i).action w s).1).seeing w with eventOnFire := none } := by
    show evaluateReflex w (s.setReflex i { s.reflex i with eventOnFire := none }) i = _
    rw [evaluateReflex_fires (by rw [there]; exact hc) (by rw [there]; exact ha) (by rw [there]; exact hh), there]
    dsimp only
    rw [reflexAct_setReflex, (firedBy_unread i _ w).setReflex, State.setReflex_setReflex]
    rfl
  rw [evaluateReflex_fires hc ha hh, silent, State.reflex_setReflex_same, (placeUrgent_unread _ _).setReflex,
    State.setReflex_setReflex, State.firedBy, he]
  refine congrArg (State.setReflex _ i) ?_
  show ((s.reflex i).fired _).seeing w = { ((s.reflex i).fired _).seeing w with eventOnFire := some e }
  unfold Reflex.seeing Reflex.fired
  dsimp only
  rw [he]

/-- What a firing leaves of its action: the outcome in the record, the motors, the voices, and REFLEX_FIRED (R169). -/
theorem evaluateReflex_fires_fields (hc : (s.reflex i).cell = w.cell) (ha : (s.reflex i).state = .armed)
    (hh : (s.reflex i).holds w.left = true) :
    let r := s.reflex i
    let written := evaluateReflex w s i
    let outcome := (written.reflex i).lastOutcome
    outcome = (reflexAct i r.action w s).1 ∧
    (∀ q, written.motor q = (reflexAct i r.action w s).2.motor q) ∧
    (∀ v, written.voice v = (reflexAct i r.action w s).2.voice v) ∧
    written.attention.latches.getLsbD 11 = true ∧
    written.reflex i = ((s.reflex i).fired outcome).seeing w := by
  intro r written outcome
  obtain ⟨motors, voices, latch⟩ := s.firedBy_keeps i r w
  have fires : written = (s.firedBy i r w).setReflex i ((r.fired (reflexAct i r.action w s).1).seeing w) :=
    evaluateReflex_fires hc ha hh
  have record : written.reflex i = (r.fired (reflexAct i r.action w s).1).seeing w := by
    rw [fires, State.reflex_setReflex_same]
  have out : outcome = (reflexAct i r.action w s).1 := congrArg Reflex.lastOutcome record
  refine ⟨out, fun q => ?_, fun v => ?_, ?_, ?_⟩
  · rw [fires, State.motor, State.motor, ← motors]
    rfl
  · rw [fires, State.voice, State.voice, ← voices]
    rfl
  · rw [fires]
    exact latch
  · rw [out]
    exact record

/-- The outcome of SEND_EVENT (R173). -/
theorem sendEvent_outcome (e : Endpoint) (idle : s.mgmt.inProgress = none) :
    ((s.link e.link).up = false → (reflexAct i (.sendEvent e) w s).1 = .noTarget) ∧
    ((s.link e.link).up = true → (s.free = 0 ∨ 8 ≤ (s.link e.link).urgent.length) →
      (reflexAct i (.sendEvent e) w s).1 = .refused .full) ∧
    ((s.link e.link).up = true → 1 ≤ s.free → (s.link e.link).urgent.length < 8 →
      (reflexAct i (.sendEvent e) w s).1 = .done) := by
  have room := urgentRoom_eq (l := e.link) idle
  refine ⟨fun down => ?_, fun up full => ?_, fun up free short => ?_⟩
  · have place : urgentPlacement e.link s = .down := by simp [urgentPlacement, down]
    exact congrArg Placement.reflexOutcome place
  · have place : urgentPlacement e.link s = .dropped := by
      simp only [urgentPlacement, up, room, if_true]
      refine if_neg ?_
      simp only [Bool.and_eq_true, decide_eq_true_eq]
      omega
    exact congrArg Placement.reflexOutcome place
  · have place : urgentPlacement e.link s = .placed := by simp [urgentPlacement, up, room, free, short]
    exact congrArg Placement.reflexOutcome place

/-- A FIRED reflex notes a write, and is ARMED again by its re-arm test in REARM mode (R170). -/
theorem evaluateReflex_fired (hc : (s.reflex i).cell = w.cell) (h : (s.reflex i).state = .fired) : evaluateReflex w s i =
    s.setReflex i ((if (s.reflex i).mode = .rearm ∧ (s.reflex i).rearmTest w.left = true then { s.reflex i with state := .armed }
      else s.reflex i).seeing w) := by
  have test : ((s.reflex i).mode = .rearm && (s.reflex i).rearmTest w.left) = true ↔
      (s.reflex i).mode = .rearm ∧ (s.reflex i).rearmTest w.left = true := by simp
  rw [evaluateReflex, if_pos hc, h]
  dsimp only
  by_cases again : (s.reflex i).mode = .rearm ∧ (s.reflex i).rearmTest w.left = true
  · rw [if_pos (test.mpr again), if_pos again, noteSeen, State.reflex_setReflex_same, State.setReflex_setReflex]
    rfl
  · rw [if_neg (mt test.mp again), if_neg again]
    rfl

/-- SEND_EVENT places its event, where no event on fire follows it. -/
theorem evaluateReflex_sends {e : Endpoint} (conserved : s.conserved) (idle : s.mgmt.inProgress = none)
    (ha : (s.reflex i).state = .armed) (hc : (s.reflex i).cell = w.cell) (hh : (s.reflex i).holds w.left = true)
    (act : (s.reflex i).action = .sendEvent e) (silent : (s.reflex i).eventOnFire = none) (up : (s.link e.link).up = true)
    (free : 1 ≤ s.free) (short : (s.link e.link).urgent.length < 8) :
    ((evaluateReflex w s i).link e.link).urgent = (s.link e.link).urgent ++ [eventFrame e (reflexSignalPayload i w s.hubTime)] := by
  have room : urgentRoom e.link s = true := by rw [urgentRoom_eq idle, decide_eq_true_eq]; exact short
  have placed := placeUrgent_room (eventFrame e (reflexSignalPayload i w s.hubTime)) up free room
    (conserved.free_le.trans (by decide))
  have fires := evaluateReflex_fires hc ha hh
  rw [State.firedBy, silent, act] at fires
  have links : (evaluateReflex w s i).links =
      (placeUrgent e.link (eventFrame e (reflexSignalPayload i w s.hubTime)) s).links := by
    rw [fires]
    rfl
  rw [State.link, links, placed]
  show (((s.withFree (s.free - 1)).withUrgent e.link _).link e.link).urgent = _
  rw [State.withUrgent, State.link_setLink_same]
  rfl

/-! ## The write of a TOUCH sample (R66, R67, R168) -/

/-- The reflexes on a cell that are DISABLED note its write one after the other. -/
theorem foldl_dormant (l : List (Fin 16)) (s : State)
    (h : ∀ j ∈ l, (s.reflex j).cell = w.cell → (s.reflex j).state = .disabled) :
    ∃ x, l.foldl (evaluateReflex w) s = s.withReflexes x ∧
      ∀ j, x.get j = if j ∈ l then (s.reflex j).noting w else s.reflex j := by
  induction l generalizing s with
  | nil => exact ⟨s.reflexes, rfl, fun _ => rfl⟩
  | cons k l ih =>
    have noted (j : Fin 16) : (s.setReflex k ((s.reflex k).noting w)).reflex j =
        if j = k then (s.reflex j).noting w else s.reflex j := by
      by_cases e : j = k
      · rw [e, State.reflex_setReflex_same, if_pos rfl]
      · rw [State.reflex_setReflex_other s _ (Ne.symm e), if_neg e]
    obtain ⟨x, folds, each⟩ := ih (s.setReflex k ((s.reflex k).noting w)) fun j hj => by
      rw [noted]
      split <;> simpa using h j (by simp [hj])
    refine ⟨x, ?_, fun j => ?_⟩
    · rw [List.foldl_cons, evaluateReflex_dormant (h k (by simp)), folds]
      rfl
    · rw [each, noted]
      by_cases e : j = k <;> by_cases hj : j ∈ l <;> simp [e, hj]

/-- A write at which one reflex alone acts, the others on its cell being DISABLED. -/
theorem observeReflexes_acting (dormant : ∀ j, j ≠ i → (s.reflex j).cell = w.cell → (s.reflex j).state = .disabled)
    (acts : ∀ x : Vector Reflex 16, x.get i = s.reflex i →
      evaluateReflex w (s.withReflexes x) i = (u.withReflexes x).setReflex i r) :
    observeReflexes w s = u.withReflexes ((s.reflexes.map (Reflex.noting w)).set i r) := by
  obtain ⟨l1, l2, split⟩ := List.append_of_mem (List.mem_finRange i)
  have fresh := List.nodup_middle.mp (split ▸ List.nodup_finRange 16)
  have all (j : Fin 16) : j ∈ l1 ++ i :: l2 := split ▸ List.mem_finRange j
  have out1 : i ∉ l1 := fun h => (List.nodup_cons.mp fresh).1 (by simp [h])
  have out2 : i ∉ l2 := fun h => (List.nodup_cons.mp fresh).1 (by simp [h])
  obtain ⟨x, first, each⟩ := foldl_dormant l1 s fun j hj => dormant j fun e => out1 (e ▸ hj)
  have there : x.get i = s.reflex i := by rw [each, if_neg out1]
  have middle (j : Fin 16) (hj : j ≠ i) : ((u.withReflexes x).setReflex i r).reflex j = x.get j :=
    State.reflex_setReflex_other (s := u.withReflexes x) r (Ne.symm hj)
  obtain ⟨y, last, noted⟩ := foldl_dormant (w := w) l2 ((u.withReflexes x).setReflex i r) fun j hj => by
    have other : j ≠ i := fun e => out2 (e ▸ hj)
    rw [middle j other, each]
    split <;> simpa using dormant j other
  rw [observeReflexes, allReflexes, split, List.foldl_append, first, List.foldl_cons, acts x there, last]
  refine congrArg u.withReflexes (Vector.ext fun j hj => ?_)
  have given := noted ⟨j, hj⟩
  rw [Vector.get_eq_getElem] at given
  refine given.trans ?_
  by_cases e : (⟨j, hj⟩ : Fin 16) = i
  · rw [e, if_neg out2, State.reflex_setReflex_same, ← e]
    exact (Vector.getElem_set_self ..).symm
  · have other : i.val ≠ j := fun k => e (Fin.ext k.symm)
    have stands : ((s.reflexes.map (Reflex.noting w)).set i r)[j] = (s.reflex ⟨j, hj⟩).noting w := by
      rw [Vector.getElem_set_ne _ _ other, Vector.getElem_map]
      rfl
    rw [stands, middle _ e, each]
    have mem := all ⟨j, hj⟩
    simp only [List.mem_append, List.mem_cons, e, false_or] at mem
    obtain before | behind := mem
    · rw [if_pos before]
      split <;> simp
    · rw [if_pos behind]
      split <;> simp

theorem State.touching_setReflex (s : State) (p : Port) (raw : RawSample) (i : Fin 16) (r : Reflex) :
    (s.setReflex i r).touching p raw = (s.touching p raw).setReflex i r := by
  unfold State.touching State.portWritten
  dsimp only
  rw [apply_ite (State.setReflex · i r)]
  rfl

/-- The write of a TOUCH sample as the ARMED reflex on its cell sees it. -/
theorem analogDue_setReflex {raw : RawSample} (h : s.stillPort p) (touch : (s.port p).cls = .touch)
    (hs : (s.acquisition p).schedule = .analog) (hr : reached s.hubTime (s.acquisition p).nextDue = true)
    (hc : r.cell = .port p 0) (ha : r.state = .armed) :
    (r.holds (s.touchCell p raw) = false →
      analogDue p raw (s.setReflex i r) = drain ((s.touched p raw).setReflex i (r.seeing ⟨.port p 0, s.touchCell p raw⟩))) ∧
    (r.holds (s.touchCell p raw) = true → analogDue p raw (s.setReflex i r) =
      drain (observeSubs ⟨.port p 0, s.touchCell p raw⟩
        (((s.touched p raw).firedBy i r ⟨.port p 0, s.touchCell p raw⟩).setReflex i
          ((r.fired (reflexAct i r.action ⟨.port p 0, s.touchCell p raw⟩ (s.touched p raw)).1).seeing
            ⟨.port p 0, s.touchCell p raw⟩)))) := by
  obtain ⟨-, dormant, route, -⟩ := h
  obtain ⟨-, subs, -⟩ := s.touched_keeps p raw
  obtain ⟨acq, flags, attention, kept⟩ := s.touching_keeps p raw
  have reflexes : (s.touching p raw).reflexes = s.reflexes := by rw [kept]; rfl
  set w : Write := ⟨.port p 0, s.touchCell p raw⟩
  set y := (s.touching p raw).setReflex i r
  have there : y.reflex i = r := State.reflex_setReflex_same ..
  have others (j : Fin 16) (hj : j ≠ i) (on : (y.reflex j).cell = w.cell) : (y.reflex j).state = .disabled := by
    rw [State.reflex_setReflex_other _ _ (Ne.symm hj), State.reflex, reflexes] at on ⊢
    exact (dormant 0).1 j on
  have noted (u : State) (q : Reflex) : u.withReflexes ((y.reflexes.map (Reflex.noting w)).set i q) =
      (u.withReflexes (s.touched p raw).reflexes).setReflex i q := by
    have same : (s.reflexes.set i r).map (Reflex.noting w) = (s.reflexes.map (Reflex.noting w)).set i (r.noting w) :=
      Vector.map_set
    have before : y.reflexes = s.reflexes.set i r := congrArg (Vector.set · i r) reflexes
    rw [before, same, Vector.set_set, State.touched_reflexes]
    rfl
  have evaluates (x : Vector Reflex 16) (hx : x.get i = y.reflex i) : (y.withReflexes x).reflex i = r := hx.trans there
  have as_touched : (s.touching p raw).withReflexes (s.touched p raw).reflexes = s.touched p raw := rfl
  have writes : analogDue p raw (s.setReflex i r) = drain (observeSubs w (observeReflexes w y)) := by
    rw [analogDue_touch (s := s.setReflex i r) touch hs hr route, State.touching_setReflex]
    rfl
  refine ⟨fun calm => ?_, fun holds => ?_⟩
  · rw [writes, observeReflexes_acting (u := s.touching p raw) (r := r.seeing w) others, noted, observeSubs_ignored]
    · rfl
    · intro j
      show ((s.touched p raw).subs.get j).active = true → ((s.touched p raw).subs.get j).cell ≠ _
      rw [subs]
      exact (dormant 0).2 j
    · intro x hx
      have stands := evaluates x hx
      rw [evaluateReflex_still (by rw [stands]; exact hc) (.inr (by rw [stands]; exact ⟨ha, calm⟩)), stands]
      rfl
  · rw [writes, observeReflexes_acting (u := (s.touching p raw).firedBy i r w)
      (r := (r.fired (reflexAct i r.action w (s.touching p raw)).1).seeing w) others, noted,
      ← (firedBy_unread i r w).swap, as_touched, ← reflexAct_outcome i r.action w _ (s.touched p raw).reflexes, as_touched]
    intro x hx
    have stands := evaluates x hx
    rw [evaluateReflex_fires (by rw [stands]; exact hc) (by rw [stands]; exact ha) (by rw [stands]; exact holds), stands,
      ← (firedBy_unread i r w).swap]
    refine congrArg (State.setReflex _ i) ?_
    have out : (reflexAct i r.action w (y.withReflexes x)).1 = (reflexAct i r.action w (s.touching p raw)).1 :=
      reflexAct_outcome i r.action w (s.touching p raw) x
    rw [out]

/-- What is left of a firing that hands one event over, where nothing watches S3. -/
theorem drain_handed {l : Link} {f : Frame} (i : Fin 16) (k : Nat) (nil : t.unobserved = []) (ign : t.ignores (.sys 3))
    (idle : t.mgmt.inProgress = none) (small : t.free ≤ 128) (hr : r.cell ≠ .sys 3)
    (unseen : ∀ j, (t.sub j).active = true → (t.sub j).cell ≠ w.cell) :
    drain (observeSubs w ((setLatch k (placeUrgent l f t)).setReflex i r)) = ((t.handed l f).latched k).setReflex i r := by
  have handed := ((Awaits.of_nil nil).placeUrgent (l := l) (f := f) idle (small.trans (by decide))).setLatch k
  have writes := placeUrgent_writesS3 l f t
  obtain ⟨-, subs, still, -⟩ := t.handed_keeps l f
  have reflexes : (t.handed l f).reflexes = t.reflexes := by
    unfold State.handed
    dsimp only
    split
    · rfl
    · split <;> rfl
  have same : ((t.handed l f).latched k).ignores (.sys 3) := by
    refine ⟨fun j => ?_, fun j => ?_⟩
    · show ((t.handed l f).reflexes.get j).cell ≠ _
      rw [reflexes]
      exact ign.1 j
    · show ((t.handed l f).subs.get j).active = true → ((t.handed l f).subs.get j).cell ≠ _
      rw [subs]
      exact ign.2 j
  rw [observeSubs_ignored]
  · exact (handed.map (f := fun s => s.setReflex i r) fun _ => rfl).drain (still.trans nil) (same.setReflex i hr)
  · intro j
    show ((placeUrgent l f t).subs.get j).active = true → ((placeUrgent l f t).subs.get j).cell ≠ _
    rw [writes.subs]
    exact unseen j

/-- Settles O59: the sample's write by the fold in which one reflex acts, a write alone by the state of its reflex. -/
theorem reflexFiresOnItsWrite : Obligations.ReflexFiresOnItsWrite := by
  unfold Obligations.ReflexFiresOnItsWrite
  refine ⟨?sampled, fun w i s hc conserved idle => ?written⟩
  case sampled =>
    intro p raw i r s h hq touch hsch hr idle hc ha t c seen fires sampled
    obtain ⟨cell, subs, free, links, now, nil, mgmt⟩ := s.touched_keeps p raw
    have left : s.touchCell p raw = c := cell.symm
    have quiet : t.unobserved = [] := nil.trans hq.1.2
    have ign : t.ignores (.sys 3) := State.touched_ignores hq.2.2
    obtain ⟨stays, acts⟩ := analogDue_setReflex (i := i) (raw := raw) h touch hsch hr hc ha
    rw [left] at stays acts
    have run_to {z : State} (e : analogDue p raw (s.setReflex i r) = drain z) : sampled = .next (drain z) :=
      run_eq_of_nil (s := s.setReflex i r) (f := analogDue p raw) hq.1 e (drain_unobserved _)
    refine ⟨fun calm => ?_, fun e holds act silent => ?_⟩
    · rw [run_to (stays calm), drain_of_nil]
      · rfl
      · exact quiet
    have sends := acts holds
    rw [State.firedBy, silent, act] at sends
    have unseen (j : Fin 24) : (t.sub j).active = true → (t.sub j).cell ≠ .port p 0 := by
      rw [State.sub, subs]
      exact (h.2.1 0).2 j
    have on : ((r.fired (reflexAct i (.sendEvent e) ⟨.port p 0, c⟩ t).1).seeing ⟨.port p 0, c⟩).cell ≠ .sys 3 := by
      show r.cell ≠ _
      rw [hc]
      simp
    have small : t.free ≤ 128 := free.trans_le hq.2.1.free_le
    have unasked : t.mgmt.inProgress = none := (congrArg Mgmt.inProgress mgmt).trans idle
    have result : sampled = .next (((t.handed e.link (eventFrame e (reflexSignalPayload i ⟨.port p 0, c⟩ t.hubTime))).latched
        11).setReflex i ((r.fired (reflexAct i (.sendEvent e) ⟨.port p 0, c⟩ t).1).seeing ⟨.port p 0, c⟩)) :=
      (run_to sends).trans (congrArg Host.Outcome.next (drain_handed i latchReflexFired quiet ign unasked small on unseen))
    have link : s.link e.link = t.link e.link := by rw [State.link, State.link, links]
    obtain ⟨down, -, placed⟩ := sendEvent_outcome (s := t) (i := i) (w := ⟨.port p 0, c⟩) e unasked
    rw [Reflex.fired_eq] at result
    rw [link, ← free]
    refine ⟨fun off => ?_, fun up pages short => ?_⟩
    · rw [result, down off, State.handed, if_pos off]
      rfl
    · rw [result, placed up pages short, State.handed_room up pages short, congrArg CellId.code hc, ← now]
      rfl
  case written =>
    intro r seen written
    refine ⟨fun disabled => evaluateReflex_still hc (.inl disabled), fun armed calm => evaluateReflex_still hc (.inr ⟨armed, calm⟩),
      fun fired => ?_, fun armed holds => ?_⟩
    · exact evaluateReflex_fired hc fired
    obtain ⟨out, motors, voices, latch, record⟩ := evaluateReflex_fires_fields hc armed holds
    refine ⟨?_, fun e he => ?_, ?_⟩
    · rw [Reflex.fired_eq] at record
      refine ⟨?_, latch, ?_, ?_, ?_⟩ <;> rw [record] <;> rfl
    · rw [he] at out
      obtain ⟨down, full, placed⟩ := sendEvent_outcome (i := i) (w := w) e idle
      refine ⟨fun h => out.trans (down h), fun h k => out.trans (full h k), fun up free short =>
        ⟨out.trans (placed up free short), fun none => ?_⟩⟩
      exact evaluateReflex_sends conserved idle armed hc holds he none up free short
    intro outcome motion
    have moves (p : Port) (q : MotionRequest) (hq : reflexAct i r.action w s = reflexMotion p (some q) s)
        (passes : ∀ m, s.takesMotion p m → motionRefusal p q m s = none) (takes : Motor → Prop)
        (h : ∀ m, written.motor p = some (m.take (s.classes.get m.cls).ratedMax q).1 → takes m) : motion p takes := by
      obtain ⟨absent, attached⟩ := reflexMotion_outcome p q s passes
      rw [hq] at out motors
      refine ⟨fun hm => out.trans (absent hm), fun m hm => ?_⟩
      obtain ⟨locked, held, off, taken⟩ := attached m hm
      refine ⟨fun h => out.trans (locked h), fun h k => out.trans (held h k), fun h k j => out.trans (off h k j), fun ht => ?_⟩
      rw [taken ht] at out motors
      exact ⟨out, h m ((motors p).trans (takeMotion_motor ..))⟩
    have sounds (v : VoiceId) (q : SoundRequest) (hq : reflexAct i r.action w s = reflexSound v (some q) s) :
        (∀ st, soundRefusal v q s = some st → outcome = .refused st) ∧
        (soundRefusal v q s = none → outcome = .done ∧ written.voice v = (takeSound v q s).voice v) := by
      rw [hq] at out voices
      refine ⟨fun st hr => ?_, fun hr => ?_⟩
      · rw [reflexSound, hr] at out
        exact out
      · rw [reflexSound, hr] at out voices
        exact ⟨out, voices v⟩
    refine ⟨fun p raw ha => ⟨fun bad => ?_, fun g hg => ?_⟩, fun p e lock ha => ?_, fun v raw ha => ⟨fun bad => ?_, fun n hn => ?_⟩,
      fun v cut ha => ?_, fun e he => ?_⟩
    · rw [ha, reflexAct, bad] at out
      exact out
    · refine moves p (.replace g) (by rw [ha, reflexAct, hg]; rfl) (fun m takes => takesMotion_passes takes) _ fun m hm => ?_
      rw [hm, Motor.take_replace]
    · cases lock with
      | true =>
        refine moves p .lock (by rw [ha]; rfl) (fun m takes => takesMotion_passes takes) _ fun m hm => ⟨fun _ => hm, ?_⟩
        exact fun g rest h => absurd h (by decide)
      | false =>
        refine moves p (.abort e) (by rw [ha]; rfl) (fun m takes => takesMotion_passes takes) _ fun m hm =>
          ⟨fun h => absurd h (by decide), fun g rest _ hx hq => ?_⟩
        rw [hm, Motor.take_abort _ e hx hq]
    · rw [ha, reflexAct, bad] at out
      exact out
    · obtain ⟨refused, taken⟩ := sounds v (.play n) (by rw [ha, reflexAct, hn]; rfl)
      refine ⟨fun critical => refused .wrongState (if_pos critical), fun supplied => ?_⟩
      obtain ⟨done, voice⟩ := taken (if_neg supplied)
      refine ⟨done, ?_⟩
      rw [voice]
      exact playNote_notes ..
    · cases cut with
      | true =>
        obtain ⟨done, voice⟩ := (sounds v .stopCut (by rw [ha]; rfl)).2 rfl
        refine ⟨done, fun _ => ?_⟩
        rw [voice]
        exact stopCutVoice_idle ..
      | false => exact ⟨((sounds v .stopRelease (by rw [ha]; rfl)).2 rfl).1, fun h => absurd h (by decide)⟩
    · have event := evaluateReflex_event hc armed holds he
      rw [reflexFiredPayload_eq, ← out] at event
      exact event

end Sys2Proof.Machine
end
